-- ==== Sys2Proof/Word.lean ====
section
/-! DEFINITION. The line word (R42, R191): 16 bits, bit 15 the most significant and first sent. -/

namespace Sys2Proof

/-- One word on the line, R191. -/
abbrev Word := BitVec 16

end Sys2Proof
end

