-- ==== Sys2Proof/Config.lean ====
section
/-! DEFINITION. What one part is fixed with at the factory and the spec gives no value for: the values
State.reset carries in the identity record (R177). DESIGN CHOICE, notes/assumptions/5.md. No rule of the
model reads them: every rule reads the record in State. -/

namespace Sys2Proof.Config

/-- Vendor code of the reset state's identity record, R177 (DESIGN CHOICE, log 5; unsafe). -/
def vendorCode : Word := 0x0000#16

/-- Part code of the reset state's identity record, R177 (DESIGN CHOICE, log 5; unsafe). -/
def partCode : Word := 0x2204#16

/-- Silicon revision of the reset state's identity record, R177 (DESIGN CHOICE, log 5; unsafe). -/
def revision : BitVec 8 := 0x00#8

/-- Serial number of the reset state's identity record, R177 (DESIGN CHOICE, log 5; unsafe). -/
def serial : BitVec 32 := 0x00000000#32

end Sys2Proof.Config
end

