-- ==== Sys2Proof/Syntax.lean ====
section
/-! DEFINITION. The commands of the block: one constructor of Instr per row of spec/opcode_table.json. The table
gives the rows no fields; the operands are what each event brings with it (notes/assumptions/2.md, 3.md, 9.md). -/

namespace Sys2Proof

/-- Line ports, R42: A faces west, B faces east. -/
inductive Port where
  | a
  | b
  deriving DecidableEq, Repr

/-- The two faces of a node. -/
inductive Face where
  | e
  | w
  deriving DecidableEq, Repr

/-- The four shutters of a face, in channel order, R23. -/
inductive Shutter where
  | mask
  | arrow
  | diagL
  | diagR
  deriving DecidableEq, Repr

/-- A checked frame (R45) less what its row and port fix: KIND, PASS, LENGTH and the CRC word. `body` holds
words 2 to LENGTH - 2. -/
structure Payload where
  flags : BitVec 4
  word1 : Word
  body  : List Word
  deriving DecidableEq, Repr

/-- A checked COMMAND frame on its outbound pass, less KIND, PASS, LENGTH, CODE and the CRC word (R64, R193). -/
structure CommandPayload where
  flags  : BitVec 4
  target : BitVec 8
  body   : List Word
  deriving DecidableEq, Repr

/-- The symbols of the line, R42, R44. -/
inductive Symbol where
  | frameStart
  | word (w : Word)
  | frameEnd
  | idleFill
  | codeViolation
  deriving DecidableEq, Repr

/-- Raw sensed currents of one face's channels, each in 1/256 of a step (R24). -/
structure FaceSense where
  lamp  : Nat
  mask  : Nat
  arrow : Nat
  diagL : Nat
  diagR : Nat
  deriving DecidableEq, Repr

/-- Raw sensed currents of the ten channels at one instant (R24). -/
structure Sensed where
  e : FaceSense
  w : FaceSense
  deriving DecidableEq, Repr

/-- The rows of spec/opcode_table.json. -/
inductive Instr where
  | sweep (p : Port) (x : Payload)
  | rollcall (x : Payload)
  | enumerate (x : Payload)
  | closeall (p : Port) (x : Payload)
  | unknownFrame (p : Port) (kind : BitVec 4) (x : Payload)
  | forwardUnchanged (p : Port) (kind : BitVec 4) (x : Payload)
  | startUpForward (p : Port) (kind : BitVec 4) (x : Payload)
  | frameCheckFailed (p : Port) (ws : List Word)
  /-- `symbols`: what the port has received since its last command, to the symbol that makes the error. -/
  | framingError (p : Port) (symbols : List Symbol)
  | frameSent (p : Port)
  /-- `symbols`: what the port has received since its last command, before it went silent. -/
  | portDown (p : Port) (symbols : List Symbol)
  /-- `symbols`: what the port has received since its last command, as it comes UP. -/
  | portUp (p : Port) (symbols : List Symbol)
  | readIdentity (x : CommandPayload)
  | readSite (x : CommandPayload)
  | readStatus (x : CommandPayload)
  | readFace (x : CommandPayload)
  /-- `raw`: the named channel's sensed current at this instant. -/
  | readChannel (x : CommandPayload) (raw : Nat)
  | readPlan (x : CommandPayload)
  | readLocks (x : CommandPayload)
  | readCounters (x : CommandPayload)
  /-- `arriving`: whether a frame is arriving on port B while the command is executed. -/
  | writeSite (x : CommandPayload) (arriving : Bool)
  | writeFace (x : CommandPayload)
  | setMasks (x : CommandPayload)
  /-- `sense`: the ten sensed currents at this instant. -/
  | clearFaults (x : CommandPayload) (sense : Sensed)
  | loadBegin (x : CommandPayload)
  | loadBlock (x : CommandPayload)
  | loadEnd (x : CommandPayload)
  | swap (x : CommandPayload)
  | store (x : CommandPayload)
  | eraseStore (x : CommandPayload)
  | commission (x : CommandPayload)
  | enterService (x : CommandPayload)
  | leaveService (x : CommandPayload)
  /-- `elapsed`: milliseconds by which the held sweep recency falls short of the true one at this instant (R153). -/
  | release (x : CommandPayload) (elapsed : Nat)
  | maintain (x : CommandPayload)
  | endMaintain (x : CommandPayload)
  | reset (x : CommandPayload)
  | faceSet (x : CommandPayload)
  | elementTest (x : CommandPayload)
  | possFrom (x : CommandPayload)
  | possTo (x : CommandPayload)
  | possExcept (x : CommandPayload)
  | possApply (x : CommandPayload)
  | possLift (x : CommandPayload)
  | undefinedCommand (code : BitVec 8) (x : CommandPayload)
  /-- `rawPeak`: the highest sensed current since PULLING began; `rawNow`: the sensed current of the dip. -/
  | moved (f : Face) (k : Shutter) (rawPeak rawNow : Nat)
  | hitTimeEnd (f : Face) (k : Shutter)
  | holdLost (f : Face) (k : Shutter) (raw : Nat)
  | dropped (f : Face) (k : Shutter) (raw : Nat)
  | notDropped (f : Face) (k : Shutter) (raw : Nat)
  | overcurrent (f : Face) (k : Shutter) (raw : Nat)
  | lit (f : Face) (raw : Nat)
  | notLit (f : Face)
  | lampOpen (f : Face) (raw : Nat)
  | lampOvercurrent (f : Face) (raw : Nat)
  | lampCurrentMoveEnd (f : Face)
  | tHoldExpiry
  | tCloseExpiry
  /-- `microamps`: the loop current that stood for 20 ms. -/
  | loopOpen (microamps : Nat)
  /-- `microamps`: the loop current that stood for 200 ms. -/
  | loopRestored (microamps : Nat)
  /-- `millivolts`: the supply that stood for 50 ms. -/
  | supplyLow (millivolts : Nat)
  /-- `millivolts`: the least supply over `ms` milliseconds without a break. -/
  | supplyNormal (millivolts ms : Nat)
  /-- `millivolts`: the supply, below 16.0 V for 5 ms. -/
  | supplyDipReset (millivolts : Nat)
  | powerOn
  /-- `millivolts`: the supply that stood for 10 ms. -/
  | resetEnd (millivolts : Nat)
  | startUpSettleEnd
  | storeImageDone
  | eraseImageDone
  | lockWriteDone
  | discardingEnd (p : Port)
  deriving DecidableEq, Repr

end Sys2Proof
end

