-- ==== Sys2Proof/Machine/State.lean ====
section
/-! DEFINITION. Everything the spec gives the node to hold, block by block, and the state after reset. Plain data.
The records follow 00_scope.md's blocks: chain interface, node controller, sweep processor, face controller, element
block, plan table block, possession block, supervision, fault block, storage block. -/

namespace Sys2Proof.Machine

/-! ### Faces (R1-R22) -/

/-- The five aspects, R2. -/
inductive Aspect where
  | opened
  | mergeL
  | mergeR
  | closed
  | dark
  deriving DecidableEq, Repr

/-- R4. -/
inductive FaceState where
  | steady
  | changing
  | returning
  deriving DecidableEq, Repr

/-- A pair of ranks, R5. -/
structure Envelope where
  floor   : Nat
  ceiling : Nat
  deriving DecidableEq, Repr

/-- The step of a change, R9. -/
inductive ChangeStep where
  | one
  | two
  deriving DecidableEq, Repr

/-- The change-in-progress field, R7, R9. -/
structure Change where
  src   : Aspect
  dst   : Aspect
  phase : ChangeStep
  deriving DecidableEq, Repr

/-- The causes of a target, R7. -/
inductive TargetCause where
  | plan
  | possession
  | merge
  | boundary
  | leave
  | maint
  deriving DecidableEq, Repr

/-- The reasons of a pending target, R7. -/
inductive Reason where
  | upstream
  | pair
  | lane
  | possession
  | mergeTarget
  | downstream
  | inChange
  | fault
  deriving DecidableEq, Repr

/-- An aspect with its cause: the current target, R7. -/
structure Target where
  aspect : Aspect
  cause  : TargetCause
  deriving DecidableEq, Repr

/-- The pending-target field, R7; `age` is 0-255, R114. -/
structure PendingTarget where
  aspect : Aspect
  cause  : TargetCause
  age    : Nat
  reason : Reason
  deriving DecidableEq, Repr

/-- The fault latch of a face, R7. -/
inductive FaceLatch where
  | none
  | element
  | lamp
  deriving DecidableEq, Repr

/-- The side of a merge aspect, R116. -/
inductive Side where
  | left
  | right
  deriving DecidableEq, Repr

/-- The face record, R7. `mergeLost` is the merge-lost latch with its side (R116), clear when none.
`relightAwaited` is set while a STEADY DARK face waits for its shutters to be OFF before the relight of R14
(R18, R20, R39); `testedWait` while that wait is R39's, for a face asked to CLOSED that held shutters PULLING or HOLDING. -/
structure FaceRecord where
  shown          : Aspect
  state          : FaceState
  env            : Envelope
  change         : Option Change
  pending        : Option PendingTarget
  latch          : FaceLatch
  mergeLost      : Option Side
  target         : Target
  relightAwaited : Bool
  testedWait     : Bool
  deriving DecidableEq, Repr

/-- The two face records. -/
structure FacePair where
  e : FaceRecord
  w : FaceRecord
  deriving DecidableEq, Repr

/-- A face record after any reset, R22. -/
def FaceRecord.reset : FaceRecord :=
  { shown := .dark, state := .steady, env := ⟨0, 2⟩, change := none, pending := none, latch := .none,
    mergeLost := none, target := ⟨.closed, .plan⟩, relightAwaited := false, testedWait := false }

/-! ### Element block (R23-R41) -/

/-- The fault kinds of the ten channels, R23. -/
inductive ChannelFault where
  | none
  | notMoved
  | holdLost
  | notDropped
  | overcurrent
  | notLit
  | lampOpen
  deriving DecidableEq, Repr

/-- R23. -/
inductive ShutterState where
  | off
  | pulling
  | holding
  | releasing
  | blocked
  deriving DecidableEq, Repr

/-- R23. -/
inductive LampState where
  | off
  | ramping
  | lit
  | blocked
  deriving DecidableEq, Repr

/-- A shutter channel record, R23. `measured` is the current of the last sample a command brought (log 2); `timer` is
the duration in ms the running hit-time or release-settle timer was started at (R28, R32). -/
structure ShutterChannel where
  state     : ShutterState
  lastFault : ChannelFault
  measured  : Nat
  movedSeen : Bool
  peak      : Option Nat
  timer     : Option Nat
  deriving DecidableEq, Repr

/-- A lamp channel record, R23. `timer` is the ramp time the running ramp was started at (R35); `moveFrom` is the old
lamp current while a move to a new one is in progress (R36). -/
structure LampChannel where
  state     : LampState
  lastFault : ChannelFault
  measured  : Nat
  timer     : Option Nat
  moveFrom  : Option Nat
  deriving DecidableEq, Repr

/-- A shutter channel after any reset, R41; measured current 0 is DESIGN CHOICE (log 7, unsafe). -/
def ShutterChannel.reset : ShutterChannel :=
  { state := .off, lastFault := .none, measured := 0, movedSeen := false, peak := none, timer := none }

/-- A lamp channel after any reset, R41; measured current 0 is DESIGN CHOICE (log 7, unsafe). -/
def LampChannel.reset : LampChannel :=
  { state := .off, lastFault := .none, measured := 0, timer := none, moveFrom := none }

/-- The five channels of one face, R23. -/
structure FaceChannels where
  lamp  : LampChannel
  mask  : ShutterChannel
  arrow : ShutterChannel
  diagL : ShutterChannel
  diagR : ShutterChannel
  deriving DecidableEq, Repr

/-- R41. -/
def FaceChannels.reset : FaceChannels := ⟨.reset, .reset, .reset, .reset, .reset⟩

/-- The parameters of one shutter, R25: currents in steps, times in ms. -/
structure ShutterParams where
  hit          : Nat
  hold         : Nat
  hitTime      : Nat
  dipThreshold : Nat
  dipDebounce  : Nat
  settle       : Nat
  deriving DecidableEq, Repr

/-- A face configuration, R25. -/
structure FaceConfig where
  diagLFitted : Bool
  diagRFitted : Bool
  warning     : Aspect
  mask        : ShutterParams
  arrow       : ShutterParams
  diagL       : ShutterParams
  diagR       : ShutterParams
  lampCurrent : Nat
  rampTime    : Nat
  deriving DecidableEq, Repr

/-- The default shutter parameters, R41. -/
def ShutterParams.default : ShutterParams := ⟨100, 30, 120, 4, 4, 40⟩

/-- The default face configuration, R41. -/
def FaceConfig.default : FaceConfig :=
  { diagLFitted := false, diagRFitted := false, warning := .closed, mask := .default, arrow := .default,
    diagL := .default, diagR := .default, lampCurrent := 64, rampTime := 200 }

/-- The element block: ten channel records and the working face configurations. -/
structure ElementBlock where
  e    : FaceChannels
  w    : FaceChannels
  cfgE : FaceConfig
  cfgW : FaceConfig
  deriving DecidableEq, Repr

/-- R41. -/
def ElementBlock.reset : ElementBlock := ⟨.reset, .reset, .default, .default⟩

/-! ### Chain interface (R42-R59) -/

/-- The link state of a port, R43. -/
inductive Link where
  | up
  | down
  deriving DecidableEq, Repr

/-- R44. -/
inductive RxState where
  | idle
  | receiving
  | discarding
  deriving DecidableEq, Repr

/-- A port's receiver and receive buffer, R44: the words since the frame-start mark, as far as the rows have brought them
(log 9). -/
structure Receiver where
  state  : RxState
  buffer : List Word
  deriving DecidableEq, Repr

/-- A frame in a forwarding queue: its words with the CRC word last, as sent (R48, R50). `carriesReset` marks the
RESET frame whose departure the commanded reset waits for (R79). -/
structure QueuedFrame where
  words        : List Word
  carriesReset : Bool
  deriving DecidableEq, Repr

/-- R51. -/
inductive LineRole where
  | through
  | endConfigured
  | endWrapped
  deriving DecidableEq, Repr

/-- The six counters of one port, R57. -/
structure LineCounters where
  good      : BitVec 16
  framing   : BitVec 16
  crc       : BitVec 16
  direction : BitVec 16
  overrun   : BitVec 16
  unknown   : BitVec 16
  deriving DecidableEq, Repr

/-- The chain interface. -/
structure LineBlock where
  linkA         : Link
  linkB         : Link
  rxA           : Receiver
  rxB           : Receiver
  outboundQueue : List QueuedFrame
  returnQueue   : List QueuedFrame
  role          : LineRole
  countA        : LineCounters
  countB        : LineCounters
  deriving DecidableEq, Repr

/-- R59. -/
def LineBlock.reset : LineBlock :=
  { linkA := .up, linkB := .up, rxA := ⟨.idle, []⟩, rxB := ⟨.idle, []⟩, outboundQueue := [], returnQueue := [],
    role := .through, countA := ⟨0, 0, 0, 0, 0, 0⟩, countB := ⟨0, 0, 0, 0, 0, 0⟩ }

/-! ### Node controller (R60-R80) -/

/-- R60. -/
inductive NodeState where
  | unnumbered
  | numbered
  | standby
  | service
  | held
  | failsafe
  | maintenance
  deriving DecidableEq, Repr

/-- R60. -/
inductive ResetCause where
  | powerOn
  | supplyDip
  | commanded
  deriving DecidableEq, Repr

/-- The forced-closure causes, R150. -/
inductive Cause where
  | closeAll
  | loop
  | silence
  | supply
  | position
  deriving DecidableEq, Repr

/-- The forced-closure cause set, R60, R150. -/
structure CauseSet where
  closeAll : Bool
  loop     : Bool
  silence  : Bool
  supply   : Bool
  position : Bool
  deriving DecidableEq, Repr

/-- The empty cause set. -/
def CauseSet.empty : CauseSet := ⟨false, false, false, false, false⟩

/-- The node record, R60. -/
structure NodeRecord where
  state          : NodeState
  leaving        : Bool
  ending         : Bool
  address        : BitVec 8
  positionAgrees : Bool
  resetCause     : ResetCause
  causes         : CauseSet
  firstCause     : Option Cause
  deriving DecidableEq, Repr

/-- The node record after a reset of the given cause, R80. -/
def NodeRecord.reset (c : ResetCause) : NodeRecord :=
  { state := .unnumbered, leaving := false, ending := false, address := 0, positionAgrees := false, resetCause := c,
    causes := .empty, firstCause := none }

/-! ### Sweep processor (R81-R102) -/

/-- The two passes of a frame. -/
inductive Pass where
  | out
  | ret
  deriving DecidableEq, Repr

/-- One face's half of a lane entry, R82. -/
structure Half where
  shown   : Aspect
  floor   : Nat
  ceiling : Nat
  deriving DecidableEq, Repr

/-- A lane entry read as present, R82. -/
structure LaneEntry where
  e : Half
  w : Half
  deriving DecidableEq, Repr

/-- A kept merge entry with the sequence of its pass, R90. -/
structure MergeEntry where
  entry : Option LaneEntry
  seq   : Option (BitVec 16)
  deriving DecidableEq, Repr

/-- The sweep record and the kept entries, R89-R91. -/
structure SweepBlock where
  expected   : Pass
  seq        : Option (BitVec 16)
  lastActing : Option Pass
  downE      : Option Half
  downW      : Option Half
  lower      : MergeEntry
  upper      : MergeEntry
  deriving DecidableEq, Repr

/-- R102. -/
def SweepBlock.reset : SweepBlock :=
  { expected := .out, seq := none, lastActing := none, downE := none, downW := none, lower := ⟨none, none⟩,
    upper := ⟨none, none⟩ }

/-! ### Plan table block (R120-R135) -/

/-- A plan entry, R120. -/
structure PlanEntry where
  plan : Nat
  e    : Aspect
  w    : Aspect
  deriving DecidableEq, Repr

/-- A plan bank with its check value, R121. -/
structure Bank where
  entries : List PlanEntry
  check   : Word
  deriving DecidableEq, Repr

/-- The empty bank; its check value is FFFFh, R121. -/
def Bank.empty : Bank := ⟨[], 0xFFFF#16⟩

/-- R123. -/
inductive SessionState where
  | none
  | opened
  | spoiled
  deriving DecidableEq, Repr

/-- The load session record, R123. -/
structure LoadSession where
  state    : SessionState
  expected : Option Nat
  received : Nat
  deriving DecidableEq, Repr

/-- The plan table block. -/
structure PlanBlock where
  active       : Bank
  staging      : Bank
  stagingValid : Bool
  session      : LoadSession
  deriving DecidableEq, Repr

/-- R135, before start-up loads ACTIVE. -/
def PlanBlock.reset : PlanBlock :=
  { active := .empty, staging := .empty, stagingValid := false, session := ⟨.none, none, 0⟩ }

/-! ### Possession block (R136-R149) -/

/-- The faces of a possession or a lock, R136, R141. -/
inductive LockFaces where
  | e
  | w
  | both
  deriving DecidableEq, Repr

/-- R136. -/
inductive SeqState where
  | none
  | fromSet
  | rangeSet
  deriving DecidableEq, Repr

/-- The possession sequence record, R136. -/
structure SeqRecord where
  state       : SeqState
  fromGantry  : Option Nat
  laneMask    : Option (BitVec 8)
  faces       : Option LockFaces
  toGantry    : Option Nat
  exceptList  : List Nat
  deriving DecidableEq, Repr

/-- The record in state NONE, R136. -/
def SeqRecord.cleared : SeqRecord := ⟨.none, none, none, none, none, []⟩

/-- A lock, R141. `inCopy` is set while the lock stands in the copy of the write in progress and has not been lifted
since (R146). -/
structure Lock where
  id      : Nat
  faces   : LockFaces
  durable : Bool
  inCopy  : Bool
  deriving DecidableEq, Repr

/-- The possession block. -/
structure PossBlock where
  seq   : SeqRecord
  locks : List Lock
  dirty : Bool
  deriving DecidableEq, Repr

/-- R149, before start-up loads the locks. -/
def PossBlock.reset : PossBlock := ⟨.cleared, [], false⟩

/-! ### Supervision (R150-R163) -/

/-- The silence timer with the interval in ms read at the stage's start, R154, R156. -/
inductive SilenceTimer where
  | stopped
  | holdStage (interval : Nat)
  | closeStage (interval : Nat)
  deriving DecidableEq, Repr

/-- R157. -/
inductive LoopState where
  | evaluating
  | restored
  | opened
  deriving DecidableEq, Repr

/-- R158. -/
inductive SupplyState where
  | evaluating
  | normal
  | low
  deriving DecidableEq, Repr

/-- Supervision. `recency` is the age in ms of the last valid sweep pass, or none, R153 (log 3). -/
structure SupBlock where
  recency    : Option Nat
  timer      : SilenceTimer
  loop       : LoopState
  supply     : SupplyState
  releaseAll : Bool
  deriving DecidableEq, Repr

/-- R163. -/
def SupBlock.reset : SupBlock := ⟨none, .stopped, .evaluating, .evaluating, false⟩

/-! ### Fault block (R164-R176) -/

/-- The fault detail of one channel, R165. `kinds`: bit 3 NOT_MOVED or NOT_LIT, bit 2 HOLD_LOST or LAMP_OPEN, bit 1
NOT_DROPPED, bit 0 OVERCURRENT, as READ_STATUS returns them (R193). -/
structure FaultDetail where
  kinds : BitVec 4
  first : ChannelFault
  count : Nat
  deriving DecidableEq, Repr

/-- R176. -/
def FaultDetail.clear : FaultDetail := ⟨0, .none, 0⟩

/-- The details of one face's channels. -/
structure FaceDetails where
  lamp  : FaultDetail
  mask  : FaultDetail
  arrow : FaultDetail
  diagL : FaultDetail
  diagR : FaultDetail
  deriving DecidableEq, Repr

/-- R176. -/
def FaceDetails.clear : FaceDetails := ⟨.clear, .clear, .clear, .clear, .clear⟩

/-- The fault block. Latches and masks are numbered as R194's class latches. -/
structure FaultBlock where
  latches    : BitVec 12
  masks      : BitVec 12
  e          : FaceDetails
  w          : FaceDetails
  superseded : BitVec 16
  deriving DecidableEq, Repr

/-- R176. -/
def FaultBlock.reset : FaultBlock := ⟨0, 0, .clear, .clear, 0⟩

/-! ### Storage block (R177-R190) -/

/-- The face build of the identity record, R177. -/
structure FaceBuild where
  eDiagL : Bool
  eDiagR : Bool
  wDiagL : Bool
  wDiagR : Bool
  deriving DecidableEq, Repr

/-- The identity record, R177. `checkOk`: its stored check value matches its content (log 14). -/
structure Identity where
  vendor   : Word
  part     : Word
  revision : BitVec 8
  serial   : BitVec 32
  build    : FaceBuild
  checkOk  : Bool
  deriving DecidableEq, Repr

/-- The trims of one channel, R24: gain in 1/256, offset in steps. -/
structure Trim where
  gain   : Nat
  offset : Int
  deriving DecidableEq, Repr

/-- Gain 1 and offset 0, R24. -/
def Trim.unit : Trim := ⟨256, 0⟩

/-- The trims of one face's channels. -/
structure FaceTrims where
  lamp  : Trim
  mask  : Trim
  arrow : Trim
  diagL : Trim
  diagR : Trim
  deriving DecidableEq, Repr

/-- Unit trims on every channel of a face. -/
def FaceTrims.unit : FaceTrims := ⟨.unit, .unit, .unit, .unit, .unit⟩

/-- The calibration record, R24. `checkOk`: its stored check value matches its content (log 14). -/
structure Calibration where
  e       : FaceTrims
  w       : FaceTrims
  checkOk : Bool
  deriving DecidableEq, Repr

/-- R3, R178. -/
inductive LaneType where
  | none
  | eastOnly
  | westOnly
  | tidal
  deriving DecidableEq, Repr

/-- R180. -/
inductive VoteOutcome where
  | notHeld
  | allEqual
  | majority
  | failed
  deriving DecidableEq, Repr

/-- The fields of a site record, R178. The three lane-type copies are held as stored codes; times are in ms. -/
structure SiteRecord where
  echo      : Word
  gantry    : Nat
  lane      : Nat
  width     : Nat
  expected  : Nat
  endFlag   : Bool
  lane1     : BitVec 2
  lane2     : BitVec 2
  lane3     : BitVec 2
  tHold     : Nat
  tClose    : Nat
  stall     : Nat
  masks     : BitVec 12
  deriving DecidableEq, Repr

/-- The values of a site record that is not valid, R178; a field R178 gives as none is held as 0 (log 31). -/
def SiteRecord.notValid : SiteRecord :=
  { echo := 0, gantry := 0, lane := 0, width := 0, expected := 0, endFlag := false, lane1 := 0, lane2 := 0,
    lane3 := 0, tHold := 1000, tClose := 8000, stall := 50, masks := 0 }

/-- The working site record with its validity, working lane type and vote outcome, R178, R180. -/
structure WorkingSite where
  valid    : Bool
  fields   : SiteRecord
  laneType : LaneType
  vote     : VoteOutcome
  deriving DecidableEq, Repr

/-- R178, R188. -/
def WorkingSite.notValid : WorkingSite := ⟨false, .notValid, .none, .notHeld⟩

/-- R181. -/
inductive ImageState where
  | invalid
  | valid
  | erased
  | writing
  deriving DecidableEq, Repr

/-- An image in non-volatile store, R181. `content` is none while blank, erased or part-written; `checkOk`: its check
value matches its content (log 14). -/
structure Image (α : Type) where
  state   : ImageState
  content : Option α
  checkOk : Bool
  mark    : Bool
  deriving DecidableEq, Repr

/-- A blank image: INVALID, R181. -/
def Image.blank {α : Type} : Image α := ⟨.invalid, none, false, false⟩

/-- A lock as the lock-table image holds it, R181. -/
structure StoredLock where
  id    : Nat
  faces : LockFaces
  deriving DecidableEq, Repr

/-- The face-configuration image's content, R181. -/
structure StoredConfigs where
  e : FaceConfig
  w : FaceConfig
  deriving DecidableEq, Repr

/-- The copy a STORE works from, R183; no site record when it was not valid at the copy. -/
structure StoreCopy where
  site   : Option SiteRecord
  cfg    : StoredConfigs
  active : List PlanEntry
  deriving DecidableEq, Repr

/-- The image a STORE is writing, R183. -/
inductive StoreTurn where
  | site
  | faceConfig
  | plan
  deriving DecidableEq, Repr

/-- The image an ERASE_STORE is erasing, R184. -/
inductive EraseTurn where
  | site
  | plan
  deriving DecidableEq, Repr

/-- The storage block's writer with the copy it works from, R182, R183, R146. -/
inductive Writer where
  | idle
  | storing (copy : StoreCopy) (turn : StoreTurn)
  | erasing (turn : EraseTurn)
  | lockWriting (copy : List StoredLock)
  deriving DecidableEq, Repr

/-- The storage block. `identityOk` and `trimsInUse` are what start-up found of the factory records (R177, R24). -/
structure StorageBlock where
  identity    : Identity
  identityOk  : Bool
  calibration : Calibration
  trimsInUse  : Bool
  site        : WorkingSite
  siteImage   : Image SiteRecord
  faceImage   : Image StoredConfigs
  planImage   : Image (List PlanEntry)
  lockImage   : Image (List StoredLock)
  writer      : Writer
  deriving DecidableEq, Repr

/-- The storage block of a part that has left the factory (R181) and is in its first reset; the factory records'
contents are DESIGN CHOICE (log 5, unsafe). -/
def StorageBlock.factory : StorageBlock :=
  { identity := { vendor := Config.vendorCode, part := Config.partCode, revision := Config.revision,
                  serial := Config.serial, build := ⟨true, true, true, true⟩, checkOk := true }
    identityOk := false
    calibration := { e := .unit, w := .unit, checkOk := true }
    trimsInUse := false
    site := .notValid
    siteImage := .blank
    faceImage := .blank
    planImage := .blank
    lockImage := { state := .valid, content := some [], checkOk := true, mark := true }
    writer := .idle }

/-! ### The whole -/

/-- Where the part stands between power and service, R159, R186, R189: held in reset, in the 150 ms settle, relighting
(with which lamp channels have reported), or past start-up. -/
inductive Phase where
  | held
  | settling
  | relighting (eReported wReported : Bool)
  | running
  deriving DecidableEq, Repr

/-- The node: every record of its ten blocks, and the queue of waiting commands, first in, first out. -/
structure State where
  phase   : Phase
  line    : LineBlock
  node    : NodeRecord
  sweep   : SweepBlock
  faces   : FacePair
  elem    : ElementBlock
  plan    : PlanBlock
  poss    : PossBlock
  sup     : SupBlock
  fault   : FaultBlock
  store   : StorageBlock
  pending : List Instr
  deriving DecidableEq, Repr

/-- The node as its first power-on reset ends and start-up begins (R22, R41, R59, R80, R102, R135, R149, R163, R176,
R186), with the images as the part leaves the factory (R181; log 5, log 8). -/
def State.reset : State :=
  { phase := .settling
    line := .reset
    node := .reset .powerOn
    sweep := .reset
    faces := ⟨.reset, .reset⟩
    elem := .reset
    plan := .reset
    poss := .reset
    sup := .reset
    fault := .reset
    store := .factory
    pending := [] }

/-- The machine never stops with a fault: the spec names no behaviour that ends the part's operation, and every fault
it names is an effect on State. Nobody raises one (safe). -/
inductive Fault where
  deriving DecidableEq, Repr

/-- Refusals. -/
inductive Refusal where
  /-- Raised by exec's arm of a row that has no meaning yet (safe). No arm raises it in this model. -/
  | notModelled (mnemonic : String)
  deriving DecidableEq, Repr

end Sys2Proof.Machine
end

