-- ==== Sys2Proof/Machine/Limits.lean ====
section
/-! DEFINITION. The numbers the spec fixes for every part: limits, thresholds, ranges. -/

namespace Sys2Proof.Machine

/-- The end of the sensing range, in steps, R24. -/
def sensingLimit : Nat := 190

/-- The overcurrent limit of shutter and lamp channels, in steps, R33, R35. -/
def overcurrentLimit : Nat := 159

/-- The raw sensed current is brought in 1/256 of a step and the gain trim counts 1/256 (R24, log 2). -/
def rawScale : Nat := 256 * 256

/-- Loop current that counts as present, in microamperes: 4 mA, R157. -/
def loopPresent : Nat := 4000

/-- The supply monitor's lower threshold in mV: 21.0 V, R158. -/
def supplyLowThreshold : Nat := 21000

/-- The supply monitor's return threshold in mV: 21.5 V, R158. -/
def supplyReturnThreshold : Nat := 21500

/-- The time for the lower threshold in ms, R158. -/
def supplyLowTime : Nat := 50

/-- The time for the return threshold in ms, R158. -/
def supplyReturnTime : Nat := 500

/-- The dip-reset threshold in mV: 16.0 V, R159. -/
def dipThreshold : Nat := 16000

/-- The supply that ends a reset, in mV: 18.0 V, R159. -/
def resetEndThreshold : Nat := 18000

/-- Below this the part's logic does not run, in mV: 8.0 V, R159. -/
def logicThreshold : Nat := 8000

/-- Supervision's T_HOLD while the site record is not valid, in ms, R156. -/
def defaultTHold : Nat := 1000

/-- Supervision's T_CLOSE while the site record is not valid, in ms, R156. -/
def defaultTClose : Nat := 8000

/-- The most frames a forwarding queue holds, R49. -/
def queueLimit : Nat := 2

/-- The most entries a plan bank holds, R121. -/
def bankLimit : Nat := 48

/-- The most locks a lock table holds, R141. -/
def lockLimit : Nat := 4

/-- The most gantries an except list holds, R136. -/
def exceptLimit : Nat := 8

/-- The most words a frame holds, with its CRC word, R45. -/
def maxFrameWords : Nat := 127

/-- The least words a frame holds, with its CRC word, R45. -/
def minFrameWords : Nat := 4

/-- The highest chain address and plan number, R60, R120. -/
def maxAddress : Nat := 250

/-- The highest gantry number, R178. -/
def maxGantry : Nat := 64

/-- The cur gantry of a turned-around sweep, R97. -/
def eastEnd : Nat := 255

/-- The most entries a roll-call frame holds, R173. -/
def rollcallLimit : Nat := 61

/-- The largest value of an 8-bit count or age, R99, R114, R165. -/
def byteMax : Nat := 255

end Sys2Proof.Machine
end

