-- ==== Sys2Proof/Machine/Operands.lean ====
section
/-! DEFINITION. Words and fields: the frame header and CRC (R191), the sweep frame and lane entry (R192), the packed
arguments and results (R193), the codes (R194). -/

namespace Sys2Proof.Machine

/-! ### Bit fields -/

/-- The field of `len` bits of `w` whose lowest bit is bit `lo`. -/
def bits (w : Word) (lo len : Nat) : Nat := w.toNat / 2 ^ lo % 2 ^ len

/-- The bit `i` of `w`. -/
def bit (w : Word) (i : Nat) : Bool := w.getLsbD i

/-- Bits 15-8 of a word, "hi" in R193. -/
def hiByte (w : Word) : Nat := bits w 8 8

/-- Bits 7-0 of a word, "lo" in R193. -/
def loByte (w : Word) : Nat := bits w 0 8

/-- The word whose field of `len` bits at bit `lo` holds `v` and whose other bits are 0. -/
def fld (v lo len : Nat) : Word := BitVec.ofNat 16 (v % 2 ^ len * 2 ^ lo)

/-- The word whose bit `i` is `b` and whose other bits are 0. -/
def flag (b : Bool) (i : Nat) : Word := fld b.toNat i 1

/-- The word of two bytes. -/
def twoBytes (hi lo : Nat) : Word := fld hi 8 8 ||| fld lo 0 8

/-! ### CRC, R191 -/

/-- One data bit shifted into the CRC register: 1021h is added when the bit shifted out differs from the data bit. -/
def crcBit (r : Word) (d : Bool) : Word :=
  if (r.getLsbD 15) != d then (r <<< 1) ^^^ 0x1021#16 else r <<< 1

/-- One word shifted in, from bit 15 down. -/
def crcWord (r w : Word) : Word :=
  [15, 14, 13, 12, 11, 10, 9, 8, 7, 6, 5, 4, 3, 2, 1, 0].foldl (fun r i => crcBit r (w.getLsbD i)) r

/-- The CRC over the words, word 0 first; the register starts at FFFFh. -/
def crc (ws : List Word) : Word := ws.foldl crcWord 0xFFFF#16

/-! ### Frames, R191 -/

/-- A checked frame in processing: the header fields and words 2 to LENGTH - 2. LENGTH and the CRC word follow from
these (R48). `carriesReset` marks the RESET frame a commanded reset waits for (R79). -/
structure Frame where
  kind         : BitVec 4
  pass         : Pass
  flags        : BitVec 4
  word1        : Word
  body         : List Word
  carriesReset : Bool
  deriving DecidableEq, Repr

/-- The PASS bit: 0 outbound, 1 return. -/
def Pass.code : Pass → Nat
  | .out => 0
  | .ret => 1

/-- LENGTH, the words including the CRC word. -/
def Frame.length (f : Frame) : Nat := f.body.length + 3

/-- Word 0. -/
def Frame.word0 (f : Frame) : Word :=
  fld f.kind.toNat 12 4 ||| fld f.pass.code 11 1 ||| fld f.flags.toNat 7 4 ||| fld f.length 0 7

/-- Words 0 to LENGTH - 2. -/
def Frame.words (f : Frame) : List Word := f.word0 :: f.word1 :: f.body

/-- The words sent: the CRC word is computed afresh, R48. -/
def Frame.wire (f : Frame) : List Word := f.words ++ [crc f.words]

/-- LENGTH lies in 4-127, R45. -/
def Frame.fits (f : Frame) : Bool := minFrameWords ≤ f.length && f.length ≤ maxFrameWords

/-- The pass on which a port receives, R45 check 3. -/
def passOf : Port → Pass
  | .a => .out
  | .b => .ret

/-- The frame a payload stands for. -/
def payloadFrame (x : Payload) (kind : BitVec 4) (p : Port) : Frame :=
  { kind, pass := passOf p, flags := x.flags, word1 := x.word1, body := x.body, carriesReset := false }

/-- The frame kinds, R46. -/
def kindSweep : BitVec 4 := 1#4
/-- R46. -/
def kindRollcall : BitVec 4 := 2#4
/-- R46. -/
def kindCommand : BitVec 4 := 3#4
/-- R46. -/
def kindEnumerate : BitVec 4 := 4#4
/-- R46. -/
def kindCloseall : BitVec 4 := 5#4

/-- KIND 0 or 6-15, R46, R47. -/
def kindUnknown (k : BitVec 4) : Bool := k == 0#4 || 6#4 ≤ k

/-- The error of a received frame, R45. -/
inductive FrameError where
  | framing
  | crc
  | direction
  deriving DecidableEq, Repr

/-- The checks of R45 on the words received on a port, in order; none when the frame passes. -/
def frameError (p : Port) (ws : List Word) : Option FrameError :=
  match ws with
  | [] => some .framing
  | w0 :: _ =>
    if bits w0 0 7 < minFrameWords || bits w0 0 7 ≠ ws.length then some .framing
    else if ws.getLast? ≠ some (crc ws.dropLast) then some .crc
    else if bits w0 11 1 ≠ (passOf p).code then some .direction
    else none

/-! ### Codes, R194 -/

/-- Aspect codes. -/
def Aspect.code : Aspect → Nat
  | .opened => 1
  | .mergeL => 2
  | .mergeR => 3
  | .closed => 4
  | .dark => 5

/-- The aspect of a code; none for 0, 6, 7 and above. -/
def Aspect.ofCode : Nat → Option Aspect
  | 1 => some .opened
  | 2 => some .mergeL
  | 3 => some .mergeR
  | 4 => some .closed
  | 5 => some .dark
  | _ => none

/-- Face codes: 1 E, 2 W; 0, 3 and above name no face. -/
def faceOfCode : Nat → Option Face
  | 1 => some .e
  | 2 => some .w
  | _ => none

/-- Faces codes of possessions and locks: 1 E, 2 W, 3 BOTH. -/
def LockFaces.ofCode : Nat → Option LockFaces
  | 1 => some .e
  | 2 => some .w
  | 3 => some .both
  | _ => none

/-- Faces codes of possessions and locks. -/
def LockFaces.code : LockFaces → Nat
  | .e => 1
  | .w => 2
  | .both => 3

/-- Face state codes. -/
def FaceState.code : FaceState → Nat
  | .steady => 0
  | .changing => 1
  | .returning => 2

/-- Node state codes. -/
def NodeState.code : NodeState → Nat
  | .unnumbered => 0
  | .numbered => 1
  | .standby => 2
  | .service => 3
  | .held => 4
  | .failsafe => 5
  | .maintenance => 6

/-- Target cause codes. -/
def TargetCause.code : TargetCause → Nat
  | .plan => 1
  | .possession => 2
  | .merge => 3
  | .boundary => 4
  | .leave => 5
  | .maint => 6

/-- Pending reason codes. -/
def Reason.code : Reason → Nat
  | .upstream => 1
  | .pair => 2
  | .lane => 3
  | .possession => 4
  | .mergeTarget => 5
  | .downstream => 6
  | .inChange => 7
  | .fault => 8

/-- Face fault latch codes. -/
def FaceLatch.code : FaceLatch → Nat
  | .none => 0
  | .element => 1
  | .lamp => 2

/-- Step field codes, R193. -/
def ChangeStep.code : ChangeStep → Nat
  | .one => 1
  | .two => 2

/-- The side bit: 0 L, 1 R. -/
def Side.code : Side → Nat
  | .left => 0
  | .right => 1

/-- The cause set word. -/
def CauseSet.code (c : CauseSet) : Word :=
  flag c.closeAll 0 ||| flag c.loop 1 ||| flag c.silence 2 ||| flag c.supply 3 ||| flag c.position 4

/-- First cause codes: 0 none, then 1-5. -/
def firstCauseCode : Option Cause → Nat
  | none => 0
  | some .closeAll => 1
  | some .loop => 2
  | some .silence => 3
  | some .supply => 4
  | some .position => 5

/-- Working lane type codes. -/
def LaneType.code : LaneType → Nat
  | .none => 0
  | .eastOnly => 1
  | .westOnly => 2
  | .tidal => 3

/-- The lane type a stored copy's code names; none for 0. -/
def LaneType.ofCode (c : BitVec 2) : Option LaneType :=
  if c = 1#2 then some .eastOnly else if c = 2#2 then some .westOnly else if c = 3#2 then some .tidal else none

/-- Shutter state codes. -/
def ShutterState.code : ShutterState → Nat
  | .off => 0
  | .pulling => 1
  | .holding => 2
  | .releasing => 3
  | .blocked => 4

/-- Lamp state codes. -/
def LampState.code : LampState → Nat
  | .off => 0
  | .ramping => 1
  | .lit => 2
  | .blocked => 4

/-- Channel fault codes. -/
def ChannelFault.code : ChannelFault → Nat
  | .none => 0
  | .notMoved => 1
  | .holdLost => 2
  | .notDropped => 3
  | .overcurrent => 4
  | .notLit => 5
  | .lampOpen => 6

/-- Line role codes. -/
def LineRole.code : LineRole → Nat
  | .through => 0
  | .endConfigured => 1
  | .endWrapped => 2

/-- Loop monitor codes. -/
def LoopState.code : LoopState → Nat
  | .evaluating => 0
  | .restored => 1
  | .opened => 2

/-- Supply monitor codes. -/
def SupplyState.code : SupplyState → Nat
  | .evaluating => 0
  | .normal => 1
  | .low => 2

/-- Silence timer codes. -/
def SilenceTimer.code : SilenceTimer → Nat
  | .stopped => 0
  | .holdStage _ => 1
  | .closeStage _ => 2

/-- Reset cause codes. -/
def ResetCause.code : ResetCause → Nat
  | .powerOn => 1
  | .supplyDip => 2
  | .commanded => 3

/-- Load session codes. -/
def SessionState.code : SessionState → Nat
  | .none => 0
  | .opened => 1
  | .spoiled => 2

/-- Possession sequence codes. -/
def SeqState.code : SeqState → Nat
  | .none => 0
  | .fromSet => 1
  | .rangeSet => 2

/-- Image state codes. -/
def ImageState.code : ImageState → Nat
  | .invalid => 0
  | .valid => 1
  | .erased => 2
  | .writing => 3

/-- Writer codes. -/
def Writer.code : Writer → Nat
  | .idle => 0
  | .storing _ _ => 1
  | .erasing _ => 2
  | .lockWriting _ => 3

/-- Vote outcome codes. -/
def VoteOutcome.code : VoteOutcome → Nat
  | .notHeld => 0
  | .allEqual => 1
  | .majority => 2
  | .failed => 3

/-! ### Ranks and envelopes, R2, R5 -/

/-- The rank of an aspect; DARK has none. -/
def Aspect.rank : Aspect → Option Nat
  | .opened => some 0
  | .mergeL => some 1
  | .mergeR => some 1
  | .closed => some 2
  | .dark => none

/-- OPEN, MERGE-L and MERGE-R: rank below that of CLOSED, R2. -/
def Aspect.permissive : Aspect → Bool
  | .opened => true
  | .mergeL => true
  | .mergeR => true
  | .closed => false
  | .dark => false

/-- The envelope of a DARK face and of an absent entry, R5, R6. -/
def Envelope.wide : Envelope := ⟨0, 2⟩

/-- The envelope of a STEADY face, R5. -/
def steadyEnv (a : Aspect) : Envelope :=
  match a.rank with
  | some r => ⟨r, r⟩
  | none => .wide

/-- The envelope of a CHANGING face, R5. -/
def changeEnv (a b : Aspect) : Envelope :=
  match a.rank, b.rank with
  | some r, some q => ⟨min r q, max r q⟩
  | _, _ => .wide

/-! ### Lane entries, R82, R192 -/

/-- One half of an entry, taken as written when its aspect is one of the five and its ranks are in order, R82. -/
def readHalf (code floor ceiling : Nat) : Option Half :=
  match Aspect.ofCode code with
  | some a => if floor ≤ ceiling && ceiling ≤ 2 then some ⟨a, floor, ceiling⟩ else none
  | none => none

/-- A vector word as a node reads it: none when absent or not well formed, R82. -/
def readEntry (w : Word) : Option LaneEntry :=
  if bit w 14 then
    match readHalf (bits w 11 3) (bits w 9 2) (bits w 7 2), readHalf (bits w 4 3) (bits w 2 2) (bits w 0 2) with
    | some e, some f => some ⟨e, f⟩
    | _, _ => none
  else none

/-- The word of an entry the node writes, R192. -/
def writeEntry (x : LaneEntry) : Word :=
  fld 1 14 1 ||| fld x.e.shown.code 11 3 ||| fld x.e.floor 9 2 ||| fld x.e.ceiling 7 2 |||
    fld x.w.shown.code 4 3 ||| fld x.w.floor 2 2 ||| fld x.w.ceiling 0 2

/-- The half of an entry that belongs to a face, R82. -/
def LaneEntry.half (x : LaneEntry) : Face → Half
  | .e => x.e
  | .w => x.w

/-- The envelope a half reads as; absent reads (0, 2), R82. -/
def halfEnv : Option Half → Envelope
  | some h => ⟨h.floor, h.ceiling⟩
  | none => .wide

/-! ### The sweep frame, R81, R192 -/

/-- Words 2 to 30 of a SWEEP frame of LENGTH 32. -/
structure SweepBody where
  seq        : Word
  plan       : Nat
  endAddress : Nat
  curGantry  : Nat
  prevGantry : Nat
  cur        : List Word
  prev       : List Word
  east       : List Word
  faulted    : Nat
  pending    : Nat
  waitAge    : Nat
  waitAddr   : Nat
  deriving DecidableEq, Repr

/-- The words between the header and the CRC of a SWEEP frame, R81. -/
def sweepBodyWords : Nat := 29

/-- The fields of a SWEEP body; none when LENGTH is not 32. -/
def SweepBody.ofWords (ws : List Word) : Option SweepBody :=
  if ws.length = sweepBodyWords then
    some
      { seq := ws.getD 0 0, plan := hiByte (ws.getD 1 0), endAddress := loByte (ws.getD 1 0)
        curGantry := hiByte (ws.getD 2 0), prevGantry := loByte (ws.getD 2 0)
        cur := (ws.drop 3).take 8, prev := (ws.drop 11).take 8, east := (ws.drop 19).take 8
        faulted := hiByte (ws.getD 27 0), pending := loByte (ws.getD 27 0)
        waitAge := hiByte (ws.getD 28 0), waitAddr := loByte (ws.getD 28 0) }
  else none

/-- The words of a SWEEP body. -/
def SweepBody.toWords (b : SweepBody) : List Word :=
  [b.seq, twoBytes b.plan b.endAddress, twoBytes b.curGantry b.prevGantry] ++ b.cur ++ b.prev ++ b.east ++
    [twoBytes b.faulted b.pending, twoBytes b.waitAge b.waitAddr]

/-- The eight absent entries of an empty vector, R86. -/
def absentVector : List Word := [0, 0, 0, 0, 0, 0, 0, 0]

/-- The word of a vector at a lane 1-8; other lanes read as an absent word. -/
def laneWord (v : List Word) (lane : Nat) : Word :=
  if lane = 0 then 0 else v.getD (lane - 1) 0

/-- A gantry field a pass may carry: 0-64 or 255, R83. -/
def gantryFieldOk (g : Nat) : Bool := g ≤ maxGantry || g == eastEnd

/-- HOLD, bit 0 of FLAGS, R192. -/
def holdFlag (flags : BitVec 4) : Bool := flags.getLsbD 0

/-- FLAGS with WRAP, bit 1, set, R192; the bits the kind does not define stay as received (DESIGN CHOICE, log 43,
unsafe). -/
def setWrapFlag (flags : BitVec 4) : BitVec 4 := flags ||| 2#4

/-! ### Plan entries, R194 -/

/-- The word of a plan entry, bits 1-0 zero. -/
def PlanEntry.word (x : PlanEntry) : Word := fld x.plan 8 8 ||| fld x.e.code 5 3 ||| fld x.w.code 2 3

/-- A plan entry as it arrives: its plan number, and its aspects where their codes are among the five. -/
structure RawPlanEntry where
  plan : Nat
  e    : Option Aspect
  w    : Option Aspect
  deriving DecidableEq, Repr

/-- The fields of an arriving plan entry word. -/
def RawPlanEntry.ofWord (w : Word) : RawPlanEntry :=
  ⟨hiByte w, Aspect.ofCode (bits w 5 3), Aspect.ofCode (bits w 2 3)⟩

/-- The check value of a bank with these entries, R121. -/
def bankCheck (es : List PlanEntry) : Word := crc (es.map PlanEntry.word)

/-- The bank of these entries with its check value, R121. -/
def Bank.ofEntries (es : List PlanEntry) : Bank := ⟨es, bankCheck es⟩

/-! ### Shutters, channels and configurations, R23-R25, R193 -/

/-- The parameters of a shutter. -/
def FaceConfig.params (c : FaceConfig) : Shutter → ShutterParams
  | .mask => c.mask
  | .arrow => c.arrow
  | .diagL => c.diagL
  | .diagR => c.diagR

/-- MASK and ARROW are always fitted, R25. -/
def FaceConfig.fitted (c : FaceConfig) : Shutter → Bool
  | .mask => true
  | .arrow => true
  | .diagL => c.diagLFitted
  | .diagR => c.diagRFitted

/-- A channel of a face, R23: its lamp or one of its shutters. -/
inductive Channel where
  | lamp (f : Face)
  | shutter (f : Face) (k : Shutter)
  deriving DecidableEq, Repr

/-- Channel numbers, R23; none above 9. -/
def Channel.ofNumber : Nat → Option Channel
  | 0 => some (.lamp .e)
  | 1 => some (.shutter .e .mask)
  | 2 => some (.shutter .e .arrow)
  | 3 => some (.shutter .e .diagL)
  | 4 => some (.shutter .e .diagR)
  | 5 => some (.lamp .w)
  | 6 => some (.shutter .w .mask)
  | 7 => some (.shutter .w .arrow)
  | 8 => some (.shutter .w .diagL)
  | 9 => some (.shutter .w .diagR)
  | _ => none

/-- A shutter's three words of WRITE_FACE and READ_CHANNEL, R193. -/
def ShutterParams.words (p : ShutterParams) : List Word :=
  [fld p.hit 8 7 ||| fld p.hold 0 7, fld p.hitTime 0 16,
   fld p.dipThreshold 12 4 ||| fld p.dipDebounce 8 4 ||| fld p.settle 0 8]

/-- The parameters in a shutter's three words, R193. Bits 15 and 7 of the first, which no field names, are ignored (DESIGN
CHOICE, log 46, unsafe). -/
def ShutterParams.ofWords (a b c : Word) : ShutterParams :=
  { hit := bits a 8 7, hold := bits a 0 7, hitTime := b.toNat, dipThreshold := bits c 12 4, dipDebounce := bits c 8 4,
    settle := bits c 0 8 }

/-- Every field in its range and a whole multiple of its step, R25, R26 check 1. -/
def ShutterParams.inRange (p : ShutterParams) : Bool :=
  1 ≤ p.hit && p.hit ≤ 127 && 1 ≤ p.hold && p.hold ≤ 127 && 2 ≤ p.hitTime && p.hitTime ≤ 500 && p.hitTime % 2 == 0 &&
    1 ≤ p.dipThreshold && p.dipThreshold ≤ 15 && 1 ≤ p.dipDebounce && p.dipDebounce ≤ 15 && 10 ≤ p.settle &&
    p.settle ≤ 200 && p.settle % 10 == 0

/-- A warning aspect: MERGE-L, MERGE-R or CLOSED, R25. -/
def warningOk : Aspect → Bool
  | .opened => false
  | .mergeL => true
  | .mergeR => true
  | .closed => true
  | .dark => false

/-- Every field of a face configuration in its range, R25, R26 check 1. -/
def FaceConfig.inRange (c : FaceConfig) : Bool :=
  warningOk c.warning && c.mask.inRange && c.arrow.inRange && c.diagL.inRange && c.diagR.inRange &&
    1 ≤ c.lampCurrent && c.lampCurrent ≤ 127 && 20 ≤ c.rampTime && c.rampTime ≤ 500 && c.rampTime % 20 == 0

/-- The result word of a shutter's parameters or a lamp's, R193: words 3-5 of READ_CHANNEL. -/
def lampParamWords (c : FaceConfig) : List Word := [fld c.lampCurrent 8 7, fld c.rampTime 0 16, 0]

/-! ### Measured current, R24 -/

/-- The measured current: the raw current times the gain trim plus the offset trim, rounded down to a whole step and
limited to 0-190 steps. -/
def measure (t : Trim) (raw : Nat) : Nat :=
  min (((t.gain * raw / rawScale : Nat) : Int) + t.offset).toNat sensingLimit

/-- The hold floor or lamp floor of a setting: half, rounded down, or 1 when that is 0, R31, R36. -/
def floorOf (setting : Nat) : Nat := max 1 (setting / 2)

/-- The lamp window of a lamp current, R35. -/
def inLampWindow (current measured : Nat) : Bool :=
  current - max 1 (current / 8) ≤ measured && measured ≤ current + max 1 (current / 8)

/-! ### Shutters of an aspect, R2, R10 -/

/-- The symbol shutter of a permissive aspect, R10; the other aspects have none. -/
def Aspect.symbol : Aspect → Option Shutter
  | .opened => some .arrow
  | .mergeL => some .diagL
  | .mergeR => some .diagR
  | .closed => none
  | .dark => none

/-- The side of a diagonal, R116. -/
def Aspect.side : Aspect → Option Side
  | .opened => none
  | .mergeL => some .left
  | .mergeR => some .right
  | .closed => none
  | .dark => none

/-- The picture on the glass, R1. -/
inductive Picture where
  | dark
  | redCross
  | crossWithSymbol
  | arrow
  | diagonalLeft
  | diagonalRight
  | twoSymbols
  | threeSymbols
  | plainPanel
  deriving DecidableEq, Repr

/-- What a face shows with its lamp lit or not and the given shutters over the glass, R1. The table of R1 has no row for
all three symbols under a pulled MASK; each symbol shutter uncovers its own, so all three show (DEDUCED, log 49, safe). -/
def picture (lit mask arrow diagL diagR : Bool) : Picture :=
  if lit then
    match mask, arrow, diagL, diagR with
    | false, false, false, false => .redCross
    | false, _, _, _ => .crossWithSymbol
    | true, true, false, false => .arrow
    | true, false, true, false => .diagonalLeft
    | true, false, false, true => .diagonalRight
    | true, false, false, false => .plainPanel
    | true, true, true, true => .threeSymbols
    | true, _, _, _ => .twoSymbols
  else .dark

/-- The other face of the node. -/
def otherFace : Face → Face
  | .e => .w
  | .w => .e

/-- Whether the working lane type allows a face to show a permissive aspect, R3. -/
def LaneType.allows : LaneType → Face → Bool
  | .none, _ => false
  | .eastOnly, .e => true
  | .eastOnly, .w => false
  | .westOnly, .e => false
  | .westOnly, .w => true
  | .tidal, _ => true

/-- The table of R90: whether a face's merge to a side goes to lane k - 1 (the lower merge entry) or k + 1. -/
def mergesLower : Face → Side → Bool
  | .e, .left => true
  | .e, .right => false
  | .w, .left => false
  | .w, .right => true

/-- The target lane of a merge from lane k lies in lanes 1 to the gantry width, R90, R105, R122. -/
def mergeLaneOk (lane width : Nat) (f : Face) (d : Side) : Bool :=
  if mergesLower f d then 1 ≤ lane - 1 && lane - 1 ≤ width else 1 ≤ lane + 1 && lane + 1 ≤ width

end Sys2Proof.Machine
end

