-- ==== Sys2Proof/Machine/Access.lean ====
section
/-! DEFINITION. One accessor and one setter for every record: all reads and writes of a face's or channel's record go
through these. -/

namespace Sys2Proof.Machine

/-! ### The blocks -/

/-- Replace the start-up phase. -/
def State.setPhase (s : State) (x : Phase) : State := { s with phase := x }
/-- Replace the chain interface. -/
def State.setLine (s : State) (x : LineBlock) : State := { s with line := x }
/-- Replace the node record. -/
def State.setNode (s : State) (x : NodeRecord) : State := { s with node := x }
/-- Replace the sweep processor's records. -/
def State.setSweep (s : State) (x : SweepBlock) : State := { s with sweep := x }
/-- Replace the face records. -/
def State.setFaces (s : State) (x : FacePair) : State := { s with faces := x }
/-- Replace the element block. -/
def State.setElem (s : State) (x : ElementBlock) : State := { s with elem := x }
/-- Replace the plan table block. -/
def State.setPlan (s : State) (x : PlanBlock) : State := { s with plan := x }
/-- Replace the possession block. -/
def State.setPoss (s : State) (x : PossBlock) : State := { s with poss := x }
/-- Replace supervision. -/
def State.setSup (s : State) (x : SupBlock) : State := { s with sup := x }
/-- Replace the fault block. -/
def State.setFault (s : State) (x : FaultBlock) : State := { s with fault := x }
/-- Replace the storage block. -/
def State.setStore (s : State) (x : StorageBlock) : State := { s with store := x }
/-- Replace the queue of waiting commands. -/
def State.setPending (s : State) (x : List Instr) : State := { s with pending := x }

/-! ### Faces -/

/-- A face's record, R7. -/
def State.face (s : State) : Face → FaceRecord
  | .e => s.faces.e
  | .w => s.faces.w

/-- Replace a face's record. -/
def State.setFace (s : State) (f : Face) (r : FaceRecord) : State :=
  match f with
  | .e => s.setFaces { s.faces with e := r }
  | .w => s.setFaces { s.faces with w := r }

/-- STEADY on CLOSED with no change in progress: the condition of R9's law, PAIR, R75, R77 and R169. -/
def FaceRecord.steadyClosed (r : FaceRecord) : Bool := r.state == .steady && r.shown == .closed

/-- STEADY DARK. -/
def FaceRecord.steadyDark (r : FaceRecord) : Bool := r.state == .steady && r.shown == .dark

/-- The half of a lane entry the face's record gives, R6. -/
def FaceRecord.half (r : FaceRecord) : Half := ⟨r.shown, r.env.floor, r.env.ceiling⟩

/-! ### Channels -/

/-- A face's five channels. -/
def State.channels (s : State) : Face → FaceChannels
  | .e => s.elem.e
  | .w => s.elem.w

/-- Replace a face's channels. -/
def State.setChannels (s : State) (f : Face) (c : FaceChannels) : State :=
  match f with
  | .e => s.setElem { s.elem with e := c }
  | .w => s.setElem { s.elem with w := c }

/-- One of the four shutter channels. -/
def FaceChannels.shutter (c : FaceChannels) : Shutter → ShutterChannel
  | .mask => c.mask
  | .arrow => c.arrow
  | .diagL => c.diagL
  | .diagR => c.diagR

/-- Replace one shutter channel. -/
def FaceChannels.setShutter (c : FaceChannels) (k : Shutter) (x : ShutterChannel) : FaceChannels :=
  match k with
  | .mask => { c with mask := x }
  | .arrow => { c with arrow := x }
  | .diagL => { c with diagL := x }
  | .diagR => { c with diagR := x }

/-- Apply a function to the four shutter channels, each with its name. -/
def FaceChannels.mapShutters (c : FaceChannels) (g : Shutter → ShutterChannel → ShutterChannel) : FaceChannels :=
  { c with mask := g .mask c.mask, arrow := g .arrow c.arrow, diagL := g .diagL c.diagL, diagR := g .diagR c.diagR }

/-- A test that all four shutter channels meet. -/
def FaceChannels.allShutters (c : FaceChannels) (g : ShutterChannel → Bool) : Bool :=
  g c.mask && g c.arrow && g c.diagL && g c.diagR

/-- A test that at least one shutter channel meets. -/
def FaceChannels.anyShutter (c : FaceChannels) (g : ShutterChannel → Bool) : Bool :=
  g c.mask || g c.arrow || g c.diagL || g c.diagR

/-- A shutter channel record. -/
def State.shutter (s : State) (f : Face) (k : Shutter) : ShutterChannel := (s.channels f).shutter k

/-- Replace a shutter channel record. -/
def State.setShutter (s : State) (f : Face) (k : Shutter) (x : ShutterChannel) : State :=
  s.setChannels f ((s.channels f).setShutter k x)

/-- A lamp channel record. -/
def State.lamp (s : State) (f : Face) : LampChannel := (s.channels f).lamp

/-- Replace a lamp channel record. -/
def State.setLamp (s : State) (f : Face) (x : LampChannel) : State :=
  s.setChannels f { s.channels f with lamp := x }

/-- A face's working configuration. -/
def State.config (s : State) : Face → FaceConfig
  | .e => s.elem.cfgE
  | .w => s.elem.cfgW

/-- Replace a face's working configuration. -/
def State.setConfig (s : State) (f : Face) (c : FaceConfig) : State :=
  match f with
  | .e => s.setElem { s.elem with cfgE := c }
  | .w => s.setElem { s.elem with cfgW := c }

/-- A shutter channel is fitted, R23. -/
def State.fitted (s : State) (f : Face) (k : Shutter) : Bool := (s.config f).fitted k

/-- PULLING, HOLDING or RELEASING. -/
def ShutterChannel.active (c : ShutterChannel) : Bool :=
  c.state == .pulling || c.state == .holding || c.state == .releasing

/-- PULLING or HOLDING: the drive is on. -/
def ShutterChannel.driven (c : ShutterChannel) : Bool := c.state == .pulling || c.state == .holding

/-- No shutter channel of the face is PULLING, HOLDING or RELEASING, R13, R17. -/
def State.quiet (s : State) (f : Face) : Bool := (s.channels f).allShutters (fun c => !c.active)

/-- A shutter channel of the face is PULLING or HOLDING. -/
def State.anyDriven (s : State) (f : Face) : Bool := (s.channels f).anyShutter ShutterChannel.driven

/-- Every shutter channel of the face is OFF, R13, R14. -/
def State.allOff (s : State) (f : Face) : Bool := (s.channels f).allShutters (fun c => c.state == .off)

/-- A shutter channel of the face is BLOCKED. -/
def State.anyBlocked (s : State) (f : Face) : Bool := (s.channels f).anyShutter (fun c => c.state == .blocked)

/-- A shutter channel of the face is BLOCKED by NOT_DROPPED, R17. -/
def State.anyNotDropped (s : State) (f : Face) : Bool :=
  (s.channels f).anyShutter (fun c => c.state == .blocked && c.lastFault == .notDropped)

/-- The drive of a shutter output in steps, R25, R28-R34: the hit current PULLING, the hold current HOLDING. -/
def State.shutterDrive (s : State) (f : Face) (k : Shutter) : Nat :=
  match (s.shutter f k).state with
  | .pulling => ((s.config f).params k).hit
  | .holding => ((s.config f).params k).hold
  | .off => 0
  | .releasing => 0
  | .blocked => 0

/-- The drive setting of a lamp output in steps, R35, R36: the lamp current in RAMPING and LIT, toward which a ramp
or a move is on its way. -/
def State.lampDrive (s : State) (f : Face) : Nat :=
  match (s.lamp f).state with
  | .ramping => (s.config f).lampCurrent
  | .lit => (s.config f).lampCurrent
  | .off => 0
  | .blocked => 0

/-- The trims in use on a face, R24. -/
def State.trims (s : State) (f : Face) : FaceTrims :=
  if s.store.trimsInUse then
    match f with
    | .e => s.store.calibration.e
    | .w => s.store.calibration.w
  else .unit

/-- One shutter's trim. -/
def FaceTrims.shutter (t : FaceTrims) : Shutter → Trim
  | .mask => t.mask
  | .arrow => t.arrow
  | .diagL => t.diagL
  | .diagR => t.diagR

/-- The measured current of a shutter channel from its raw current, R24. -/
def State.measureShutter (s : State) (f : Face) (k : Shutter) (raw : Nat) : Nat :=
  measure ((s.trims f).shutter k) raw

/-- The measured current of a lamp channel from its raw current, R24. -/
def State.measureLamp (s : State) (f : Face) (raw : Nat) : Nat := measure (s.trims f).lamp raw

/-- The picture a face shows, R1: a shutter is over the glass while it is PULLING with MOVED reported, or HOLDING. -/
def State.picture (s : State) (f : Face) : Picture :=
  let out (k : Shutter) : Bool := (s.shutter f k).driven && (s.shutter f k).movedSeen
  Machine.picture ((s.lamp f).state == .lit) (out .mask) (out .arrow) (out .diagL) (out .diagR)

/-! ### Ports, R42-R57 -/

/-- A port's link state. -/
def LineBlock.link (l : LineBlock) : Port → Link
  | .a => l.linkA
  | .b => l.linkB

/-- Replace a port's link state. -/
def LineBlock.setLink (l : LineBlock) (p : Port) (x : Link) : LineBlock :=
  match p with
  | .a => { l with linkA := x }
  | .b => { l with linkB := x }

/-- A port's receiver. -/
def LineBlock.rx (l : LineBlock) : Port → Receiver
  | .a => l.rxA
  | .b => l.rxB

/-- Replace a port's receiver. -/
def LineBlock.setRx (l : LineBlock) (p : Port) (x : Receiver) : LineBlock :=
  match p with
  | .a => { l with rxA := x }
  | .b => { l with rxB := x }

/-- A port's counters, R57. -/
def LineBlock.counters (l : LineBlock) : Port → LineCounters
  | .a => l.countA
  | .b => l.countB

/-- Replace a port's counters. -/
def LineBlock.setCounters (l : LineBlock) (p : Port) (x : LineCounters) : LineBlock :=
  match p with
  | .a => { l with countA := x }
  | .b => { l with countB := x }

/-- The queue that feeds a port's transmit pair, R49: the return queue port A, the outbound queue port B. -/
def LineBlock.queue (l : LineBlock) : Port → List QueuedFrame
  | .a => l.returnQueue
  | .b => l.outboundQueue

/-- Replace the queue that feeds a port's transmit pair. -/
def LineBlock.setQueue (l : LineBlock) (p : Port) (x : List QueuedFrame) : LineBlock :=
  match p with
  | .a => { l with returnQueue := x }
  | .b => { l with outboundQueue := x }

/-- The frame a port is sending: the oldest of its queue, idle fill when empty, R50. -/
def LineBlock.sending (l : LineBlock) (p : Port) : Option QueuedFrame := (l.queue p).head?

/-- END role: either END value, R51. -/
def LineRole.isEnd : LineRole → Bool
  | .through => false
  | .endConfigured => true
  | .endWrapped => true

/-! ### The site record in force -/

/-- T_HOLD in force, R156. -/
def State.tHold (s : State) : Nat := if s.store.site.valid then s.store.site.fields.tHold else defaultTHold

/-- T_CLOSE in force, R156. -/
def State.tClose (s : State) : Nat := if s.store.site.valid then s.store.site.fields.tClose else defaultTClose

/-- The node's gantry, R178. -/
def State.gantry (s : State) : Nat := s.store.site.fields.gantry

/-- The node's lane, R178. -/
def State.lane (s : State) : Nat := s.store.site.fields.lane

/-- The gantry width, R178. -/
def State.width (s : State) : Nat := s.store.site.fields.width

/-- The working lane type, NONE while the site record is not valid, R178, R188. -/
def State.laneType (s : State) : LaneType := if s.store.site.valid then s.store.site.laneType else .none

end Sys2Proof.Machine
end

