-- ==== Sys2Proof/Machine/Flags.lean ====
section
/-! DEFINITION. The fault block's flags and the counters: class latches and the alarm flag (R164, R166), fault detail
(R165), line counters (R57), the superseded counter (R171), the cause set (R150). -/

namespace Sys2Proof.Machine

/-- The twelve fault classes, R164. -/
inductive FaultClass where
  | line
  | illegal
  | element
  | lamp
  | stall
  | merge
  | position
  | supply
  | sequence
  | plan
  | store
  | wrap
  deriving DecidableEq, Repr

/-- The number of a class, R194. -/
def FaultClass.index : FaultClass → Nat
  | .line => 0
  | .illegal => 1
  | .element => 2
  | .lamp => 3
  | .stall => 4
  | .merge => 5
  | .position => 6
  | .supply => 7
  | .sequence => 8
  | .plan => 9
  | .store => 10
  | .wrap => 11

/-- The set of one class. -/
def FaultClass.bit (c : FaultClass) : BitVec 12 := BitVec.twoPow 12 c.index

/-- A class set names a class. -/
def hasClass (set : BitVec 12) (c : FaultClass) : Bool := set.getLsbD c.index

/-- A class latch is set. -/
def State.latched (s : State) (c : FaultClass) : Bool := hasClass s.fault.latches c

/-- Set a class latch, R164. -/
def State.latch (s : State) (c : FaultClass) : State :=
  s.setFault { s.fault with latches := s.fault.latches ||| c.bit }

/-- Set a class latch when the condition holds. -/
def State.latchIf (s : State) (b : Bool) (c : FaultClass) : State := if b then s.latch c else s

/-- The alarm flag: some latch is set whose mask is clear, R166. -/
def State.alarm (s : State) : Bool := (s.fault.latches &&& ~~~s.fault.masks) != 0

/-- A 16-bit counter that stops at its largest value. -/
def satInc (c : BitVec 16) : BitVec 16 := if c = 0xFFFF#16 then c else c + 1

/-- An 8-bit count or age that stops at 255. -/
def satByte (n : Nat) : Nat := min byteMax n

/-- The superseded counter counts one, R8, R171. -/
def State.countSuperseded (s : State) : State :=
  s.setFault { s.fault with superseded := satInc s.fault.superseded }

/-! ### Line counters, R57 -/

/-- A good frame received on the port. -/
def State.countGood (s : State) (p : Port) : State :=
  s.setLine (s.line.setCounters p { s.line.counters p with good := satInc (s.line.counters p).good })

/-- A FRAMING error on the port; LINE, R45, R57. -/
def State.countFraming (s : State) (p : Port) : State :=
  (s.setLine (s.line.setCounters p { s.line.counters p with framing := satInc (s.line.counters p).framing })).latch .line

/-- A CRC error on the port; LINE. -/
def State.countCrc (s : State) (p : Port) : State :=
  (s.setLine (s.line.setCounters p { s.line.counters p with crc := satInc (s.line.counters p).crc })).latch .line

/-- A DIRECTION error on the port; LINE. -/
def State.countDirection (s : State) (p : Port) : State :=
  (s.setLine
    (s.line.setCounters p { s.line.counters p with direction := satInc (s.line.counters p).direction })).latch .line

/-- A frame received on the port was dropped at its queue; LINE, R49. -/
def State.countOverrun (s : State) (p : Port) : State :=
  (s.setLine (s.line.setCounters p { s.line.counters p with overrun := satInc (s.line.counters p).overrun })).latch .line

/-- A frame of unknown kind received on the port; LINE, R47. -/
def State.countUnknown (s : State) (p : Port) : State :=
  (s.setLine (s.line.setCounters p { s.line.counters p with unknown := satInc (s.line.counters p).unknown })).latch .line

/-- A frame that failed a check is counted for that check alone, R45. -/
def State.countError (s : State) (p : Port) : FrameError → State
  | .framing => s.countFraming p
  | .crc => s.countCrc p
  | .direction => s.countDirection p

/-! ### Fault detail, R165 -/

/-- The kind bit of a fault, R193. -/
def ChannelFault.kindBit : ChannelFault → BitVec 4
  | .none => 0#4
  | .notMoved => 8#4
  | .holdLost => 4#4
  | .notDropped => 2#4
  | .overcurrent => 1#4
  | .notLit => 8#4
  | .lampOpen => 4#4

/-- One fault report added to a detail. -/
def FaultDetail.add (d : FaultDetail) (x : ChannelFault) : FaultDetail :=
  { kinds := d.kinds ||| x.kindBit, first := if d.first = .none then x else d.first, count := satByte (d.count + 1) }

/-- A detail set again for a channel that stays BLOCKED, R169. -/
def FaultDetail.again (x : ChannelFault) : FaultDetail := ⟨x.kindBit, x, 1⟩

/-- A face's channel details. -/
def State.details (s : State) : Face → FaceDetails
  | .e => s.fault.e
  | .w => s.fault.w

/-- Replace a face's channel details. -/
def State.setDetails (s : State) (f : Face) (d : FaceDetails) : State :=
  match f with
  | .e => s.setFault { s.fault with e := d }
  | .w => s.setFault { s.fault with w := d }

/-- One shutter's detail. -/
def FaceDetails.shutter (d : FaceDetails) : Shutter → FaultDetail
  | .mask => d.mask
  | .arrow => d.arrow
  | .diagL => d.diagL
  | .diagR => d.diagR

/-- Replace one shutter's detail. -/
def FaceDetails.setShutter (d : FaceDetails) (k : Shutter) (x : FaultDetail) : FaceDetails :=
  match k with
  | .mask => { d with mask := x }
  | .arrow => { d with arrow := x }
  | .diagL => { d with diagL := x }
  | .diagR => { d with diagR := x }

/-! ### Causes, R150 -/

/-- A cause is in the set. -/
def CauseSet.has (c : CauseSet) : Cause → Bool
  | .closeAll => c.closeAll
  | .loop => c.loop
  | .silence => c.silence
  | .supply => c.supply
  | .position => c.position

/-- The set with a cause added. -/
def CauseSet.add (c : CauseSet) : Cause → CauseSet
  | .closeAll => { c with closeAll := true }
  | .loop => { c with loop := true }
  | .silence => { c with silence := true }
  | .supply => { c with supply := true }
  | .position => { c with position := true }

/-- The cause set is empty. -/
def CauseSet.isEmpty (c : CauseSet) : Bool := !(c.closeAll || c.loop || c.silence || c.supply || c.position)

/-- A cause joins the set; it is the first cause when the set was empty, R60, R63. -/
def NodeRecord.addCause (n : NodeRecord) (c : Cause) : NodeRecord :=
  { n with causes := n.causes.add c, firstCause := if n.causes.isEmpty then some c else n.firstCause }

end Sys2Proof.Machine
end

