-- ==== Sys2Proof/Machine/Element.lean ====
section
/-! DEFINITION. The element block's own operations (R27-R38): requests to one channel with their answers, the fault
reports of a channel to the fault block, release-all, and what CLEAR_FAULTS does to the channels. What the face
controller makes of a report stands in Machine/FaceCtl.lean. -/

namespace Sys2Proof.Machine

/-- The answer to a request, R27. -/
inductive Answer where
  | taken
  | noEffect
  | refused
  deriving DecidableEq, Repr

/-! ### Shutter channels -/

/-- A pull request on a channel that is not under release-all, R28; the report of a refusal by a BLOCKED channel is
made by the caller. -/
def ShutterChannel.pull (c : ShutterChannel) (p : ShutterParams) : Answer × ShutterChannel :=
  match c.state with
  | .off =>
    (.taken, { c with state := .pulling, movedSeen := false, peak := some c.measured, timer := some p.hitTime })
  | .pulling => (.noEffect, c)
  | .holding => (.noEffect, c)
  | .releasing => (.refused, c)
  | .blocked => (.refused, c)

/-- Into RELEASING with the release-settle timer started, R32. -/
def ShutterChannel.letGo (c : ShutterChannel) (p : ShutterParams) : ShutterChannel :=
  { c with state := .releasing, peak := none, timer := some p.settle }

/-- A release request, R28: a release taken in PULLING discards moved-seen. -/
def ShutterChannel.release (c : ShutterChannel) (p : ShutterParams) : Answer × ShutterChannel :=
  match c.state with
  | .pulling => (.taken, { c.letGo p with movedSeen := false })
  | .holding => (.taken, c.letGo p)
  | .off => (.noEffect, c)
  | .releasing => (.noEffect, c)
  | .blocked => (.noEffect, c)

/-- To BLOCKED with the fault that blocks it, R32, R33. -/
def ShutterChannel.block (c : ShutterChannel) (x : ChannelFault) : ShutterChannel :=
  { c with state := .blocked, lastFault := x, peak := none, timer := none }

/-- To OFF, R32. -/
def ShutterChannel.rest (c : ShutterChannel) : ShutterChannel := { c with state := .off, peak := none, timer := none }

/-- A fault report of a shutter channel: its last fault, its detail and the ELEMENT latch, R27, R165. -/
def State.reportShutter (s : State) (f : Face) (k : Shutter) (x : ChannelFault) : State :=
  (((s.setShutter f k { s.shutter f k with lastFault := x }).setDetails f
    ((s.details f).setShutter k (((s.details f).shutter k).add x)))).latch .element

/-- A release request to one shutter, R28. -/
def State.releaseShutter (s : State) (f : Face) (k : Shutter) : State :=
  s.setShutter f k ((s.shutter f k).release ((s.config f).params k)).2

/-- A release request to every shutter of the face that is PULLING or HOLDING, R13, R16, R19, R39. -/
def State.releaseDriven (s : State) (f : Face) : State :=
  s.setChannels f ((s.channels f).mapShutters fun k c => (c.release ((s.config f).params k)).2)

/-- Release-all is asserted, R38: every PULLING or HOLDING shutter of both faces goes to RELEASING. -/
def State.assertReleaseAll (s : State) : State :=
  ((s.setSup { s.sup with releaseAll := true }).releaseDriven .e).releaseDriven .w

/-- The answer a pull request gets, R28, R38. -/
def State.pullAnswer (s : State) (f : Face) (k : Shutter) : Answer :=
  if s.sup.releaseAll then .refused else ((s.shutter f k).pull ((s.config f).params k)).1

/-- What a pull request leaves in the channel, R28, R38. -/
def State.pullChannel (s : State) (f : Face) (k : Shutter) : State :=
  if s.sup.releaseAll then s else s.setShutter f k ((s.shutter f k).pull ((s.config f).params k)).2

/-- A pull request makes the channel report its last fault again: it is BLOCKED and release-all is not asserted, R28,
R34, R38. -/
def State.pullRepeats (s : State) (f : Face) (k : Shutter) : Bool :=
  !s.sup.releaseAll && (s.shutter f k).state == .blocked

/-! ### Lamp channels -/

/-- A ramp request, R35; the reports of a LIT and a BLOCKED channel are made by the caller. -/
def LampChannel.ramp (c : LampChannel) (rampTime : Nat) : Answer × LampChannel :=
  match c.state with
  | .off => (.taken, { c with state := .ramping, timer := some rampTime })
  | .ramping => (.noEffect, c)
  | .lit => (.noEffect, c)
  | .blocked => (.refused, c)

/-- A lamp-off request, R35. -/
def LampChannel.turnOff (c : LampChannel) : Answer × LampChannel :=
  match c.state with
  | .off => (.taken, { c with state := .off, timer := none, moveFrom := none })
  | .ramping => (.taken, { c with state := .off, timer := none, moveFrom := none })
  | .lit => (.taken, { c with state := .off, timer := none, moveFrom := none })
  | .blocked => (.noEffect, c)

/-- To BLOCKED with the fault that blocks it, R35, R36. -/
def LampChannel.block (c : LampChannel) (x : ChannelFault) : LampChannel :=
  { c with state := .blocked, lastFault := x, timer := none, moveFrom := none }

/-- A fault report of a lamp channel: its last fault, its detail and the LAMP latch, R27, R165. -/
def State.reportLamp (s : State) (f : Face) (x : ChannelFault) : State :=
  ((s.setLamp f { s.lamp f with lastFault := x }).setDetails f
    { s.details f with lamp := (s.details f).lamp.add x }).latch .lamp

/-- The lamp-off request as issued to a face's lamp, R35. -/
def State.lampOff (s : State) (f : Face) : State := s.setLamp f (s.lamp f).turnOff.2

/-- The lamp floor in force, R36: during a move the lower of the floors of the two settings. -/
def State.lampFloor (s : State) (f : Face) : Nat :=
  match (s.lamp f).moveFrom with
  | none => floorOf (s.config f).lampCurrent
  | some old => min (floorOf old) (floorOf (s.config f).lampCurrent)

/-! ### CLEAR_FAULTS on the channels, R34, R37 -/

/-- One shutter channel under a CLEAR_FAULTS that names ELEMENT, R34; the sample of a PULLING channel counts for its
running peak (R29, log 17). -/
def ShutterChannel.clear (c : ShutterChannel) (now : Nat) : ShutterChannel :=
  match c.state with
  | .blocked =>
    if now = 0 then { c with state := .off, lastFault := .none, measured := now } else { c with measured := now }
  | .off => { c with lastFault := .none, measured := now }
  | .pulling => { c with lastFault := .none, measured := now, peak := some (max (c.peak.getD 0) now) }
  | .holding => { c with lastFault := .none, measured := now }
  | .releasing => { c with lastFault := .none, measured := now }

/-- One lamp channel under a CLEAR_FAULTS that names LAMP, R37. -/
def LampChannel.clear (c : LampChannel) (now : Nat) : LampChannel :=
  match c.state with
  | .blocked =>
    if now = 0 then { c with state := .off, lastFault := .none, measured := now } else { c with measured := now }
  | .off => { c with lastFault := .none, measured := now }
  | .ramping => { c with lastFault := .none, measured := now }
  | .lit => { c with lastFault := .none, measured := now }

/-- The sample of one face. -/
def faceSense (x : Sensed) : Face → FaceSense
  | .e => x.e
  | .w => x.w

/-- The sample of one shutter. -/
def shutterSense (x : FaceSense) : Shutter → Nat
  | .mask => x.mask
  | .arrow => x.arrow
  | .diagL => x.diagL
  | .diagR => x.diagR

/-- The shutter channels of a face under a CLEAR_FAULTS that names ELEMENT, R34. -/
def State.clearShutters (s : State) (f : Face) (x : FaceSense) : State :=
  s.setChannels f ((s.channels f).mapShutters fun k c => c.clear (s.measureShutter f k (shutterSense x k)))

/-- The lamp channel of a face under a CLEAR_FAULTS that names LAMP, R37. -/
def State.clearLamp (s : State) (f : Face) (x : FaceSense) : State :=
  s.setLamp f ((s.lamp f).clear (s.measureLamp f x.lamp))

end Sys2Proof.Machine
end

