-- ==== Sys2Proof/Machine/FaceCtl.lean ====
section
/-! DEFINITION. The face controller (R4-R21): the change procedure, returns, lamp faults, the relight, and what it makes
of each channel report; the node controller's entry to STANDBY and FAILSAFE (R63, R77, R78, R151) beside it, since they
act on the faces. -/

namespace Sys2Proof.Machine

/-! ### The record alone -/

/-- The reason R107 gives a target that is not gated on this pass: UPSTREAM for a raise, DOWNSTREAM for a lowering or a
sideways change. A DARK face's target waits with FAULT (R104). -/
def waitReason (shown target : Aspect) : Reason :=
  match shown.rank, target.rank with
  | some r, some q => if r < q then .upstream else .downstream
  | none, _ => .fault
  | _, none => .fault

/-- The fault latch becomes ELEMENT if it holds NONE, R16. -/
def FaceRecord.latchElement (r : FaceRecord) : FaceRecord :=
  if r.latch = .none then { r with latch := .element } else r

/-- The pending target takes another reason. -/
def FaceRecord.reasonAll (r : FaceRecord) (x : Reason) : FaceRecord :=
  { r with pending := r.pending.map fun p => { p with reason := x } }

/-- A change completes on an aspect, R15. The reason a pending target takes is FAULT where the latch holds it back and
R107's otherwise (DEDUCED, log 30, unsafe). -/
def FaceRecord.settleOn (r : FaceRecord) (a : Aspect) : FaceRecord :=
  { r with
    shown := a, state := .steady, env := steadyEnv a, change := none
    pending :=
      match r.pending with
      | none => none
      | some p =>
        if p.aspect = a then none
        else some { p with reason := if r.latch = .none then waitReason a p.aspect else .fault } }

/-- A change is placed in progress at step 1, R9. -/
def FaceRecord.place (r : FaceRecord) (dst : Aspect) : FaceRecord :=
  { r with state := .changing, env := changeEnv r.shown dst, change := some ⟨r.shown, dst, .one⟩ }

/-- The step field becomes 2, R10-R12. -/
def FaceRecord.stepTwo (r : FaceRecord) : FaceRecord :=
  { r with change := r.change.map fun c => { c with phase := .two } }

/-- A return ends on CLOSED, R17. -/
def FaceRecord.returnClosed (r : FaceRecord) : FaceRecord :=
  { (if r.latch = .none then r else r.reasonAll .fault) with
    shown := .closed, state := .steady, env := steadyEnv .closed }

/-- A return ends on DARK after NOT_DROPPED, R17. -/
def FaceRecord.returnDark (r : FaceRecord) : FaceRecord :=
  { r.reasonAll .fault with
    shown := .dark, state := .steady, env := .wide, latch := if r.latch = .lamp then .lamp else .element }

/-- Into RETURNING with a floor, R5, R16, R18. -/
def FaceRecord.toReturning (r : FaceRecord) (floor : Nat) : FaceRecord :=
  { r.reasonAll .inChange with state := .returning, env := ⟨floor, 2⟩, change := none }

/-- A lamp fault darkens the face, R19; a relight it awaited is no longer awaited (DEDUCED, log 27, unsafe). -/
def FaceRecord.darken (r : FaceRecord) : FaceRecord :=
  { r.reasonAll .fault with
    shown := .dark, state := .steady, env := .wide, change := none, latch := .lamp
    relightAwaited := false, testedWait := false }

/-- The rank of the shown aspect, 0 where it has none. -/
def FaceRecord.rank (r : FaceRecord) : Nat := r.shown.rank.getD 0

/-- The change in progress ends in an aspect. -/
def FaceRecord.changingTo (r : FaceRecord) (a : Aspect) : Bool :=
  r.state == .changing && (r.change.map Change.dst) == some a

/-- The relight of R14 is in progress. -/
def FaceRecord.relighting (r : FaceRecord) : Bool := r.state == .changing && (r.change.map Change.src) == some .dark

/-! ### Returns and faults -/

/-- A return ends, R17. -/
def State.endReturn (s : State) (f : Face) : State :=
  if s.anyNotDropped f then (s.lampOff f).setFace f (s.face f).returnDark else s.setFace f (s.face f).returnClosed

/-- R17's test: a RETURNING face none of whose shutters is active any more ends its return. -/
def State.returnTest (s : State) (f : Face) : State :=
  if (s.face f).state == .returning && s.quiet f then s.endReturn f else s

/-- A face goes RETURNING: its driven shutters are released and R17's test is made at once. -/
def State.startReturn (s : State) (f : Face) (floor : Nat) : State :=
  ((s.setFace f ((s.face f).toReturning floor)).releaseDriven f).returnTest f

/-- What the face controller makes of a shutter fault report, R16; in a change into or out of DARK it takes no step
(R13). -/
def State.elementFault (s : State) (f : Face) : State :=
  match (s.face f).state with
  | .returning => s
  | .changing =>
    if (s.face f).changingTo .dark || (s.face f).relighting then s
    else (s.setFace f (s.face f).latchElement).startReturn f (s.face f).env.floor
  | .steady =>
    if (s.face f).shown.permissive then (s.setFace f (s.face f).latchElement).startReturn f (s.face f).rank
    else s.setFace f (s.face f).latchElement

/-- What the face controller makes of a lamp fault report, R19. -/
def State.lampFault (s : State) (f : Face) : State := (s.setFace f (s.face f).darken).releaseDriven f

/-! ### Starting changes -/

/-- A pull request issued by the face controller: a BLOCKED channel repeats its fault, and the change is abandoned
(R28, R34, R16). -/
def State.requestPull (s : State) (f : Face) (k : Shutter) : State :=
  if s.pullRepeats f k then (s.reportShutter f k (s.shutter f k).lastFault).elementFault f else s.pullChannel f k

/-- The relight of R14 starts: a LIT lamp reports at once, a BLOCKED one repeats its fault (R35, R37). -/
def State.relight (s : State) (f : Face) : State :=
  let t := s.setFace f { (s.face f).place .closed with relightAwaited := false, testedWait := false }
  match (s.lamp f).state with
  | .off => t.setLamp f ((s.lamp f).ramp (s.config f).rampTime).2
  | .ramping => t
  | .lit => t.setFace f ((t.face f).settleOn .closed)
  | .blocked => (t.reportLamp f (s.lamp f).lastFault).lampFault f

/-- The wait for a relight ends with a shutter BLOCKED: the latch becomes ELEMENT (R18, R20, R39); LAMP stays where no tested
shutter was released for the wait, so that R19's releases alone brought it about (R16, R19; DEDUCED, log 33, unsafe). -/
def FaceRecord.stayDark (r : FaceRecord) : FaceRecord :=
  { r with
    latch := if r.latch = .lamp && !r.testedWait then .lamp else .element
    relightAwaited := false, testedWait := false }

/-- A STEADY DARK face that awaits the relight takes it once every shutter is OFF, or stays DARK with one BLOCKED (R18, R20,
R39). -/
def State.relightTest (s : State) (f : Face) : State :=
  if (s.face f).relightAwaited && (s.face f).steadyDark && s.quiet f then
    if s.allOff f then s.relight f
    else s.setFace f (s.face f).stayDark
  else s

/-- A STEADY DARK face is to relight: its driven shutters are released first (R39), and the relight starts when all are
OFF. -/
def State.awaitRelight (s : State) (f : Face) : State :=
  ((s.setFace f { s.face f with
    relightAwaited := true, testedWait := (s.face f).testedWait || s.anyDriven f }).releaseDriven f).relightTest f

/-- The change of R12 starts. -/
def State.beginClose (s : State) (f : Face) : State := (s.setFace f ((s.face f).place .closed)).releaseShutter f .mask

/-- A STEADY face is asked to CLOSED: R12 from a permissive aspect, R14 by R39 from DARK. -/
def State.askClose (s : State) (f : Face) : State :=
  match (s.face f).shown with
  | .closed => s
  | .dark => s.awaitRelight f
  | .opened => s.beginClose f
  | .mergeL => s.beginClose f
  | .mergeR => s.beginClose f

/-- A change that ends while maintenance is ending is followed by the change to CLOSED, R21. -/
def State.endingClose (s : State) (f : Face) : State :=
  if s.node.state == .maintenance && s.node.ending && (s.face f).state == .steady then s.askClose f else s

/-- A change completes, R15. -/
def State.completeChange (s : State) (f : Face) (a : Aspect) : State :=
  (s.setFace f ((s.face f).settleOn a)).endingClose f

/-- The wait of R13 ends: the lamp is turned off, and the fault latch is set to ELEMENT when a shutter is BLOCKED. -/
def State.darkTest (s : State) (f : Face) : State :=
  if (s.face f).changingTo .dark && s.quiet f then
    let r := (s.face f).settleOn .dark
    ((s.lampOff f).setFace f (if s.anyBlocked f then { r with latch := .element } else r)).endingClose f
  else s

/-- The change of R13 starts. -/
def State.beginDark (s : State) (f : Face) : State :=
  ((s.setFace f ((s.face f).place .dark)).releaseDriven f).darkTest f

/-- The change of R10 or R11 starts: the symbol shutter of the new aspect is pulled. -/
def State.beginSymbol (s : State) (f : Face) (dst : Aspect) (k : Shutter) : State :=
  (s.setFace f ((s.face f).place dst)).requestPull f k

/-- A change starts on a STEADY face, R9: R10, R11 by the symbol of the new aspect, R12, R13, R14 otherwise. -/
def State.beginChange (s : State) (f : Face) (dst : Aspect) : State :=
  match dst.symbol with
  | some k => s.beginSymbol f dst k
  | none => if dst = .dark then s.beginDark f else s.askClose f

/-! ### What the face controller makes of MOVED and DROPPED -/

/-- MOVED from a shutter, R10, R11, R15. -/
def State.movedStep (s : State) (f : Face) (k : Shutter) : State :=
  match (s.face f).state, (s.face f).change with
  | .changing, some c =>
    match c.phase with
    | .one =>
      if c.dst.symbol = some k then
        match c.src.symbol with
        | none => (s.setFace f (s.face f).stepTwo).requestPull f .mask
        | some old => (s.setFace f (s.face f).stepTwo).releaseShutter f old
      else s
    | .two => if c.src = .closed && k == .mask then s.completeChange f c.dst else s
  | _, _ => s

/-- DROPPED from a shutter, R11, R12, R15. -/
def State.droppedStep (s : State) (f : Face) (k : Shutter) : State :=
  match (s.face f).state, (s.face f).change with
  | .changing, some c =>
    match c.src.symbol with
    | none => s
    | some old =>
      match c.phase with
      | .one =>
        if c.dst = .closed && k == .mask then (s.setFace f (s.face f).stepTwo).releaseShutter f old else s
      | .two => if k = old then s.completeChange f c.dst else s
  | _, _ => s

/-- The tests made on each report of a channel's state: the end of a return, of the wait of R13, of the wait for a
relight. -/
def State.channelTests (s : State) (f : Face) : State := ((s.returnTest f).darkTest f).relightTest f

/-! ### The node state, R60-R63, R75, R77, R78, R151 -/

/-- The merge-lost latch of a face is cleared, R117. -/
def State.clearMergeLost (s : State) (f : Face) : State := s.setFace f { s.face f with mergeLost := none }

/-- The node enters STANDBY: the flags are cleared (R60), the silence timer stops (R154), release-all is withdrawn (R78)
and both merge-lost latches are cleared (R117). -/
def State.enterStandby (s : State) : State :=
  (((s.setNode { s.node with state := .standby, leaving := false, ending := false }).setSup
    { s.sup with timer := .stopped, releaseAll := false }).clearMergeLost .e).clearMergeLost .w

/-- Both faces are STEADY on CLOSED. -/
def State.bothClosed (s : State) : Bool := s.faces.e.steadyClosed && s.faces.w.steadyClosed

/-- No face holds a pending target. -/
def State.nothingPending (s : State) : Bool := s.faces.e.pending.isNone && s.faces.w.pending.isNone

/-- The leaving test (R75) and the test that ends maintenance (R77). -/
def State.nodeTests (s : State) : State :=
  if s.node.state == .service && s.node.leaving && s.bothClosed && s.nothingPending then s.enterStandby
  else if s.node.state == .maintenance && s.node.ending && s.bothClosed then s.enterStandby
  else s

/-- The table of R18 for one face, its pending target discarded. -/
def State.releaseAllFace (s : State) (f : Face) : State :=
  let t := s.setFace f { s.face f with pending := none }
  match (s.face f).state with
  | .returning => t.returnTest f
  | .changing => if (s.face f).relighting then t else t.startReturn f (s.face f).env.floor
  | .steady =>
    match (s.face f).shown with
    | .closed => t
    | .dark =>
      if (s.face f).latch = .none then
        (t.setFace f { t.face f with relightAwaited := true }).relightTest f
      else t
    | .opened => t.startReturn f (s.face f).rank
    | .mergeL => t.startReturn f (s.face f).rank
    | .mergeR => t.startReturn f (s.face f).rank

/-- Entry to FAILSAFE with a cause, R151. -/
def State.enterFailsafe (s : State) (c : Cause) : State :=
  ((((s.setNode { s.node.addCause c with state := .failsafe, leaving := false, ending := false }).setSup
    { s.sup with timer := .stopped }).assertReleaseAll).releaseAllFace .e).releaseAllFace .w

/-- A forced-closure cause arises, R63. -/
def State.arise (s : State) (c : Cause) : State :=
  match s.node.state with
  | .unnumbered => s.setNode (s.node.addCause c)
  | .numbered => s.setNode (s.node.addCause c)
  | .failsafe => s.setNode (s.node.addCause c)
  | .standby => s.enterFailsafe c
  | .service => s.enterFailsafe c
  | .held => s.enterFailsafe c
  | .maintenance => s.enterFailsafe c

end Sys2Proof.Machine
end

