-- ==== Sys2Proof/Machine/Gates.lean ====
section
/-! DEFINITION. Target resolution (R104-R106), the gates (R107-R112), what becomes of a target (R8, R113), wait ages
(R114, R115), the merge-target check (R116, R117), and the cover of a lock (R142). -/

namespace Sys2Proof.Machine

/-! ### Locks -/

/-- A lock's faces include a face, R142. -/
def LockFaces.covers : LockFaces → Face → Bool
  | .e, .e => true
  | .e, .w => false
  | .w, .e => false
  | .w, .w => true
  | .both, _ => true

/-- A face is covered while at least one lock covers it, R142. -/
def State.covered (s : State) (f : Face) : Bool := s.poss.locks.any fun l => l.faces.covers f

/-! ### Passes, R89, R107 -/

/-- A face's raise pass. -/
def raisePass : Face → Pass
  | .e => .out
  | .w => .ret

/-- A face's lower and sideways pass. -/
def lowerPass : Face → Pass
  | .e => .ret
  | .w => .out

/-- What a pass in hand brings the face controller, R94: its kind, sequence, plan number, and the prev entry at the node's
lane as read (R82, R88). -/
structure PassView where
  pass  : Pass
  seq   : BitVec 16
  plan  : Nat
  entry : Option LaneEntry
  deriving DecidableEq, Repr

/-- The same-direction half of the prev entry. -/
def PassView.half (v : PassView) (f : Face) : Option Half := v.entry.map fun x => x.half f

/-- The last downstream entry kept for a face, R89. -/
def SweepBlock.down (b : SweepBlock) : Face → Option Half
  | .e => b.downE
  | .w => b.downW

/-- The kept merge entry of a side, by the table of R90. -/
def SweepBlock.merge (b : SweepBlock) (f : Face) (d : Side) : MergeEntry :=
  if mergesLower f d then b.lower else b.upper

/-- The kept merge entry is present with the ceiling of its same-direction half 0, R110, R116, R117. -/
def MergeEntry.openFor (m : MergeEntry) (f : Face) : Bool :=
  match m.entry with
  | some x => (x.half f).ceiling == 0
  | none => false

/-! ### Resolution -/

/-- A diagonal can be shown: its shutter is fitted and its target lane lies on the carriageway, R105, R106. -/
def State.canShow (s : State) (f : Face) (a : Aspect) : Bool :=
  match a.symbol, a.side with
  | some k, some d => s.fitted f k && mergeLaneOk s.lane s.width f d
  | some _, none => true
  | none, _ => true

/-- The aspect of a face in a plan entry. -/
def PlanEntry.aspect (x : PlanEntry) : Face → Aspect
  | .e => x.e
  | .w => x.w

/-- The lookup of a plan number in ACTIVE, R132. -/
def State.lookup (s : State) (plan : Nat) : Option PlanEntry := s.plan.active.entries.find? fun x => x.plan == plan

/-- The plan aspect of a face, and whether its resolution sets the PLAN latch, R105. -/
def State.planAspect (s : State) (f : Face) (plan : Nat) : Aspect × Bool :=
  if plan = 0 then (.closed, false)
  else
    match s.lookup plan with
    | none => (.closed, true)
    | some x =>
      if (x.aspect f).permissive && !s.laneType.allows f then (.closed, true)
      else if !s.canShow f (x.aspect f) then (.closed, true)
      else (x.aspect f, false)

/-- The warning aspect as resolved, and whether it sets the PLAN latch, R106. -/
def State.warningAspect (s : State) (f : Face) : Aspect × Bool :=
  if s.canShow f (s.config f).warning then ((s.config f).warning, false) else (.closed, true)

/-- The target of a face under a plan number, and whether the PLAN latch is set, R104. -/
def State.resolve (s : State) (f : Face) (plan : Nat) : Target × Bool :=
  if s.node.leaving then (⟨.closed, .leave⟩, false)
  else if s.covered f then (⟨.closed, .possession⟩, false)
  else if (s.face f).mergeLost.isSome then (⟨.closed, .merge⟩, false)
  else if (s.planAspect f plan).1 = .opened && halfEnv (s.sweep.down f) = .wide then
    (⟨(s.warningAspect f).1, .boundary⟩, (s.warningAspect f).2)
  else (⟨(s.planAspect f plan).1, .plan⟩, (s.planAspect f plan).2)

/-! ### Gates -/

/-- What the gates of a pass answer for a target: the pass is not the decision pass for it, every gate passes, or the
first failing gate's name. -/
inductive GateOutcome where
  | notNow
  | pass
  | fail (r : Reason)
  deriving DecidableEq, Repr

/-- The MERGE_TARGET gate for a target, R109 check 4, R110. -/
def State.mergeGate (s : State) (f : Face) (seq : BitVec 16) (a : Aspect) : Bool :=
  match a.side with
  | none => true
  | some d =>
    (s.sweep.merge f d).openFor f &&
      ((s.sweep.merge f d).seq == some seq || (s.sweep.merge f d).seq == some (seq - 1))

/-- A raise to rank `r`, R108. -/
def raiseGate (r : Nat) (upstream : Option Half) : GateOutcome :=
  if r ≤ (halfEnv upstream).floor + 1 then .pass else .fail .upstream

/-- A lowering, R109. -/
def State.lowerGate (s : State) (f : Face) (v : PassView) (a : Aspect) : GateOutcome :=
  if !(s.face (otherFace f)).steadyClosed then .fail .pair
  else if !s.laneType.allows f then .fail .lane
  else if s.covered f then .fail .possession
  else if !s.mergeGate f v.seq a then .fail .mergeTarget
  else if (halfEnv (v.half f)).ceiling ≤ a.rank.getD 0 + 1 then .pass
  else .fail .downstream

/-- A sideways change, R111. -/
def State.sidewaysGate (s : State) (f : Face) (v : PassView) (a : Aspect) : GateOutcome :=
  if s.covered f then .fail .possession
  else if !s.mergeGate f v.seq a then .fail .mergeTarget
  else .pass

/-- The gates of a pass for a target of a STEADY face, R107: a raise on its raise pass, a lowering or a sideways change on
its lower pass. -/
def State.gate (s : State) (f : Face) (v : PassView) (a : Aspect) : GateOutcome :=
  match (s.face f).shown.rank, a.rank with
  | some r, some q =>
    if r < q then (if v.pass = raisePass f then raiseGate q (v.half f) else .notNow)
    else if v.pass = lowerPass f then (if q < r then s.lowerGate f v a else s.sidewaysGate f v a)
    else .notNow
  | some _, none => .notNow
  | none, _ => .notNow

/-! ### What becomes of a target, R8, R107, R113 -/

/-- A target becomes the pending target: one of the same aspect keeps its age, and its reason too where `keep` holds;
one of another aspect is replaced and counted as superseded. -/
def State.pend (s : State) (f : Face) (t : Target) (why : Reason) (keep : Bool) : State :=
  let r := s.face f
  match r.pending with
  | none => s.setFace f { r with pending := some ⟨t.aspect, t.cause, 0, why⟩ }
  | some p =>
    if p.aspect = t.aspect then
      s.setFace f { r with pending := some { p with cause := t.cause, reason := if keep then p.reason else why } }
    else (s.setFace f { r with pending := some ⟨t.aspect, t.cause, 0, why⟩ }).countSuperseded

/-- Any pending target is removed without being counted. -/
def State.unpend (s : State) (f : Face) : State := s.setFace f { s.face f with pending := none }

/-- Any pending target is removed and counted as superseded, R8. -/
def State.supersede (s : State) (f : Face) : State :=
  match (s.face f).pending with
  | none => s
  | some _ => (s.unpend f).countSuperseded

/-- A change to the aspect would pull a shutter, R9. -/
def pulls (a : Aspect) : Bool := a.symbol.isSome

/-- A resolved target is stored and handled, R8; `g` is what the gates of the pass answer for it. -/
def State.takeTarget (s : State) (f : Face) (t : Target) (g : GateOutcome) : State :=
  let s := s.setFace f { s.face f with target := t }
  let r := s.face f
  match r.state with
  | .steady =>
    if t.aspect = r.shown then s.unpend f
    else if r.latch ≠ .none || r.shown = .dark then s.pend f t .fault (g = .notNow)
    else
      match g with
      | .notNow => s.pend f t (waitReason r.shown t.aspect) true
      | .fail why => s.pend f t why false
      | .pass => if s.sup.releaseAll && pulls t.aspect then s else (s.unpend f).beginChange f t.aspect
  | .changing => if r.changingTo t.aspect then s.supersede f else s.pend f t .inChange true
  | .returning => if t.aspect = .closed then s.supersede f else s.pend f t .inChange true

/-- Steps 3 and 4 of R103 for one face on an acting pass. -/
def State.decide (s : State) (f : Face) (v : PassView) : State :=
  ((s.latchIf (s.resolve f v.plan).2 .plan)).takeTarget f (s.resolve f v.plan).1 (s.gate f v (s.resolve f v.plan).1.aspect)

/-! ### Waiting, R114, R115 -/

/-- A pending target's age at or above the stall limit, R115, R169. -/
def State.stalled (s : State) (f : Face) : Bool :=
  match (s.face f).pending with
  | none => false
  | some p => s.store.site.fields.stall ≤ p.age

/-- The wait age of a face's pending target advances. -/
def FaceRecord.ageOne (r : FaceRecord) : FaceRecord :=
  { r with pending := r.pending.map fun p => { p with age := satByte (p.age + 1) } }

/-- Step 1 of R103 for one face: the age advances, and STALL is set at the stall limit. -/
def State.advanceAge (s : State) (f : Face) : State :=
  let t := s.setFace f (s.face f).ageOne
  t.latchIf (t.stalled f) .stall

/-! ### The merge-target check, R116, R117 -/

/-- The merge aspect's side of a face: STEADY on a diagonal, or CHANGING to one. -/
def FaceRecord.mergeSide (r : FaceRecord) : Option Side :=
  match r.state, r.change with
  | .steady, _ => r.shown.side
  | .changing, some c => c.dst.side
  | .changing, none => none
  | .returning, _ => none

/-- R117: the merge-lost latch is cleared when the recorded side is open again. -/
def State.mergeFound (s : State) (f : Face) : State :=
  match (s.face f).mergeLost with
  | none => s
  | some d => if (s.sweep.merge f d).openFor f then s.clearMergeLost f else s

/-- R116: the merge-lost latch and the MERGE latch are set when the target is lost. -/
def State.mergeTest (s : State) (f : Face) : State :=
  match (s.face f).mergeSide with
  | none => s
  | some d =>
    if (s.sweep.merge f d).openFor f then s
    else
      (s.setFace f { s.face f with
        mergeLost := match (s.face f).mergeLost with
          | none => some d
          | some old => some old }).latch .merge

/-- Step 2 of R103 for one face: R117's clear, then R116's check (DESIGN CHOICE, log 12, unsafe). -/
def State.mergeCheck (s : State) (f : Face) : State := (s.mergeFound f).mergeTest f

end Sys2Proof.Machine
end

