-- ==== Sys2Proof/Machine/Ops.lean ====
section
/-! DEFINITION. The shared operations on the whole node: resets (R22, R41, R59, R80, R102, R135, R149, R163, R176,
R185), the forwarding queues (R49), the wrap (R53), the receipt of a frame (R45-R58), and the storage writer
(R146, R181-R184). -/

namespace Sys2Proof.Machine

/-! ### Resets -/

/-- Any reset: every record at its value after reset, the images and factory records kept, the writer idle; the records
start-up loads stand at the values of a record not loaded (log 6), and the image states as they stood before the reset
until the settle ends (DESIGN CHOICE, log 51, unsafe). -/
def State.doReset (s : State) (c : ResetCause) (ph : Phase) : State :=
  { phase := ph
    line := .reset
    node := .reset c
    sweep := .reset
    faces := ⟨.reset, .reset⟩
    elem := .reset
    plan := .reset
    poss := .reset
    sup := .reset
    fault := .reset
    store := { s.store with identityOk := false, trimsInUse := false, site := .notValid, writer := .idle }
    pending := s.pending }

/-- A commanded reset takes effect, R79: it ends at once and start-up begins. -/
def State.commandedReset (s : State) : State := s.doReset .commanded .settling

/-! ### Queues and the wrap -/

/-- The queued form of a frame, with its CRC computed afresh, R48. -/
def Frame.queued (f : Frame) : QueuedFrame := ⟨f.wire, f.carriesReset⟩

/-- A processed frame joins the queue that feeds the transmit pair of port `q`, or is dropped as OVERRUN of the port `p`
it was received on, R49; a commanded reset that waited for a dropped frame takes effect at once, R79. -/
def State.join (s : State) (q p : Port) (f : Frame) : State :=
  if queueLimit ≤ (s.line.queue q).length then
    if f.carriesReset then (s.countOverrun p).commandedReset else s.countOverrun p
  else s.setLine (s.line.setQueue q (s.line.queue q ++ [f.queued]))

/-- A RESET waits for a queued frame to be sent, R79. -/
def LineBlock.resetWaits (l : LineBlock) : Bool :=
  l.outboundQueue.any QueuedFrame.carriesReset || l.returnQueue.any QueuedFrame.carriesReset

/-- The receiver of a port goes to a state with its buffer empty. -/
def LineBlock.rxTo (l : LineBlock) (p : Port) (x : RxState) : LineBlock := l.setRx p ⟨x, []⟩

/-- Entry to END (wrapped), R53; a reception on port B is abandoned, R55; a commanded reset that waited for a discarded
frame takes effect at once, R79. -/
def State.wrap (s : State) : State :=
  let t := (s.setLine { s.line.rxTo .b .idle with role := .endWrapped, outboundQueue := [] }).latch .wrap
  if s.line.outboundQueue.any QueuedFrame.carriesReset then t.commandedReset else t

/-- Entry to END (configured), R51, R55. -/
def State.endConfigure (s : State) : State := s.setLine { s.line.rxTo .b .idle with role := .endConfigured }

/-- Entry to THROUGH, R54, R55: a frame arriving on port B is discarded; what ends the discarding is R44's (log 50). -/
def State.through (s : State) (arriving : Bool) : State :=
  s.setLine { (if arriving then s.line.rxTo .b .discarding else s.line) with role := .through }

/-! ### Receipt of a frame -/

/-- Port B receives no frames: END role, past start-up, R55. -/
def State.deaf (s : State) : Port → Bool
  | .a => false
  | .b => s.phase == .running && s.line.role.isEnd

/-- A checked frame has been received: the receiver is IDLE and the good-frames counter grows, R44, R45, R57. -/
def State.received (s : State) (p : Port) : State := (s.setLine (s.line.rxTo p .idle)).countGood p

/-- The queue a port's frames join while they are not turned around: A to the outbound queue, B to the return queue. -/
def onward : Port → Port
  | .a => .b
  | .b => .a

/-- A frame received between a reset and the end of start-up is counted and forwarded unprocessed, R58; one of unknown kind
counts as UNKNOWN also where it is dropped at a full queue (DESIGN CHOICE, log 52, unsafe). -/
def State.forwardInStartUp (s : State) (p : Port) (f : Frame) : State :=
  (if kindUnknown f.kind then s.countUnknown p else s).join (onward p) p f

/-- The processing of a frame from port A past start-up, R48, R52: the outbound pass, the role read at its completion,
and at an END role the return pass. A reset inside the outbound pass loses the frame (log 32). -/
def State.processA (s : State) (f : Frame) (out ret : State → Frame → State × Frame) : State :=
  let r := out s f
  if r.1.phase ≠ .running then r.1
  else if r.1.line.role.isEnd then
    let q := ret r.1 { r.2 with pass := .ret }
    q.1.join .a .a q.2
  else r.1.join .b .a r.2

/-- The processing of a frame from port B past start-up, R52. -/
def State.processB (s : State) (f : Frame) (ret : State → Frame → State × Frame) : State :=
  (ret s f).1.join .a .b (ret s f).2

/-- The receipt of a checked frame on port A: from any reset to the end of start-up it is forwarded unprocessed (R58), in
a part held in reset too (log 25). Words that make no frame of R45 leave the state (log 1). -/
def State.receiveA (s : State) (f : Frame) (out ret : State → Frame → State × Frame) : State :=
  if f.fits then
    match s.phase with
    | .held => (s.received .a).forwardInStartUp .a f
    | .settling => (s.received .a).forwardInStartUp .a f
    | .relighting _ _ => (s.received .a).forwardInStartUp .a f
    | .running => (s.received .a).processA f out ret
  else s

/-- The receipt of a checked frame on port B. -/
def State.receiveB (s : State) (f : Frame) (ret : State → Frame → State × Frame) : State :=
  if f.fits && !s.deaf .b then
    match s.phase with
    | .held => (s.received .b).forwardInStartUp .b f
    | .settling => (s.received .b).forwardInStartUp .b f
    | .relighting _ _ => (s.received .b).forwardInStartUp .b f
    | .running => (s.received .b).processB f ret
  else s

/-- A pass on which no block acts, R46. -/
def unchanged (s : State) (f : Frame) : State × Frame := (s, f)

/-! ### The storage writer -/

/-- The image while it is being written, R181: its completion mark is removed first. -/
def Image.begin {α : Type} (_ : Image α) : Image α := ⟨.writing, none, false, false⟩

/-- The image with its completion mark written, R181. -/
def Image.complete {α : Type} (x : α) : Image α := ⟨.valid, some x, true, true⟩

/-- The image as its erase begins, R184. -/
def Image.erased {α : Type} : Image α := ⟨.erased, none, false, false⟩

/-- A lock as stored. -/
def Lock.stored (l : Lock) : StoredLock := ⟨l.id, l.faces⟩

/-- A lock-table write begins whenever the dirty flag is set and the writer is idle, R146. -/
def State.lockWriteBegin (s : State) : State :=
  if s.poss.dirty && s.store.writer == .idle then
    (s.setPoss { s.poss with dirty := false, locks := s.poss.locks.map fun l => { l with inCopy := true } }).setStore
      { s.store with writer := .lockWriting (s.poss.locks.map Lock.stored), lockImage := s.store.lockImage.begin }
  else s

/-- The writer has finished: IDLE, then LOCK_WRITING if dirty, R182. -/
def State.writerIdle (s : State) : State := (s.setStore { s.store with writer := .idle }).lockWriteBegin

/-- The writer takes the face-configuration image of a STORE in turn, R183. -/
def State.storeFaces (s : State) (c : StoreCopy) : State :=
  s.setStore { s.store with writer := .storing c .faceConfig, faceImage := s.store.faceImage.begin }

/-! ### The site record -/

/-- Every field of a site record lies in its range, R178; the lane-type copies are judged by the vote (log 13). -/
def SiteRecord.inRange (x : SiteRecord) : Bool :=
  1 ≤ x.gantry && x.gantry ≤ maxGantry && 1 ≤ x.lane && x.lane ≤ 8 && 1 ≤ x.width && x.width ≤ 8 && 1 ≤ x.expected &&
    x.expected ≤ maxAddress && 300 ≤ x.tHold && x.tHold ≤ 5000 && x.tHold % 100 == 0 && 2000 ≤ x.tClose &&
    x.tClose ≤ 60000 && x.tClose % 1000 == 0 && 1 ≤ x.stall && x.stall ≤ byteMax

/-- A part echo equals the identity part code; a record that failed its check matches none, R177. -/
def StorageBlock.echoOk (b : StorageBlock) (echo : Word) : Bool := b.identityOk && echo == b.identity.part

/-- The masks in force, R166. -/
def State.setMasks (s : State) (m : BitVec 12) : State := s.setFault { s.fault with masks := m }

end Sys2Proof.Machine
end

