-- ==== Sys2Proof/Machine/ElementEvents.lean ====
section
/-! DEFINITION. The channel events: MOVED (R29), HIT_TIME_END (R30), HOLD_LOST (R31), DROPPED and NOT_DROPPED (R32),
OVERCURRENT (R33), LIT and NOT_LIT (R35), LAMP_OPEN, LAMP_OVERCURRENT and LAMP_CURRENT_MOVE_END (R36), with the end of
start-up (R58, R189). An event that a channel's state and current do not produce leaves the state (log 1). -/

namespace Sys2Proof.Machine

/-- A channel's report has reached the face controller: its tests, then the node's (R17, R75, R77). -/
def State.afterReport (s : State) (f : Face) : State := (s.channelTests f).nodeTests

/-! ### Shutters -/

/-- MOVED, R29: in a pull that has not reported it, the current stands more than the dip threshold below the running
peak. -/
def execMoved (f : Face) (k : Shutter) (rawPeak rawNow : Nat) (s : State) : Host.Outcome State Fault Refusal :=
  let c := s.shutter f k
  let now := s.measureShutter f k rawNow
  let peak := max (max (c.peak.getD 0) (s.measureShutter f k rawPeak)) now
  if c.state = .pulling && !c.movedSeen && now + ((s.config f).params k).dipThreshold < peak then
    .next (((s.setShutter f k { c with measured := now, movedSeen := true, peak := some peak }).movedStep
      f k).afterReport f)
  else .next s

/-- HIT_TIME_END, R30. -/
def execHitTimeEnd (f : Face) (k : Shutter) (s : State) : Host.Outcome State Fault Refusal :=
  let c := s.shutter f k
  if c.state = .pulling then
    if c.movedSeen then
      .next ((s.setShutter f k { c with state := .holding, peak := none, timer := none }).afterReport f)
    else
      .next ((((s.setShutter f k (c.letGo ((s.config f).params k))).reportShutter f k .notMoved).elementFault
        f).afterReport f)
  else .next s

/-- HOLD_LOST, R31. -/
def execHoldLost (f : Face) (k : Shutter) (raw : Nat) (s : State) : Host.Outcome State Fault Refusal :=
  let c := { s.shutter f k with measured := s.measureShutter f k raw }
  if c.state = .holding && c.measured < floorOf ((s.config f).params k).hold then
    .next ((((s.setShutter f k (c.letGo ((s.config f).params k))).reportShutter f k .holdLost).elementFault
      f).afterReport f)
  else .next s

/-- DROPPED, R32: the current has reached zero. -/
def execDropped (f : Face) (k : Shutter) (raw : Nat) (s : State) : Host.Outcome State Fault Refusal :=
  let c := { s.shutter f k with measured := s.measureShutter f k raw }
  if c.state = .releasing && c.measured = 0 then
    .next (((s.setShutter f k c.rest).droppedStep f k).afterReport f)
  else .next s

/-- NOT_DROPPED, R32: the release-settle timer has ended with the current above zero. -/
def execNotDropped (f : Face) (k : Shutter) (raw : Nat) (s : State) : Host.Outcome State Fault Refusal :=
  let c := { s.shutter f k with measured := s.measureShutter f k raw }
  if c.state = .releasing && 0 < c.measured then
    .next ((((s.setShutter f k (c.block .notDropped)).reportShutter f k .notDropped).elementFault f).afterReport f)
  else .next s

/-- OVERCURRENT, R33. -/
def execOvercurrent (f : Face) (k : Shutter) (raw : Nat) (s : State) : Host.Outcome State Fault Refusal :=
  let c := { s.shutter f k with measured := s.measureShutter f k raw }
  if c.active && overcurrentLimit < c.measured then
    .next ((((s.setShutter f k (c.block .overcurrent)).reportShutter f k .overcurrent).elementFault f).afterReport f)
  else .next s

/-! ### The end of start-up, R58, R189 -/

/-- The line role is set, and the node controller begins to take frames in UNNUMBERED. -/
def State.startUpEnd (s : State) : State :=
  let t := s.setPhase .running
  if t.store.site.valid && t.store.site.fields.endFlag then t.endConfigure
  else if t.line.linkB = .down then t.wrap
  else t.through false

/-- A lamp channel has reported LIT or a lamp fault; start-up ends when both have. -/
def State.lampReported (s : State) (f : Face) : State :=
  match s.phase, f with
  | .relighting _ w, .e => if w then s.startUpEnd else s.setPhase (.relighting true w)
  | .relighting e _, .w => if e then s.startUpEnd else s.setPhase (.relighting e true)
  | .held, _ => s
  | .settling, _ => s
  | .running, _ => s

/-! ### Lamps -/

/-- LIT on the face, R14, R15: a relight in progress completes; a lamp lit by a test changes nothing (R39). -/
def State.litStep (s : State) (f : Face) : State :=
  if (s.face f).relighting then s.completeChange f .closed else s

/-- LIT, R35. -/
def execLit (f : Face) (raw : Nat) (s : State) : Host.Outcome State Fault Refusal :=
  let c := { s.lamp f with measured := s.measureLamp f raw }
  if c.state = .ramping && inLampWindow (s.config f).lampCurrent c.measured then
    .next ((((s.setLamp f { c with state := .lit, timer := none }).litStep f).afterReport f).lampReported f)
  else .next s

/-- A lamp channel is blocked by a fault, reports it, and the face goes dark, R19, R27. -/
def State.lampFails (s : State) (f : Face) (c : LampChannel) (x : ChannelFault) : State :=
  ((((s.setLamp f (c.block x)).reportLamp f x).lampFault f).afterReport f).lampReported f

/-- NOT_LIT, R35. -/
def execNotLit (f : Face) (s : State) : Host.Outcome State Fault Refusal :=
  if (s.lamp f).state = .ramping then .next (s.lampFails f (s.lamp f) .notLit) else .next s

/-- LAMP_OPEN, R36. -/
def execLampOpen (f : Face) (raw : Nat) (s : State) : Host.Outcome State Fault Refusal :=
  let c := { s.lamp f with measured := s.measureLamp f raw }
  if c.state = .lit && c.measured < s.lampFloor f then .next (s.lampFails f c .lampOpen) else .next s

/-- LAMP_OVERCURRENT, R36. -/
def execLampOvercurrent (f : Face) (raw : Nat) (s : State) : Host.Outcome State Fault Refusal :=
  let c := { s.lamp f with measured := s.measureLamp f raw }
  if (c.state = .ramping || c.state = .lit) && overcurrentLimit < c.measured then
    .next (s.lampFails f c .overcurrent)
  else .next s

/-- LAMP_CURRENT_MOVE_END, R36. -/
def execLampCurrentMoveEnd (f : Face) (s : State) : Host.Outcome State Fault Refusal :=
  .next (s.setLamp f { s.lamp f with moveFrom := none })

end Sys2Proof.Machine
end

