-- ==== Sys2Proof/Machine/Commands.lean ====
section
/-! DEFINITION. The COMMAND frame (R64-R69, R193): the commands with their codes, argument counts, result sizes, forms and
states, the judgement of R67, and the replies. -/

namespace Sys2Proof.Machine

/-! ### The commands -/

/-- The commands of R193. -/
inductive Cmd where
  | readIdentity
  | readSite
  | readStatus
  | readFace
  | readChannel
  | readPlan
  | readLocks
  | readCounters
  | writeSite
  | writeFace
  | setMasks
  | clearFaults
  | loadBegin
  | loadBlock
  | loadEnd
  | swap
  | store
  | eraseStore
  | commission
  | enterService
  | leaveService
  | release
  | maintain
  | endMaintain
  | reset
  | faceSet
  | elementTest
  | possFrom
  | possTo
  | possExcept
  | possApply
  | possLift
  deriving DecidableEq, Repr

/-- The addressing forms a command is sent in, R66. -/
inductive Form where
  | addressed
  | broadcast
  | both
  deriving DecidableEq, Repr

/-- A set of node states, in the column order of R66: U N S SV H F M. -/
structure States where
  u  : Bool
  n  : Bool
  s  : Bool
  sv : Bool
  h  : Bool
  f  : Bool
  m  : Bool
  deriving DecidableEq, Repr

/-- A node state is in the set. -/
def States.has (x : States) : NodeState → Bool
  | .unnumbered => x.u
  | .numbered => x.n
  | .standby => x.s
  | .service => x.sv
  | .held => x.h
  | .failsafe => x.f
  | .maintenance => x.m

/-- Every column "yes". -/
def States.all : States := ⟨true, true, true, true, true, true, true⟩

/-- From NUMBERED onward. -/
def States.fromNumbered : States := ⟨false, true, true, true, true, true, true⟩

/-- MAINTENANCE alone. -/
def States.maintenanceOnly : States := ⟨false, false, false, false, false, false, true⟩

/-- STANDBY alone. -/
def States.standbyOnly : States := ⟨false, false, true, false, false, false, false⟩

/-- What R66 and R193 give a command: its code, its argument words n, its addressed result size, its form, and the states
that accept it. -/
structure CmdRow where
  code   : Nat
  args   : Nat
  result : Nat
  form   : Form
  states : States
  deriving DecidableEq, Repr

/-- The tables of R66 and R193. -/
def Cmd.row : Cmd → CmdRow
  | .readIdentity => ⟨0x01, 0, 6, .addressed, .all⟩
  | .readSite => ⟨0x02, 0, 10, .addressed, .all⟩
  | .readStatus => ⟨0x03, 0, 17, .addressed, .all⟩
  | .readFace => ⟨0x04, 1, 5, .addressed, .all⟩
  | .readChannel => ⟨0x05, 1, 5, .addressed, .all⟩
  | .readPlan => ⟨0x06, 2, 11, .addressed, .all⟩
  | .readLocks => ⟨0x07, 0, 11, .addressed, .all⟩
  | .readCounters => ⟨0x08, 0, 13, .addressed, .all⟩
  | .writeSite => ⟨0x10, 9, 0, .addressed, ⟨true, true, true, false, false, false, true⟩⟩
  | .writeFace => ⟨0x11, 15, 0, .addressed, .all⟩
  | .setMasks => ⟨0x12, 1, 0, .both, .all⟩
  | .clearFaults => ⟨0x13, 1, 0, .both, .all⟩
  | .loadBegin => ⟨0x20, 1, 0, .addressed, .fromNumbered⟩
  | .loadBlock => ⟨0x21, 9, 1, .addressed, .fromNumbered⟩
  | .loadEnd => ⟨0x22, 1, 1, .addressed, .fromNumbered⟩
  | .swap => ⟨0x23, 0, 0, .both, ⟨false, false, true, true, false, false, false⟩⟩
  | .store => ⟨0x28, 0, 0, .both, .fromNumbered⟩
  | .eraseStore => ⟨0x29, 0, 0, .addressed, ⟨false, true, true, false, false, false, true⟩⟩
  | .commission => ⟨0x30, 0, 0, .both, ⟨false, true, false, false, false, false, false⟩⟩
  | .enterService => ⟨0x31, 0, 0, .both, .standbyOnly⟩
  | .leaveService => ⟨0x32, 0, 0, .both, ⟨false, false, false, true, true, false, false⟩⟩
  | .release => ⟨0x33, 0, 0, .both, ⟨true, true, false, false, false, true, false⟩⟩
  | .maintain => ⟨0x34, 0, 0, .addressed, .standbyOnly⟩
  | .endMaintain => ⟨0x35, 0, 0, .addressed, .maintenanceOnly⟩
  | .reset => ⟨0x36, 0, 0, .both, .all⟩
  | .faceSet => ⟨0x38, 1, 0, .addressed, .maintenanceOnly⟩
  | .elementTest => ⟨0x39, 1, 0, .addressed, .maintenanceOnly⟩
  | .possFrom => ⟨0x40, 2, 0, .broadcast, .fromNumbered⟩
  | .possTo => ⟨0x41, 1, 0, .broadcast, .fromNumbered⟩
  | .possExcept => ⟨0x42, 1, 0, .broadcast, .fromNumbered⟩
  | .possApply => ⟨0x43, 1, 0, .broadcast, .fromNumbered⟩
  | .possLift => ⟨0x44, 1, 0, .both, .fromNumbered⟩

/-- A READ_ command or a possession command leaves a possession sequence in progress alone, R67 step 5, R140. R161 calls a
sequence untouched by a RELEASE that FAILSAFE accepts; step 5 of R67, R140 and R162 are followed, so that RELEASE abandons it
before it is executed and executing it touches none (DESIGN CHOICE, log 44, unsafe). -/
def Cmd.keepsSequence : Cmd → Bool
  | .readIdentity => true
  | .readSite => true
  | .readStatus => true
  | .readFace => true
  | .readChannel => true
  | .readPlan => true
  | .readLocks => true
  | .readCounters => true
  | .possFrom => true
  | .possTo => true
  | .possExcept => true
  | .possApply => true
  | .possLift => true
  | .writeSite => false
  | .writeFace => false
  | .setMasks => false
  | .clearFaults => false
  | .loadBegin => false
  | .loadBlock => false
  | .loadEnd => false
  | .swap => false
  | .store => false
  | .eraseStore => false
  | .commission => false
  | .enterService => false
  | .leaveService => false
  | .release => false
  | .maintain => false
  | .endMaintain => false
  | .reset => false
  | .faceSet => false
  | .elementTest => false

/-- The command of a code; none where R193 has none. -/
def Cmd.ofCode (c : BitVec 8) : Option Cmd :=
  match c.toNat with
  | 0x01 => some .readIdentity
  | 0x02 => some .readSite
  | 0x03 => some .readStatus
  | 0x04 => some .readFace
  | 0x05 => some .readChannel
  | 0x06 => some .readPlan
  | 0x07 => some .readLocks
  | 0x08 => some .readCounters
  | 0x10 => some .writeSite
  | 0x11 => some .writeFace
  | 0x12 => some .setMasks
  | 0x13 => some .clearFaults
  | 0x20 => some .loadBegin
  | 0x21 => some .loadBlock
  | 0x22 => some .loadEnd
  | 0x23 => some .swap
  | 0x28 => some .store
  | 0x29 => some .eraseStore
  | 0x30 => some .commission
  | 0x31 => some .enterService
  | 0x32 => some .leaveService
  | 0x33 => some .release
  | 0x34 => some .maintain
  | 0x35 => some .endMaintain
  | 0x36 => some .reset
  | 0x38 => some .faceSet
  | 0x39 => some .elementTest
  | 0x40 => some .possFrom
  | 0x41 => some .possTo
  | 0x42 => some .possExcept
  | 0x43 => some .possApply
  | 0x44 => some .possLift
  | _ => none

/-! ### Replies -/

/-- The reasons of a refusal, R68, R193. -/
inductive Reject where
  | argument
  | busy
  | stateCause
  | noTable
  | position
  | vote
  | mismatch
  | faceActive
  | spoiled
  | order
  | duplicate
  | entry
  | count
  | check
  | lockFull
  | lockId
  | sequence
  | pair
  | locked
  deriving DecidableEq, Repr

/-- Reason codes, R193. -/
def Reject.code : Reject → Nat
  | .argument => 1
  | .busy => 2
  | .stateCause => 3
  | .noTable => 4
  | .position => 5
  | .vote => 6
  | .mismatch => 7
  | .faceActive => 8
  | .spoiled => 9
  | .order => 10
  | .duplicate => 11
  | .entry => 12
  | .count => 13
  | .check => 14
  | .lockFull => 15
  | .lockId => 16
  | .sequence => 17
  | .pair => 18
  | .locked => 19

/-- What the executing block answers, R68: DONE with its result words, BUSY, REFUSED with a reason and the result words
the block names, or nothing where the possession block finds the node not concerned (R139, R145). -/
inductive Reply where
  | done (results : List Word)
  | busy
  | refused (why : Reject) (results : List Word)
  | notConcerned
  deriving DecidableEq, Repr

/-- The addressed REPLY word, R193; none where no reply is written. -/
def Reply.word : Reply → Option Word
  | .done _ => some (twoBytes 1 0)
  | .busy => some (twoBytes 2 0)
  | .refused why _ => some (twoBytes 3 why.code)
  | .notConcerned => none

/-- The result words of a reply. -/
def Reply.results : Reply → List Word
  | .done ws => ws
  | .busy => []
  | .refused _ ws => ws
  | .notConcerned => []

/-- The reason a broadcast counts as a refusal, R69: BUSY counts with reason BUSY. -/
def Reply.refusal : Reply → Option Reject
  | .done _ => none
  | .busy => some .busy
  | .refused why _ => some why
  | .notConcerned => none

/-- Write words into a list from a place on; the list keeps its length. -/
def putWords (ws : List Word) (i : Nat) (vs : List Word) : List Word :=
  (ws.take i ++ vs ++ ws.drop (i + vs.length)).take ws.length

/-- Replace the last word. -/
def putLast (ws : List Word) (w : Word) : List Word := putWords ws (ws.length - 1) [w]

/-- The REPLY word: word LENGTH - 2, R64. -/
def replyWord (body : List Word) : Word := body.getLastD 0

/-- An addressed answer, R64, R68: the result words into the first words of the result area, the REPLY word. -/
def answerAddressed (n : Nat) (body : List Word) (r : Reply) : List Word :=
  match r.word with
  | some w => putLast (putWords body n r.results) w
  | none => body

/-- A refused broadcast of the command names its node in the result word, R69; POSS_FROM, POSS_TO and POSS_EXCEPT write no
result word, R138, which is followed for them against R69 (DESIGN CHOICE, log 48, unsafe). -/
def Cmd.namesRefusal (c : Cmd) : Bool := c != .possFrom && c != .possTo && c != .possExcept

/-- A broadcast answer, R69: the counts of the REPLY word grow, and the first refusal's address and reason stand in the
result word where there is one and the command writes it. -/
def answerBroadcast (c : Cmd) (address : BitVec 8) (body : List Word) (r : Reply) : List Word :=
  match r with
  | .notConcerned => body
  | .done _ => putLast body (twoBytes (satByte (hiByte (replyWord body) + 1)) (loByte (replyWord body)))
  | .busy => refuse .busy
  | .refused why _ => refuse why
where
  /-- One refusal folded, R69. -/
  refuse (why : Reject) : List Word :=
    let counted := putLast body (twoBytes (hiByte (replyWord body)) (satByte (loByte (replyWord body) + 1)))
    if c.namesRefusal && c.row.args + 2 ≤ body.length && body.getD c.row.args 0 == 0 then
      putWords counted c.row.args [twoBytes address.toNat why.code]
    else counted

/-- The frame with its answer written, by the form it was sent in. -/
def answer (c : Cmd) (target address : BitVec 8) (body : List Word) (r : Reply) : List Word :=
  if target = 0 then answerBroadcast c address body r else answerAddressed c.row.args body r

/-! ### Judgement, R65, R67 -/

/-- The node is concerned by TARGET, R65. -/
def State.concernedBy (s : State) (target : BitVec 8) : Bool :=
  target == 0 || (1 ≤ target.toNat && target.toNat ≤ maxAddress && target == s.node.address)

/-- A form allows a target, R66. -/
def Form.allows (x : Form) (target : BitVec 8) : Bool :=
  match x with
  | .addressed => target != 0
  | .broadcast => target == 0
  | .both => true

/-- The result size a frame must offer, R64: a broadcast's is 1 word. -/
def Cmd.resultSize (c : Cmd) (target : BitVec 8) : Nat := if target = 0 then 1 else c.row.result

/-- The result area is large enough: LENGTH - n - 4 is at least the result size, R64. -/
def Cmd.roomFor (c : Cmd) (target : BitVec 8) (body : List Word) : Bool :=
  c.row.args + c.resultSize target + 1 ≤ body.length

/-- Step 5 of R67: a sequence in progress is abandoned with the SEQUENCE latch, R140. -/
def State.abandonSequence (s : State) (c : Cmd) : State :=
  if c.keepsSequence || s.poss.seq.state == .none then s
  else (s.setPoss { s.poss with seq := .cleared }).latch .sequence

/-- A node that finds an addressed command's REPLY word already non-zero, R65. -/
def replyTaken (target : BitVec 8) (body : List Word) : Bool := target != 0 && replyWord body != 0

/-- The command word 1 of a COMMAND frame. -/
def commandWord1 (target code : BitVec 8) : Word := twoBytes target.toNat code.toNat

/-- The COMMAND frame on its outbound pass. -/
def commandFrame (code : BitVec 8) (x : CommandPayload) : Frame :=
  { kind := kindCommand, pass := .out, flags := x.flags, word1 := commandWord1 x.target code, body := x.body,
    carriesReset := false }

/-- The argument words of a command. -/
def Cmd.argsOf (c : Cmd) (body : List Word) : List Word := body.take c.row.args

/-- The word at an argument's place. -/
def argWord (args : List Word) (i : Nat) : Word := args.getD i 0

/-- The frame leaves with an answer. -/
def Frame.answered (f : Frame) (c : Cmd) (target address : BitVec 8) (r : Reply) : Frame :=
  { f with body := answer c target address f.body r }

/-- What a block does with a command: from the node and the argument words, the node after and the reply. -/
abbrev Effect := State → List Word → State × Reply

/-- The judgement of R67 up to step 5, each step in its order. -/
inductive Verdict where
  | notConcerned
  | clash
  | silent
  | badForm
  | noRoom
  | execute
  deriving DecidableEq, Repr

/-- How the node judges a command, R65, R67. -/
def State.verdict (s : State) (c : Cmd) (target : BitVec 8) (body : List Word) : Verdict :=
  if !s.concernedBy target then .notConcerned
  else if replyTaken target body then .clash
  else if !c.row.states.has s.node.state then .silent
  else if !c.row.form.allows target then .badForm
  else if !c.roomFor target body then .noRoom
  else .execute

/-- The outbound pass of a COMMAND frame, R64-R69. A DONE answer to RESET marks the frame unless one waits already
(R79; log 15). -/
def State.judge (s : State) (c : Cmd) (target : BitVec 8) (effect : Effect) (f : Frame) : State × Frame :=
  match s.verdict c target f.body with
  | .notConcerned => (s, f)
  | .clash => (s.latch .position, f)
  | .silent => (s.latch .illegal, f)
  | .badForm => (s, f.answered c target s.node.address (.refused .argument []))
  | .noRoom => (s, f.answered c target s.node.address (.refused .argument []))
  | .execute =>
    let r := effect (s.abandonSequence c) (c.argsOf f.body)
    (r.1, { f.answered c target r.1.node.address r.2 with
      carriesReset := c == .reset && !s.line.resetWaits })

/-- The receipt of a COMMAND frame that carries the command, R46, R67. -/
def State.command (s : State) (c : Cmd) (x : CommandPayload) (effect : Effect) : State :=
  s.receiveA (commandFrame (BitVec.ofNat 8 c.row.code) x) (fun t f => t.judge c x.target effect f) unchanged

/-- The outbound pass of a COMMAND frame whose command is silent at step 1 or 2 of R67. -/
def State.judgeSilent (s : State) (target : BitVec 8) (f : Frame) : State × Frame :=
  if !s.concernedBy target then (s, f)
  else if replyTaken target f.body then (s.latch .position, f)
  else (s.latch .illegal, f)

end Sys2Proof.Machine
end

