-- ==== Sys2Proof/Machine/Frames.lean ====
section
/-! DEFINITION. The frames other than SWEEP and the executed commands: ROLLCALL (R172-R174), ENUMERATE (R70), CLOSEALL
(R72), frames of unknown kind (R47), frames forwarded unchanged (R46), start-up forwarding (R58), frames that fail a check
(R45), commands that are silent (R67). -/

namespace Sys2Proof.Machine

/-! ### ROLLCALL, R172-R174, R194 -/

/-- The node's two-word roll-call entry, R174, R194. -/
def State.rollcallEntry (s : State) : List Word :=
  [fld s.node.address.toNat 8 8 ||| fld s.node.state.code 5 3 ||| flag s.alarm 4 |||
      flag (!s.node.causes.isEmpty) 3 ||| flag (s.line.role == .endWrapped) 2 |||
      flag (!s.poss.locks.isEmpty) 1 ||| flag s.plan.stagingValid 0,
    fld s.faces.e.shown.code 13 3 ||| fld s.faces.e.state.code 11 2 ||| fld s.faces.w.shown.code 8 3 |||
      fld s.faces.w.state.code 6 2 ||| flag s.faces.e.pending.isSome 5 ||| flag s.faces.w.pending.isSome 4 |||
      flag (s.faces.e.latch != .none) 3 ||| flag (s.faces.w.latch != .none) 2 ||| flag (s.latched .line) 1 |||
      flag (s.latched .position) 0]

/-- The entry count of a ROLLCALL body: word 3. -/
def rollcallCount (body : List Word) : Nat := (body.getD 1 0).toNat

/-- A ROLLCALL pass is malformed, R172: the count is above 61, or LENGTH is not 5 plus twice the count. -/
def rollcallMalformed (body : List Word) : Bool :=
  rollcallLimit < rollcallCount body || body.length != 2 + 2 * rollcallCount body

/-- The address in the last entry; none in a frame without entries, R173. -/
def rollcallLast (body : List Word) : Option Nat :=
  if rollcallCount body = 0 then none else some (hiByte (body.getD (2 * rollcallCount body) 0))

/-- The node's address is above that of the last entry, or there is no entry, R173. -/
def rollcallInOrder (body : List Word) (address : Nat) : Bool :=
  match rollcallLast body with
  | none => true
  | some a => a < address

/-- The body with an entry appended: the count grows by 1 and LENGTH by 2, R173. -/
def rollcallAppend (body entry : List Word) : List Word :=
  [body.getD 0 0, body.getD 1 0 + 1] ++ body.drop 2 ++ entry

/-- FLAGS with OVERFLOW, bit 0, set, R194; the bits the kind does not define stay as received (DESIGN CHOICE, log 43,
unsafe). -/
def setOverflowFlag (flags : BitVec 4) : BitVec 4 := flags ||| 1#4

/-- The outbound pass of a ROLLCALL, R172, R173. Where the node raises LENGTH or sets OVERFLOW, the FLAGS bits the kind
does not define stay as received (DESIGN CHOICE, log 43, unsafe). -/
def State.rollcall (s : State) (f : Frame) : State × Frame :=
  if rollcallMalformed f.body then (s.latch .line, f)
  else if s.node.address = 0 || s.node.address.toNat < loByte (f.body.getD 0 0) then (s, f)
  else if !rollcallInOrder f.body s.node.address.toNat then (s.latch .position, f)
  else if maxFrameWords < f.length + 2 then (s, { f with flags := setOverflowFlag f.flags })
  else (s, { f with body := rollcallAppend f.body s.rollcallEntry })

/-- ROLLCALL, R173. -/
def execRollcall (x : Payload) (s : State) : Host.Outcome State Fault Refusal :=
  .next (s.receiveA (payloadFrame x kindRollcall .a) State.rollcall unchanged)

/-! ### ENUMERATE, R70, R71, R194 -/

/-- The counter of an ENUMERATE body: bits 7-0 of word 2. -/
def enumerateCounter (body : List Word) : Nat := loByte (body.getD 0 0)

/-- The counter word is written whole with the counter one higher, R70, R194. -/
def enumerateCount (body : List Word) : List Word :=
  putWords body 0 [fld (satByte (enumerateCounter body + 1)) 0 8]

/-- A clear position-agrees after an ENUMERATE sets the POSITION latch and in SERVICE and HELD adds the cause, R70. -/
def State.misplaced (s : State) : State :=
  let t := s.latch .position
  match s.node.state with
  | .service => t.arise .position
  | .held => t.arise .position
  | .unnumbered => t
  | .numbered => t
  | .standby => t
  | .failsafe => t
  | .maintenance => t

/-- The node takes a chain address, R70: in UNNUMBERED and NUMBERED the state becomes NUMBERED, in STANDBY it stays, in
the other states the address is kept. -/
def NodeRecord.takeAddress (n : NodeRecord) (c : Nat) : NodeRecord :=
  match n.state with
  | .unnumbered => { n with state := .numbered, address := BitVec.ofNat 8 c }
  | .numbered => { n with state := .numbered, address := BitVec.ofNat 8 c }
  | .standby => { n with address := BitVec.ofNat 8 c }
  | .service => n
  | .held => n
  | .failsafe => n
  | .maintenance => n

/-- The chain is full at the node, R70: in UNNUMBERED, NUMBERED and STANDBY it takes no address. -/
def NodeRecord.loseAddress (n : NodeRecord) : NodeRecord :=
  match n.state with
  | .unnumbered => { n with state := .unnumbered, address := 0 }
  | .numbered => { n with state := .unnumbered, address := 0 }
  | .standby => { n with state := .unnumbered, address := 0 }
  | .service => n
  | .held => n
  | .failsafe => n
  | .maintenance => n

/-- The counter names an address: 1-250; 0 counts as above 250, R70. -/
def counterInRange (c : Nat) : Bool := 1 ≤ c && c ≤ maxAddress

/-- What an ENUMERATE with counter `c` does to the node, R70. -/
def State.enumerated (s : State) (c : Nat) : State :=
  if s.store.site.valid then
    if counterInRange c then
      if c = s.store.site.fields.expected then
        s.setNode { s.node.takeAddress c with positionAgrees := true }
      else (s.setNode { s.node.takeAddress c with positionAgrees := false }).misplaced
    else (s.setNode { s.node.loseAddress with positionAgrees := false }).misplaced
  else if counterInRange c then s.setNode { s.node.takeAddress c with positionAgrees := false }
  else (s.setNode { s.node.loseAddress with positionAgrees := false }).latch .position

/-- The outbound pass of an ENUMERATE, R70: a node without a valid site record leaves the counter as it is. -/
def State.enumerate (s : State) (f : Frame) : State × Frame :=
  (s.enumerated (enumerateCounter f.body),
    if s.store.site.valid then { f with body := enumerateCount f.body } else f)

/-- ENUMERATE, R70. -/
def execEnumerate (x : Payload) (s : State) : Host.Outcome State Fault Refusal :=
  .next (s.receiveA (payloadFrame x kindEnumerate .a) State.enumerate unchanged)

/-! ### CLOSEALL, R72 -/

/-- A pass of a CLOSEALL. -/
def State.closeAll (s : State) (f : Frame) : State × Frame := (s.arise .closeAll, f)

/-- CLOSEALL, R72. -/
def execCloseall (p : Port) (x : Payload) (s : State) : Host.Outcome State Fault Refusal :=
  match p with
  | .a => .next (s.receiveA (payloadFrame x kindCloseall .a) State.closeAll State.closeAll)
  | .b => .next (s.receiveB (payloadFrame x kindCloseall .b) State.closeAll)

/-! ### Frames on which no block acts -/

/-- A frame of unknown kind on its receipt, R47; it counts as UNKNOWN also where its queue is full and it is dropped as OVERRUN
(DESIGN CHOICE, log 52, unsafe). -/
def unknownPass (p : Port) (s : State) (f : Frame) : State × Frame := (s.countUnknown p, f)

/-- UNKNOWN_FRAME, R47; a kind that is not unknown is another row's. -/
def execUnknownFrame (p : Port) (kind : BitVec 4) (x : Payload) (s : State) : Host.Outcome State Fault Refusal :=
  if kindUnknown kind then
    match p with
    | .a => .next (s.receiveA (payloadFrame x kind .a) (unknownPass .a) unchanged)
    | .b => .next (s.receiveB (payloadFrame x kind .b) (unknownPass .b))
  else .next s

/-- The command of a COMMAND frame concerns another node, R65. -/
def State.foreignCommand (s : State) (x : Payload) : Bool :=
  !s.concernedBy (BitVec.ofNat 8 (hiByte x.word1))

/-- A node's own COMMAND finds its REPLY word written, R65. -/
def State.takenCommand (s : State) (x : Payload) : Bool :=
  s.concernedBy (BitVec.ofNat 8 (hiByte x.word1)) && replyTaken (BitVec.ofNat 8 (hiByte x.word1)) x.body

/-- The outbound pass of a COMMAND forwarded unchanged: for another node, or by an address clash (R65). -/
def clashPass (x : Payload) (s : State) (f : Frame) : State × Frame :=
  (s.latchIf (s.takenCommand x) .position, f)

/-- FORWARD_UNCHANGED, R46: on port A a COMMAND for another node or with its REPLY word written, on port B a ROLLCALL,
COMMAND or ENUMERATE; other frames are other rows'. -/
def execForwardUnchanged (p : Port) (kind : BitVec 4) (x : Payload) (s : State) : Host.Outcome State Fault Refusal :=
  match p with
  | .a =>
    if kind = kindCommand && (s.foreignCommand x || s.takenCommand x) then
      .next (s.receiveA (payloadFrame x kind .a) (clashPass x) unchanged)
    else .next s
  | .b =>
    if kind = kindRollcall || kind = kindCommand || kind = kindEnumerate then
      .next (s.receiveB (payloadFrame x kind .b) unchanged)
    else .next s

/-- START_UP_FORWARD, R58, from any reset on; past start-up every frame is another row's (log 1). -/
def execStartUpForward (p : Port) (kind : BitVec 4) (x : Payload) (s : State) : Host.Outcome State Fault Refusal :=
  if (payloadFrame x kind p).fits then
    match s.phase with
    | .held => .next ((s.received p).forwardInStartUp p (payloadFrame x kind p))
    | .settling => .next ((s.received p).forwardInStartUp p (payloadFrame x kind p))
    | .relighting _ _ => .next ((s.received p).forwardInStartUp p (payloadFrame x kind p))
    | .running => .next s
  else .next s

/-- FRAME_CHECK_FAILED, R45: the words received fail a check on a port that receives frames; a frame of more than 127
words ends at its 128th (R44). -/
def execFrameCheckFailed (p : Port) (ws : List Word) (s : State) : Host.Outcome State Fault Refusal :=
  if s.deaf p || maxFrameWords < ws.length then .next s
  else
    match frameError p ws with
    | none => .next s
    | some e => .next ((s.setLine (s.line.rxTo p .idle)).countError p e)

/-- UNDEFINED_COMMAND, R67: a CODE that is not a defined command, or a command not accepted in the node state. A defined
command that the state accepts is another row's. -/
def execUndefinedCommand (code : BitVec 8) (x : CommandPayload) (s : State) : Host.Outcome State Fault Refusal :=
  match Cmd.ofCode code with
  | none => .next (s.receiveA (commandFrame code x) (fun t f => t.judgeSilent x.target f) unchanged)
  | some c =>
    if c.row.states.has s.node.state then .next s
    else .next (s.receiveA (commandFrame code x) (fun t f => t.judgeSilent x.target f) unchanged)

end Sys2Proof.Machine
end

