-- ==== Sys2Proof/Machine/LineEvents.lean ====
section
/-! DEFINITION. The events of the line: the receiver's table with framing errors and the end of a DISCARDING run (R44),
the end of a frame's sending (R50, R59), and the link states (R43) with the line role (R51-R55). -/

namespace Sys2Proof.Machine

/-! ### The receiver, R44 -/

/-- What a receiver makes of a symbol: nothing that counts, a FRAMING error, or a reception ended with its words. -/
inductive RxReport where
  | quiet
  | framing
  | ended (ws : List Word)
  deriving DecidableEq, Repr

/-- The table of R44. The word count is the length of the buffer, which holds the words since the frame-start mark. The
table holds also where R55 made the receiver DISCARDING: idle fill and a frame-start mark end it too, while R55 names the
frame-end mark alone (DESIGN CHOICE, log 50, unsafe). -/
def Receiver.take (r : Receiver) : Symbol → Receiver × RxReport
  | .frameStart => (⟨.receiving, []⟩, if r.state = .receiving then .framing else .quiet)
  | .word w =>
    match r.state with
    | .idle => (⟨.discarding, []⟩, .framing)
    | .receiving =>
      if r.buffer.length < maxFrameWords then (⟨.receiving, r.buffer ++ [w]⟩, .quiet) else (⟨.discarding, []⟩, .framing)
    | .discarding => (r, .quiet)
  | .frameEnd =>
    match r.state with
    | .idle => (r, .quiet)
    | .receiving => (⟨.idle, []⟩, .ended r.buffer)
    | .discarding => (⟨.idle, []⟩, .quiet)
  | .idleFill =>
    match r.state with
    | .idle => (r, .quiet)
    | .receiving => (⟨.idle, []⟩, .framing)
    | .discarding => (⟨.idle, []⟩, .quiet)
  | .codeViolation =>
    match r.state with
    | .idle => (r, .quiet)
    | .receiving => (⟨.discarding, []⟩, .framing)
    | .discarding => (r, .quiet)

/-- A port's receiver takes a symbol, and a FRAMING error is counted, R44, R45; none where the symbol ends a reception,
since the frame then comes as its own row (log 9). -/
def State.takeSymbol (s : State) (p : Port) (x : Symbol) : Option State :=
  let t := s.setLine (s.line.setRx p ((s.line.rx p).take x).1)
  match ((s.line.rx p).take x).2 with
  | .quiet => some t
  | .framing => some (t.countFraming p)
  | .ended _ => none

/-- A port's receiver takes a run of symbols in order. -/
def State.takeSymbols (s : State) (p : Port) : List Symbol → Option State
  | [] => some s
  | x :: xs =>
    match s.takeSymbol p x with
    | none => none
    | some t => t.takeSymbols p xs

/-- What a run of symbols leaves on a port, R44: port B in END role receives none (R55), and a run in which a reception
ends is left aside (log 1, log 9). -/
def State.listen (s : State) (p : Port) (xs : List Symbol) : State :=
  if s.deaf p then s else (s.takeSymbols p xs).getD s

/-- A frame is arriving on a port that receives none, at the end of a run of symbols, R55. -/
def frameArriving (xs : List Symbol) : Bool :=
  (xs.foldl (fun r x => (Receiver.take r x).1) (⟨.idle, []⟩ : Receiver)).state != .idle

/-- FRAMING_ERROR, R44: the symbols in which the error is found. -/
def execFramingError (p : Port) (symbols : List Symbol) (s : State) : Host.Outcome State Fault Refusal :=
  .next (s.listen p symbols)

/-- DISCARDING_END, R44: a frame-end mark or idle fill takes a DISCARDING receiver to IDLE; on another receiver these
symbols are other rows' (log 1). -/
def execDiscardingEnd (p : Port) (s : State) : Host.Outcome State Fault Refusal :=
  if (s.line.rx p).state = .discarding then .next (s.setLine (s.line.rxTo p .idle)) else .next s

/-! ### Sending, and the links -/

/-- FRAME_SENT, R50: the oldest frame leaves the queue; a commanded reset that waited for it takes effect (R59, R79). -/
def execFrameSent (p : Port) (s : State) : Host.Outcome State Fault Refusal :=
  match s.line.queue p with
  | [] => .next s
  | f :: rest =>
    let t := s.setLine (s.line.setQueue p rest)
    if f.carriesReset then .next t.commandedReset else .next t

/-- A port goes DOWN: a frame in reception is a FRAMING error and the receiver becomes IDLE, R44; port B in END role
receives no frames (R55). -/
def State.portLost (s : State) (p : Port) (symbols : List Symbol) : State :=
  let t := s.listen p symbols
  let u := t.setLine (t.line.setLink p .down)
  if (t.line.rx p).state = .receiving && !t.deaf p then (u.setLine (u.line.rxTo p .idle)).countFraming p else u

/-- PORT_DOWN, R43, from any reset on (R59): in THROUGH past start-up the loss of port B wraps the node, R51, R53. -/
def execPortDown (p : Port) (symbols : List Symbol) (s : State) : Host.Outcome State Fault Refusal :=
  if s.line.link p = .down then .next s
  else
    match p with
    | .a => .next (s.portLost .a symbols)
    | .b =>
      if s.phase = .running && s.line.role = .through then .next (s.portLost .b symbols).wrap
      else .next (s.portLost .b symbols)

/-- A port comes UP, R43. -/
def State.portBack (s : State) (p : Port) (symbols : List Symbol) : State :=
  let t := s.listen p symbols
  t.setLine (t.line.setLink p .up)

/-- PORT_UP, R43: in END (wrapped) past start-up the return of port B unwraps the node, R51, R54. -/
def execPortUp (p : Port) (symbols : List Symbol) (s : State) : Host.Outcome State Fault Refusal :=
  if s.line.link p = .up then .next s
  else
    match p with
    | .a => .next (s.portBack .a symbols)
    | .b =>
      if s.phase = .running && s.line.role = .endWrapped then
        .next ((s.portBack .b symbols).through (frameArriving symbols))
      else .next (s.portBack .b symbols)

end Sys2Proof.Machine
end

