-- ==== Sys2Proof/Machine/Plan.lean ====
section
/-! DEFINITION. LOAD_BEGIN (R124), LOAD_BLOCK (R122, R125, R126), LOAD_END (R127, R190) and SWAP (R129, R130). -/

namespace Sys2Proof.Machine

/-- The exchange of the two banks with their check values, R130, R190: STAGING is VALID unless the former ACTIVE was
empty. -/
def PlanBlock.exchange (b : PlanBlock) : PlanBlock :=
  { b with active := b.staging, staging := b.active, stagingValid := !b.active.entries.isEmpty }

/-! ### LOAD_BEGIN, R124 -/

/-- LOAD_BEGIN executed. -/
def loadBegin (s : State) (args : List Word) : State × Reply :=
  let n := (argWord args 0).toNat
  if 1 ≤ n && n ≤ bankLimit then
    (s.setPlan { s.plan with staging := .empty, stagingValid := false, session := ⟨.opened, some n, 0⟩ }, .done [])
  else (s, .refused .argument [])

/-- LOAD_BEGIN. -/
def execLoadBegin (x : CommandPayload) (s : State) : Host.Outcome State Fault Refusal :=
  .next (s.command .loadBegin x loadBegin)

/-! ### LOAD_BLOCK, R122, R125, R126 -/

/-- An aspect passes the lane type, fitted and carriageway checks of R122 on a face. -/
def State.aspectOk (s : State) (f : Face) (a : Aspect) : Bool :=
  (a == .closed || s.laneType.allows f) && s.canShow f a

/-- The entry of an arriving word, if it passes the checks of R122. -/
def State.entryOf (s : State) (w : Word) : Option PlanEntry :=
  let x := RawPlanEntry.ofWord w
  match x.e, x.w with
  | some a, some b =>
    if 1 ≤ x.plan && x.plan ≤ maxAddress && a != .dark && b != .dark && !(a.permissive && b.permissive) &&
        s.aspectOk .e a && s.aspectOk .w b then
      some ⟨x.plan, a, b⟩
    else none
  | some _, none => none
  | none, _ => none

/-- What the checks of a block give: every entry, or the first failing check with the entry's index. -/
inductive BlockOutcome where
  | taken (entries : List PlanEntry)
  | failed (why : Reject) (index : Nat)
  deriving DecidableEq, Repr

/-- A first entry that passed stands before the entries after it. -/
def BlockOutcome.after (x : PlanEntry) : BlockOutcome → BlockOutcome
  | .taken es => .taken (x :: es)
  | .failed why i => .failed why i

/-- The checks of R126 on one entry word at an index, after a previous plan number. -/
def State.checkEntry (s : State) (expected received index : Nat) (prev : Option Nat) (w : Word) :
    Except Reject PlanEntry :=
  if expected < received + index then .error .count
  else
    match s.entryOf w, prev with
    | none, _ => .error .entry
    | some x, none => .ok x
    | some x, some p => if x.plan = p then .error .duplicate else if x.plan < p then .error .order else .ok x

/-- The checks of R126 from the first entry to the last, stopping at the first that fails. -/
def State.checkBlock (s : State) (expected received : Nat) : Nat → Option Nat → List Word → BlockOutcome
  | _, _, [] => .taken []
  | index, prev, w :: ws =>
    match s.checkEntry expected received index prev w with
    | .error why => .failed why index
    | .ok x => (s.checkBlock expected received (index + 1) (some x.plan) ws).after x

/-- The plan number of the last entry of a bank. -/
def Bank.lastPlan (b : Bank) : Option Nat := b.entries.getLast?.map PlanEntry.plan

/-- LOAD_BLOCK executed, R125. -/
def loadBlock (s : State) (args : List Word) : State × Reply :=
  let n := (argWord args 0).toNat
  let x := s.plan.session
  if n < 1 || 8 < n then (s, .refused .argument [])
  else if x.state ≠ .opened then (s, .refused .spoiled [])
  else
    match s.checkBlock (x.expected.getD 0) x.received 1 s.plan.staging.lastPlan ((args.drop 1).take n) with
    | .failed why i =>
      (s.setPlan { s.plan with session := { x with state := .spoiled } }, .refused why [twoBytes i (x.received + i)])
    | .taken es =>
      (s.setPlan { s.plan with
          staging := .ofEntries (s.plan.staging.entries ++ es)
          session := { x with received := x.received + n } },
        .done [fld (x.received + n) 0 16])

/-- LOAD_BLOCK. -/
def execLoadBlock (x : CommandPayload) (s : State) : Host.Outcome State Fault Refusal :=
  .next (s.command .loadBlock x loadBlock)

/-! ### LOAD_END, R127, R190 -/

/-- The block after a LOAD_END that is DONE: STAGING is VALID, and into an empty ACTIVE it goes at once. -/
def PlanBlock.finishLoad (b : PlanBlock) : PlanBlock :=
  let t := { b with stagingValid := true, session := { b.session with state := .none, expected := none } }
  if b.active.entries.isEmpty then t.exchange else t

/-- LOAD_END executed, R127. -/
def loadEnd (s : State) (args : List Word) : State × Reply :=
  let x := s.plan.session
  if x.state ≠ .opened then (s, .refused .spoiled [])
  else if x.received < x.expected.getD 0 then
    (s.setPlan { s.plan with session := { x with state := .spoiled } }, .refused .count [fld x.received 0 16])
  else if s.plan.staging.check ≠ argWord args 0 then
    (s.setPlan { s.plan with session := { x with state := .spoiled } }, .refused .check [s.plan.staging.check])
  else (s.setPlan s.plan.finishLoad, .done [s.plan.staging.check])

/-- LOAD_END. -/
def execLoadEnd (x : CommandPayload) (s : State) : Host.Outcome State Fault Refusal :=
  .next (s.command .loadEnd x loadEnd)

/-! ### SWAP, R129, R130 -/

/-- SWAP executed, R129. -/
def swap (s : State) (_ : List Word) : State × Reply :=
  if !s.plan.stagingValid then (s, .refused .spoiled [])
  else if s.store.writer ≠ .idle then (s, .busy)
  else (s.setPlan s.plan.exchange, .done [])

/-- SWAP. -/
def execSwap (x : CommandPayload) (s : State) : Host.Outcome State Fault Refusal :=
  .next (s.command .swap x swap)

end Sys2Proof.Machine
end

