-- ==== Sys2Proof/Machine/Possession.lean ====
section
/-! DEFINITION. The possession commands POSS_FROM, POSS_TO, POSS_EXCEPT (R137, R138), POSS_APPLY (R139, R143) and POSS_LIFT
(R145). -/

namespace Sys2Proof.Machine

/-- A gantry number, R136. -/
def gantryOk (g : Nat) : Bool := 1 ≤ g && g ≤ maxGantry

/-- A lock id, R141. -/
def lockIdOk (i : Nat) : Bool := 1 ≤ i && i ≤ 15

/-- A sequence error, R138: the SEQUENCE latch, the record to NONE, the step refused. -/
def State.sequenceError (s : State) : State × Reply :=
  ((s.setPoss { s.poss with seq := .cleared }).latch .sequence, .refused .sequence [])

/-- The sequence record becomes another. -/
def State.setSeq (s : State) (x : SeqRecord) : State := s.setPoss { s.poss with seq := x }

/-! ### POSS_FROM -/

/-- POSS_FROM executed, R137, R138. -/
def possFrom (s : State) (args : List Word) : State × Reply :=
  let g := hiByte (argWord args 0)
  let mask := (argWord args 0).setWidth 8
  match LockFaces.ofCode (argWord args 1).toNat with
  | none => (s, .refused .argument [])
  | some fs =>
    if !gantryOk g || mask = 0 then (s, .refused .argument [])
    else if s.poss.seq.state = .none then (s.setSeq ⟨.fromSet, some g, some mask, some fs, none, []⟩, .done [])
    else s.sequenceError

/-- POSS_FROM. -/
def execPossFrom (x : CommandPayload) (s : State) : Host.Outcome State Fault Refusal :=
  .next (s.command .possFrom x possFrom)

/-! ### POSS_TO -/

/-- POSS_TO executed, R137, R138. -/
def possTo (s : State) (args : List Word) : State × Reply :=
  let g := (argWord args 0).toNat
  if !gantryOk g then (s, .refused .argument [])
  else if s.poss.seq.state = .fromSet && s.poss.seq.fromGantry.any (fun a => a ≤ g) then
    (s.setSeq { s.poss.seq with state := .rangeSet, toGantry := some g }, .done [])
  else s.sequenceError

/-- POSS_TO. -/
def execPossTo (x : CommandPayload) (s : State) : Host.Outcome State Fault Refusal :=
  .next (s.command .possTo x possTo)

/-! ### POSS_EXCEPT -/

/-- POSS_EXCEPT executed, R137, R138. -/
def possExcept (s : State) (args : List Word) : State × Reply :=
  let g := (argWord args 0).toNat
  if !gantryOk g then (s, .refused .argument [])
  else if s.poss.seq.state ≠ .rangeSet then s.sequenceError
  else if s.poss.seq.exceptList.contains g then (s, .done [])
  else if s.poss.seq.exceptList.length < exceptLimit then
    (s.setSeq { s.poss.seq with exceptList := s.poss.seq.exceptList ++ [g] }, .done [])
  else s.sequenceError

/-- POSS_EXCEPT. -/
def execPossExcept (x : CommandPayload) (s : State) : Host.Outcome State Fault Refusal :=
  .next (s.command .possExcept x possExcept)

/-! ### POSS_APPLY -/

/-- The node is concerned by the apply step, R139. -/
def State.possConcerned (s : State) : Bool :=
  s.store.site.valid && s.poss.seq.fromGantry.any (fun a => a ≤ s.gantry) &&
    s.poss.seq.toGantry.any (fun b => s.gantry ≤ b) && !s.poss.seq.exceptList.contains s.gantry &&
    s.poss.seq.laneMask.any fun m => m.getLsbD (s.lane - 1)

/-- What a lock does at once to a face it newly covers, R143. -/
def State.coverFace (s : State) (f : Face) : State :=
  match s.node.state with
  | .service => s.takeTarget f ⟨.closed, .possession⟩ .notNow
  | .held => s.takeTarget f ⟨.closed, .possession⟩ .notNow
  | .unnumbered => s.setFace f { s.face f with target := ⟨.closed, .possession⟩ }
  | .numbered => s.setFace f { s.face f with target := ⟨.closed, .possession⟩ }
  | .standby => s.setFace f { s.face f with target := ⟨.closed, .possession⟩ }
  | .failsafe => s.setFace f { s.face f with target := ⟨.closed, .possession⟩ }
  | .maintenance => s.setFace f { s.face f with target := ⟨.closed, .possession⟩ }

/-- A face newly covered by the last change of the lock table. -/
def State.coverNew (s : State) (f : Face) (before : Bool) : State :=
  if s.covered f && !before then s.coverFace f else s

/-- A lock is appended, R139, R143, R146; the leaving test follows the changed face records (R75). -/
def State.applyLock (s : State) (id : Nat) (fs : LockFaces) : State :=
  let t := s.setPoss { seq := .cleared, locks := s.poss.locks ++ [⟨id, fs, false, false⟩], dirty := true }
  (((t.coverNew .e (s.covered .e)).coverNew .w (s.covered .w)).nodeTests).lockWriteBegin

/-- A lock with an id is in the table. -/
def PossBlock.holds (b : PossBlock) (id : Nat) : Bool := b.locks.any fun l => l.id == id

/-- POSS_APPLY executed, R137-R139. -/
def possApply (s : State) (args : List Word) : State × Reply :=
  let id := (argWord args 0).toNat
  if !lockIdOk id then (s, .refused .argument [])
  else if s.poss.seq.state ≠ .rangeSet then s.sequenceError
  else if !s.possConcerned then (s.setSeq .cleared, .notConcerned)
  else if s.poss.holds id then (s.setSeq .cleared, .refused .lockId [])
  else if lockLimit ≤ s.poss.locks.length then (s.setSeq .cleared, .refused .lockFull [])
  else (s.applyLock id (s.poss.seq.faces.getD .both), .done [])

/-- POSS_APPLY. -/
def execPossApply (x : CommandPayload) (s : State) : Host.Outcome State Fault Refusal :=
  .next (s.command .possApply x possApply)

/-! ### POSS_LIFT, R145 -/

/-- A lock leaves the table, R145, R146; the face records are not touched (R144). -/
def State.liftLock (s : State) (id : Nat) : State :=
  (s.setPoss { s.poss with locks := s.poss.locks.filter (fun l => l.id != id), dirty := true }).lockWriteBegin

/-- POSS_LIFT executed for a frame sent in a form: a broadcast does not concern a node without the lock. -/
def possLift (target : BitVec 8) (s : State) (args : List Word) : State × Reply :=
  let id := (argWord args 0).toNat
  if !lockIdOk id then (s, .refused .argument [])
  else if s.poss.holds id then (s.liftLock id, .done [])
  else if target = 0 then (s, .notConcerned)
  else (s, .refused .lockId [])

/-- POSS_LIFT. -/
def execPossLift (x : CommandPayload) (s : State) : Host.Outcome State Fault Refusal :=
  .next (s.command .possLift x (possLift x.target))

end Sys2Proof.Machine
end

