-- ==== Sys2Proof/Machine/Reads.lean ====
section
/-! DEFINITION. The eight READ_ commands (R7, R40, R134, R148, R170, R171, R177, R180) with the layouts of their result
words (R193). None of them changes anything but the line and the reply. -/

namespace Sys2Proof.Machine

/-! ### READ_IDENTITY, R177 -/

/-- The six result words. The build bits are those of the record, also where its check failed (DESIGN CHOICE, log 47,
unsafe). -/
def State.identityWords (s : State) : List Word :=
  let i := s.store.identity
  [i.vendor, i.part, fld i.revision.toNat 0 8, fld (i.serial.toNat / 2 ^ 16) 0 16, fld i.serial.toNat 0 16,
    flag s.store.identityOk 15 ||| flag i.build.eDiagL 3 ||| flag i.build.eDiagR 2 ||| flag i.build.wDiagL 1 |||
      flag i.build.wDiagR 0]

/-- READ_IDENTITY reads the record, R177. -/
def readIdentity (s : State) (_ : List Word) : State × Reply := (s, .done s.identityWords)

/-- READ_IDENTITY. -/
def execReadIdentity (x : CommandPayload) (s : State) : Host.Outcome State Fault Refusal :=
  .next (s.command .readIdentity x readIdentity)

/-! ### READ_SITE, R180 -/

/-- The ten result words. -/
def State.siteWords (s : State) : List Word :=
  let w := s.store.site
  let x := w.fields
  [twoBytes x.gantry x.lane, fld x.width 8 8 ||| flag x.endFlag 1 ||| flag w.valid 0, fld x.expected 0 8,
    fld x.lane1.toNat 14 2 ||| fld x.lane2.toNat 12 2 ||| fld x.lane3.toNat 10 2 ||| fld w.laneType.code 8 2 |||
      fld w.vote.code 0 2,
    twoBytes (x.tHold / 100) (x.tClose / 1000), fld x.stall 0 8, x.masks.setWidth 16, x.echo,
    fld s.store.siteImage.state.code 14 2 ||| fld s.store.faceImage.state.code 12 2 |||
      fld s.store.planImage.state.code 10 2 ||| fld s.store.lockImage.state.code 8 2,
    fld s.store.writer.code 14 2 ||| flag s.store.trimsInUse 0]

/-- READ_SITE reads the working site record, the image states and the writer, R180. -/
def readSite (s : State) (_ : List Word) : State × Reply := (s, .done s.siteWords)

/-- READ_SITE. -/
def execReadSite (x : CommandPayload) (s : State) : Host.Outcome State Fault Refusal :=
  .next (s.command .readSite x readSite)

/-! ### READ_STATUS, R170 -/

/-- The result word of one channel's fault detail. -/
def FaultDetail.word (d : FaultDetail) : Word := fld d.kinds.toNat 12 4 ||| fld d.first.code 9 3 ||| fld d.count 0 8

/-- The five detail words of a face, in channel order. -/
def FaceDetails.words (d : FaceDetails) : List Word :=
  [d.lamp.word, d.mask.word, d.arrow.word, d.diagL.word, d.diagR.word]

/-- A link state's bit: 1 UP, 0 DOWN. -/
def Link.isUp : Link → Bool
  | .up => true
  | .down => false

/-- The side bit of a merge-lost latch, 0 where it is clear. -/
def sideFlag (d : Option Side) : Nat := (d.map Side.code).getD 0

/-- The seventeen result words. -/
def State.statusWords (s : State) : List Word :=
  let n := s.node
  [fld n.state.code 13 3 ||| flag n.leaving 12 ||| flag n.ending 11 ||| flag n.positionAgrees 10 |||
      fld n.resetCause.code 8 2,
    fld n.address.toNat 8 8 ||| fld s.line.role.code 0 2,
    flag s.line.linkA.isUp 15 ||| flag s.line.linkB.isUp 14 ||| fld s.sup.loop.code 12 2 |||
      fld s.sup.supply.code 10 2 ||| fld s.sup.timer.code 8 2,
    fld (firstCauseCode n.firstCause) 8 3 ||| n.causes.code,
    s.fault.latches.setWidth 16, s.fault.masks.setWidth 16,
    flag s.alarm 15 ||| fld s.faces.e.latch.code 13 2 ||| fld s.faces.w.latch.code 11 2 |||
      flag s.faces.e.mergeLost.isSome 10 ||| fld (sideFlag s.faces.e.mergeLost) 9 1 |||
      flag s.faces.w.mergeLost.isSome 8 ||| fld (sideFlag s.faces.w.mergeLost) 7 1] ++
    s.fault.e.words ++ s.fault.w.words

/-- READ_STATUS reads the node record, monitors, latches, masks and details, R170. -/
def readStatus (s : State) (_ : List Word) : State × Reply := (s, .done s.statusWords)

/-- READ_STATUS. -/
def execReadStatus (x : CommandPayload) (s : State) : Host.Outcome State Fault Refusal :=
  .next (s.command .readStatus x readStatus)

/-! ### READ_FACE, R7 -/

/-- The change-in-progress word. -/
def changeWord : Option Change → Word
  | none => 0
  | some c => flag true 15 ||| fld c.src.code 12 3 ||| fld c.dst.code 9 3 ||| fld c.phase.code 7 2

/-- The pending-target word. -/
def pendingWord : Option PendingTarget → Word
  | none => 0
  | some p => flag true 15 ||| fld p.aspect.code 12 3 ||| fld p.cause.code 9 3 ||| fld p.reason.code 5 4

/-- The five result words. -/
def FaceRecord.words (r : FaceRecord) : List Word :=
  [fld r.shown.code 13 3 ||| fld r.state.code 11 2 ||| fld r.env.floor 9 2 ||| fld r.env.ceiling 7 2 |||
      fld r.latch.code 5 2 ||| flag r.mergeLost.isSome 4 ||| fld (sideFlag r.mergeLost) 3 1,
    changeWord r.change, fld r.target.aspect.code 13 3 ||| fld r.target.cause.code 10 3, pendingWord r.pending,
    fld ((r.pending.map PendingTarget.age).getD 0) 0 16]

/-- READ_FACE reads the face record in the five words of R7 and R193; a face code other than E and W fails its check
(R194). R25 says that it returns the parameters of an unfitted shutter too, for which R193 has no word: they are returned
by READ_CHANNEL (DESIGN CHOICE, log 41, unsafe). -/
def readFace (s : State) (args : List Word) : State × Reply :=
  match faceOfCode (argWord args 0).toNat with
  | some f => (s, .done (s.face f).words)
  | none => (s, .refused .argument [])

/-- READ_FACE. -/
def execReadFace (x : CommandPayload) (s : State) : Host.Outcome State Fault Refusal :=
  .next (s.command .readFace x readFace)

/-! ### READ_CHANNEL, R40 -/

/-- The five result words of a channel whose sensed current is `raw` at this instant. -/
def State.channelWords (s : State) (raw : Nat) : Channel → List Word
  | .lamp f =>
    [fld (s.lamp f).state.code 13 3 ||| fld (s.lamp f).lastFault.code 10 3 ||| flag true 9 |||
        flag s.store.trimsInUse 7,
      fld (s.measureLamp f raw) 0 16] ++ lampParamWords (s.config f)
  | .shutter f k =>
    [fld (s.shutter f k).state.code 13 3 ||| fld (s.shutter f k).lastFault.code 10 3 ||| flag (s.fitted f k) 9 |||
        flag (s.shutter f k).movedSeen 8 ||| flag s.store.trimsInUse 7,
      fld (s.measureShutter f k raw) 0 16] ++ ((s.config f).params k).words

/-- READ_CHANNEL takes a snapshot of the channel and changes nothing in its record, R40 (log 28). -/
def readChannel (raw : Nat) (s : State) (args : List Word) : State × Reply :=
  match Channel.ofNumber (argWord args 0).toNat with
  | some c => (s, .done (s.channelWords raw c))
  | none => (s, .refused .argument [])

/-- READ_CHANNEL. -/
def execReadChannel (x : CommandPayload) (raw : Nat) (s : State) : Host.Outcome State Fault Refusal :=
  .next (s.command .readChannel x (readChannel raw))

/-! ### READ_PLAN, R134 -/

/-- The eight entry words from an index on; 0 past the bank's last entry. -/
def Bank.window (b : Bank) (first : Nat) : List Word :=
  (List.range 8).map fun i => ((b.entries.map PlanEntry.word)).getD (first - 1 + i) 0

/-- The eleven result words. -/
def State.planWords (s : State) (b : Bank) (validBit : Bool) (first : Nat) : List Word :=
  let x := s.plan.session
  [fld b.entries.length 8 8 ||| flag validBit 0, b.check,
    fld x.state.code 14 2 ||| fld (x.expected.getD 0) 8 6 ||| fld x.received 0 6] ++ b.window first

/-- READ_PLAN reads a bank, R134. -/
def readPlan (s : State) (args : List Word) : State × Reply :=
  let first := (argWord args 1).toNat
  if first < 1 || bankLimit < first then (s, .refused .argument [])
  else if argWord args 0 = 0 then (s, .done (s.planWords s.plan.active false first))
  else if argWord args 0 = 1 then (s, .done (s.planWords s.plan.staging s.plan.stagingValid first))
  else (s, .refused .argument [])

/-- READ_PLAN. -/
def execReadPlan (x : CommandPayload) (s : State) : Host.Outcome State Fault Refusal :=
  .next (s.command .readPlan x readPlan)

/-! ### READ_LOCKS, R148 -/

/-- The word of two except gantries, 0 past the list's end. -/
def exceptWord (l : List Nat) (i : Nat) : Word := twoBytes (l.getD (2 * i) 0) (l.getD (2 * i + 1) 0)

/-- The word of the lock at a place, 0 past the last lock. -/
def lockWord (l : List Lock) (i : Nat) : Word :=
  match l[i]? with
  | none => 0
  | some x => fld x.id 8 8 ||| fld x.faces.code 6 2 ||| flag x.durable 0

/-- A lock-table write is in progress. -/
def Writer.lockWrite : Writer → Bool
  | .idle => false
  | .storing _ _ => false
  | .erasing _ => false
  | .lockWriting _ => true

/-- The eleven result words. -/
def State.lockWords (s : State) : List Word :=
  let p := s.poss
  let x := p.seq
  [fld p.locks.length 13 3 ||| flag p.dirty 12 ||| flag s.store.writer.lockWrite 11 ||| fld x.state.code 0 2,
    twoBytes (x.fromGantry.getD 0) (x.toGantry.getD 0),
    fld ((x.laneMask.map BitVec.toNat).getD 0) 8 8 ||| fld ((x.faces.map LockFaces.code).getD 0) 6 2 |||
      fld x.exceptList.length 0 4,
    exceptWord x.exceptList 0, exceptWord x.exceptList 1, exceptWord x.exceptList 2, exceptWord x.exceptList 3,
    lockWord p.locks 0, lockWord p.locks 1, lockWord p.locks 2, lockWord p.locks 3]

/-- READ_LOCKS reads the sequence record and the lock table, R148. -/
def readLocks (s : State) (_ : List Word) : State × Reply := (s, .done s.lockWords)

/-- READ_LOCKS. -/
def execReadLocks (x : CommandPayload) (s : State) : Host.Outcome State Fault Refusal :=
  .next (s.command .readLocks x readLocks)

/-! ### READ_COUNTERS, R171 -/

/-- The six counters of a port in order. -/
def LineCounters.words (c : LineCounters) : List Word :=
  [c.good, c.framing, c.crc, c.direction, c.overrun, c.unknown]

/-- READ_COUNTERS reads the twelve line counters and the superseded counter, R171. -/
def readCounters (s : State) (_ : List Word) : State × Reply :=
  (s, .done (s.line.countA.words ++ s.line.countB.words ++ [s.fault.superseded]))

/-- READ_COUNTERS. -/
def execReadCounters (x : CommandPayload) (s : State) : Host.Outcome State Fault Refusal :=
  .next (s.command .readCounters x readCounters)

end Sys2Proof.Machine
end

