-- ==== Sys2Proof/Machine/StateCmds.lean ====
section
/-! DEFINITION. The state commands COMMISSION (R73), ENTER_SERVICE (R74), LEAVE_SERVICE (R75), RELEASE (R78, R160),
MAINTAIN (R76), END_MAINTAIN (R77), RESET (R79), and the maintenance commands FACE_SET (R21, R76) and ELEMENT_TEST
(R39, R76). -/

namespace Sys2Proof.Machine

/-! ### COMMISSION, R73 -/

/-- The first failing check of R73, in its order. -/
def State.commissionRefusal (s : State) : Option Reject :=
  if !s.store.site.valid then some .position
  else if s.laneType = .none then some .vote
  else if s.plan.active.entries.isEmpty then some .noTable
  else if !s.node.positionAgrees then some .position
  else if !s.node.causes.isEmpty then some .stateCause
  else none

/-- COMMISSION executed. -/
def commission (s : State) (_ : List Word) : State × Reply :=
  match s.commissionRefusal with
  | some why => (s, .refused why [])
  | none => (s.enterStandby, .done [])

/-- COMMISSION. -/
def execCommission (x : CommandPayload) (s : State) : Host.Outcome State Fault Refusal :=
  .next (s.command .commission x commission)

/-! ### ENTER_SERVICE, R74 -/

/-- The node enters SERVICE and T_HOLD starts, R74, R154. -/
def State.enterService (s : State) : State :=
  (s.setNode { s.node with state := .service, leaving := false }).setSup { s.sup with timer := .holdStage s.tHold }

/-- ENTER_SERVICE executed. -/
def enterService (s : State) (_ : List Word) : State × Reply :=
  if !s.node.positionAgrees then (s, .refused .position [])
  else if s.plan.active.entries.isEmpty then (s, .refused .noTable [])
  else (s.enterService, .done [])

/-- ENTER_SERVICE. -/
def execEnterService (x : CommandPayload) (s : State) : Host.Outcome State Fault Refusal :=
  .next (s.command .enterService x enterService)

/-! ### LEAVE_SERVICE, R75 -/

/-- LEAVE_SERVICE executed: the flag is set, and in SERVICE the leaving condition is tested. -/
def leaveService (s : State) (_ : List Word) : State × Reply :=
  ((s.setNode { s.node with leaving := true }).nodeTests, .done [])

/-- LEAVE_SERVICE. -/
def execLeaveService (x : CommandPayload) (s : State) : Host.Outcome State Fault Refusal :=
  .next (s.command .leaveService x leaveService)

/-! ### RELEASE, R78, R160 -/

/-- The sweep recency brought up to date by the milliseconds it falls short, R153. -/
def SupBlock.aged (x : SupBlock) (ms : Nat) : SupBlock := { x with recency := x.recency.map fun a => a + ms }

/-- The sweep condition of R160: the recency is not none and at most T_HOLD. -/
def State.recentSweep (s : State) : Bool :=
  match s.sup.recency with
  | none => false
  | some a => a ≤ s.tHold

/-- The four conditions of R160. -/
def State.releasable (s : State) : Bool :=
  s.sup.loop == .restored && s.sup.supply == .normal && s.node.positionAgrees && s.recentSweep

/-- The cause set is emptied, R160. -/
def NodeRecord.noCauses (n : NodeRecord) : NodeRecord := { n with causes := .empty, firstCause := none }

/-- RELEASE executed. -/
def release (elapsed : Nat) (s : State) (_ : List Word) : State × Reply :=
  let t := s.setSup (s.sup.aged elapsed)
  if t.releasable then
    (if t.node.state = .failsafe then (t.setNode t.node.noCauses).enterStandby else t.setNode t.node.noCauses,
      .done [])
  else (t, .refused .stateCause [])

/-- RELEASE. -/
def execRelease (x : CommandPayload) (elapsed : Nat) (s : State) : Host.Outcome State Fault Refusal :=
  .next (s.command .release x (release elapsed))

/-! ### MAINTAIN, END_MAINTAIN, R76, R77 -/

/-- MAINTAIN executed. -/
def maintain (s : State) (_ : List Word) : State × Reply :=
  (s.setNode { s.node with state := .maintenance }, .done [])

/-- MAINTAIN. -/
def execMaintain (x : CommandPayload) (s : State) : Host.Outcome State Fault Refusal :=
  .next (s.command .maintain x maintain)

/-- The close END_MAINTAIN starts on one face, R21, R39, R77: a CHANGING face completes first, a RETURNING face ends its
return. The current target becomes CLOSED with cause MAINT at the command, in these two cases before a change to CLOSED
starts (DESIGN CHOICE, log 40, unsafe). -/
def State.endFace (s : State) (f : Face) : State :=
  if (s.face f).steadyClosed then s
  else
    let t := s.setFace f { s.face f with target := ⟨.closed, .maint⟩ }
    if (s.face f).state = .steady then t.askClose f else t

/-- END_MAINTAIN executed: a second one while the flag is set starts nothing new. -/
def endMaintain (s : State) (_ : List Word) : State × Reply :=
  if s.node.ending then (s, .done [])
  else ((((s.setNode { s.node with ending := true }).endFace .e).endFace .w).nodeTests, .done [])

/-- END_MAINTAIN. -/
def execEndMaintain (x : CommandPayload) (s : State) : Host.Outcome State Fault Refusal :=
  .next (s.command .endMaintain x endMaintain)

/-! ### RESET, R79 -/

/-- RESET executed: DONE; the frame is marked by the judgement, and the reset takes effect when it has been sent, dropped
or discarded. -/
def resetCommand (s : State) (_ : List Word) : State × Reply := (s, .done [])

/-- RESET. -/
def execReset (x : CommandPayload) (s : State) : Host.Outcome State Fault Refusal :=
  .next (s.command .reset x resetCommand)

/-! ### FACE_SET, R21 -/

/-- The face controller's answer to FACE_SET, R21, first row that applies; none where the change starts. -/
def State.faceSetAnswer (s : State) (f : Face) (a : Aspect) : Option Reply :=
  let r := s.face f
  if r.state ≠ .steady then some (.refused .busy [])
  else if r.shown = a then some (.done [])
  else if r.shown = .dark && a.permissive then some (.refused .argument [])
  else if a.symbol.any fun k => !s.fitted f k then some (.refused .argument [])
  else if a.permissive && s.covered f then some (.refused .locked [])
  else if a.permissive && r.shown = .closed && !(s.face (otherFace f)).steadyClosed then some (.refused .pair [])
  else none

/-- FACE_SET to an aspect of a face. -/
def State.faceSet (s : State) (f : Face) (a : Aspect) : State × Reply :=
  match s.faceSetAnswer f a with
  | some r => (s, r)
  | none => ((s.setFace f { s.face f with target := ⟨a, .maint⟩ }).beginChange f a, .done [])

/-- FACE_SET executed: the checks of R76, then R21. R76 gives ARGUMENT and BUSY without an order; ARGUMENT comes first
(DESIGN CHOICE, log 42, unsafe). -/
def faceSetCommand (s : State) (args : List Word) : State × Reply :=
  match faceOfCode (hiByte (argWord args 0)), Aspect.ofCode (loByte (argWord args 0)) with
  | some f, some a =>
    if s.node.ending then (s, .refused .busy []) else ((s.faceSet f a).1.nodeTests, (s.faceSet f a).2)
  | some _, none => (s, .refused .argument [])
  | none, _ => (s, .refused .argument [])

/-- FACE_SET. -/
def execFaceSet (x : CommandPayload) (s : State) : Host.Outcome State Fault Refusal :=
  .next (s.command .faceSet x faceSetCommand)

/-! ### ELEMENT_TEST, R39 -/

/-- ELEMENT_TEST actions, R194. -/
inductive TestAction where
  | pull
  | release
  deriving DecidableEq, Repr

/-- The action of a code. -/
def TestAction.ofCode : Nat → Option TestAction
  | 1 => some .pull
  | 2 => some .release
  | _ => none

/-- The face of a channel. -/
def Channel.face : Channel → Face
  | .lamp f => f
  | .shutter f _ => f

/-- A channel is fitted, R23. -/
def State.channelFitted (s : State) : Channel → Bool
  | .lamp _ => true
  | .shutter f k => s.fitted f k

/-- STEADY on CLOSED or DARK, the condition of R39's PAIR row. -/
def FaceRecord.steadyAside (r : FaceRecord) : Bool := r.steadyClosed || r.steadyDark

/-- A pull request of a test: a BLOCKED channel repeats its fault (R34, R37), a LIT lamp reports LIT (R35); no change is
in progress on the face. -/
def State.testPull (s : State) : Channel → State × Answer
  | .lamp f =>
    match (s.lamp f).state with
    | .blocked => ((s.reportLamp f (s.lamp f).lastFault).lampFault f, .refused)
    | .off => (s.setLamp f ((s.lamp f).ramp (s.config f).rampTime).2, ((s.lamp f).ramp (s.config f).rampTime).1)
    | .ramping => (s, .noEffect)
    | .lit => (s, .noEffect)
  | .shutter f k => (s.requestPull f k, s.pullAnswer f k)

/-- A release request of a test. -/
def State.testRelease (s : State) : Channel → State × Answer
  | .lamp f => (s.lampOff f, (s.lamp f).turnOff.1)
  | .shutter f k => (s.releaseShutter f k, ((s.shutter f k).release ((s.config f).params k)).1)

/-- The reply to a request's answer, R39. -/
def Answer.reply : Answer → Reply
  | .taken => .done []
  | .noEffect => .done []
  | .refused => .refused .busy []

/-- ELEMENT_TEST on a channel, R39: the first row that applies. -/
def State.elementTest (s : State) (c : Channel) (a : TestAction) : State × Reply :=
  if !s.channelFitted c then (s, .refused .argument [])
  else if !(s.face c.face).steadyDark then (s, .refused .faceActive [])
  else
    match a with
    | .pull =>
      if !(s.face (otherFace c.face)).steadyAside then (s, .refused .pair [])
      else (((s.testPull c).1.channelTests c.face), (s.testPull c).2.reply)
    | .release => ((s.testRelease c).1.channelTests c.face, (s.testRelease c).2.reply)

/-- ELEMENT_TEST executed: the checks of R76, then R39. R76 gives ARGUMENT and BUSY without an order; ARGUMENT for the
action comes first (DESIGN CHOICE, log 42, unsafe). -/
def elementTestCommand (s : State) (args : List Word) : State × Reply :=
  match TestAction.ofCode (loByte (argWord args 0)) with
  | none => (s, .refused .argument [])
  | some a =>
    if s.node.ending then (s, .refused .busy [])
    else
      match Channel.ofNumber (hiByte (argWord args 0)) with
      | none => (s, .refused .argument [])
      | some c => s.elementTest c a

/-- ELEMENT_TEST. -/
def execElementTest (x : CommandPayload) (s : State) : Host.Outcome State Fault Refusal :=
  .next (s.command .elementTest x elementTestCommand)

end Sys2Proof.Machine
end

