-- ==== Sys2Proof/Machine/Writes.lean ====
section
/-! DEFINITION. WRITE_SITE (R179), WRITE_FACE (R26), SET_MASKS (R167), CLEAR_FAULTS (R20, R34, R37, R168, R169), STORE
(R183) and ERASE_STORE (R184). -/

namespace Sys2Proof.Machine

/-! ### WRITE_SITE, R179 -/

/-- The site record of WRITE_SITE's nine words, with the lane type given once (R193); none when the lane type code, the
masks or a field has a value no record holds. Bits 7-1 of word 3, which no field names, are ignored (DESIGN CHOICE,
log 46, unsafe). -/
def siteOfWords (args : List Word) : Option SiteRecord :=
  let w := argWord args
  if 1 ≤ (w 4).toNat && (w 4).toNat ≤ 3 && (w 8).toNat < 2 ^ 12 then
    some
      { echo := w 0, gantry := hiByte (w 1), lane := loByte (w 1), width := hiByte (w 2), expected := (w 3).toNat
        endFlag := bit (w 2) 0, lane1 := (w 4).setWidth 2, lane2 := (w 4).setWidth 2, lane3 := (w 4).setWidth 2
        tHold := (w 5).toNat, tClose := (w 6).toNat, stall := (w 7).toNat, masks := (w 8).setWidth 12 }
  else none

/-- The lane type a record carries once, R179. -/
def SiteRecord.givenType (x : SiteRecord) : LaneType := (LaneType.ofCode x.lane1).getD .none

/-- A changed gantry, lane or gantry width makes the kept entries absent, R101. -/
def State.movePlace (s : State) (old new : SiteRecord) : State :=
  if old.gantry = new.gantry && old.lane = new.lane && old.width = new.width then s
  else s.setSweep { s.sweep with downE := none, downW := none, lower := ⟨none, none⟩, upper := ⟨none, none⟩ }

/-- position-agrees from a new expected address, R71. -/
def NodeRecord.agree (n : NodeRecord) (expected : Nat) : NodeRecord :=
  { n with positionAgrees := n.state != .unnumbered && n.address.toNat == expected }

/-- The role after a WRITE_SITE, R51. -/
def State.writeRole (s : State) (endFlag arriving : Bool) : State :=
  match s.line.role, endFlag with
  | .through, true => s.endConfigure
  | .endWrapped, true => s.endConfigure
  | .endConfigured, true => s
  | .through, false => s
  | .endWrapped, false => s
  | .endConfigured, false => if s.line.linkB = .up then s.through arriving else s.wrap

/-- An accepted WRITE_SITE takes effect, R179. -/
def State.takeSite (s : State) (x : SiteRecord) (arriving : Bool) : State :=
  ((((s.setStore { s.store with site := ⟨true, x, x.givenType, .allEqual⟩ }).setNode
    (s.node.agree x.expected)).movePlace s.store.site.fields x).setMasks x.masks).writeRole x.endFlag arriving

/-- WRITE_SITE judged and executed, R179. -/
def writeSite (arriving : Bool) (s : State) (args : List Word) : State × Reply :=
  if !s.store.echoOk (argWord args 0) then (s, .refused .mismatch [])
  else
    match siteOfWords args with
    | none => (s, .refused .argument [])
    | some x => if x.inRange then (s.takeSite x arriving, .done []) else (s, .refused .argument [])

/-- WRITE_SITE. -/
def execWriteSite (x : CommandPayload) (arriving : Bool) (s : State) : Host.Outcome State Fault Refusal :=
  .next (s.command .writeSite x (writeSite arriving))

/-! ### WRITE_FACE, R26 -/

/-- The face configuration of WRITE_FACE's words 2-15, R193; none for a warning aspect code that is no aspect. Bits 12-2
of word 2, which no field names, are ignored (DESIGN CHOICE, log 46, unsafe). -/
def configOfWords (args : List Word) : Option FaceConfig :=
  let w := argWord args
  match Aspect.ofCode (bits (w 1) 13 3) with
  | none => none
  | some a =>
    some
      { diagLFitted := bit (w 1) 1, diagRFitted := bit (w 1) 0, warning := a
        mask := .ofWords (w 2) (w 3) (w 4), arrow := .ofWords (w 5) (w 6) (w 7)
        diagL := .ofWords (w 8) (w 9) (w 10), diagR := .ofWords (w 11) (w 12) (w 13)
        lampCurrent := bits (w 14) 9 7, rampTime := bits (w 14) 0 9 }

/-- Checks 2 and 3 of R26 on one shutter. -/
def ShutterParams.consistent (p : ShutterParams) : Bool := p.hold ≤ p.hit && p.dipDebounce < p.hitTime

/-- The face build supports DIAG-L or DIAG-R on a face; a record that failed its check supports none, R177. -/
def StorageBlock.supports (b : StorageBlock) : Face → Shutter → Bool
  | .e, .diagL => b.identityOk && b.identity.build.eDiagL
  | .e, .diagR => b.identityOk && b.identity.build.eDiagR
  | .w, .diagL => b.identityOk && b.identity.build.wDiagL
  | .w, .diagR => b.identityOk && b.identity.build.wDiagR
  | _, .mask => true
  | _, .arrow => true

/-- Check 5 of R26: a diagonal warning aspect has its shutter marked fitted. -/
def FaceConfig.warningFitted (c : FaceConfig) : Bool :=
  match c.warning.symbol with
  | none => true
  | some k => c.fitted k

/-- The argument checks of R26. -/
def State.configOk (s : State) (f : Face) (c : FaceConfig) : Bool :=
  c.inRange && c.mask.consistent && c.arrow.consistent && c.diagL.consistent && c.diagR.consistent &&
    (!c.diagLFitted || s.store.supports f .diagL) && (!c.diagRFitted || s.store.supports f .diagR) && c.warningFitted

/-- The face is quiet enough to be written, R26. -/
def State.writable (s : State) (f : Face) : Bool :=
  (s.face f).steadyClosed && s.allOff f && (s.face f).pending.isNone && s.node.state != .failsafe

/-- The configuration is replaced; a LIT lamp moves to a changed lamp current, R26, R36 (log 22). -/
def State.takeConfig (s : State) (f : Face) (c : FaceConfig) : State :=
  let old := (s.config f).lampCurrent
  let t := s.setConfig f c
  if (s.lamp f).state = .lit && old ≠ c.lampCurrent then t.setLamp f { s.lamp f with moveFrom := some old } else t

/-- WRITE_FACE judged and executed, R26. -/
def writeFace (s : State) (args : List Word) : State × Reply :=
  match faceOfCode (argWord args 0).toNat, configOfWords args with
  | some f, some c =>
    if !s.configOk f c then (s, .refused .argument [])
    else if !s.writable f then (s, .refused .faceActive [])
    else (s.takeConfig f c, .done [])
  | some _, none => (s, .refused .argument [])
  | none, _ => (s, .refused .argument [])

/-- WRITE_FACE. -/
def execWriteFace (x : CommandPayload) (s : State) : Host.Outcome State Fault Refusal :=
  .next (s.command .writeFace x writeFace)

/-! ### SET_MASKS, R167 -/

/-- A class set within the twelve classes, R167, R168. -/
def classSet (w : Word) : Option (BitVec 12) := if w.toNat < 2 ^ 12 then some (w.setWidth 12) else none

/-- The mask field of a valid site record follows SET_MASKS, R167. -/
def WorkingSite.withMasks (x : WorkingSite) (m : BitVec 12) : WorkingSite :=
  if x.valid then { x with fields := { x.fields with masks := m } } else x

/-- SET_MASKS executed, R167. -/
def setMasks (s : State) (args : List Word) : State × Reply :=
  match classSet (argWord args 0) with
  | none => (s, .refused .argument [])
  | some m => ((s.setMasks m).setStore { s.store with site := s.store.site.withMasks m }, .done [])

/-- SET_MASKS. -/
def execSetMasks (x : CommandPayload) (s : State) : Host.Outcome State Fault Refusal :=
  .next (s.command .setMasks x setMasks)

/-! ### CLEAR_FAULTS, R20, R168, R169 -/

/-- The class of a face latch. -/
def FaceLatch.named (l : FaceLatch) (set : BitVec 12) : Bool :=
  match l with
  | .none => false
  | .element => hasClass set .element
  | .lamp => hasClass set .lamp

/-- The latch becomes NONE. -/
def FaceRecord.unlatch (r : FaceRecord) : FaceRecord := { r with latch := .none }

/-- A face whose latch is cleared, R20. In MAINTENANCE a face with an active shutter awaits the relight only where
END_MAINTAIN has asked for it (log 20). -/
def State.clearFace (s : State) (f : Face) : State :=
  if (s.face f).steadyDark then
    if s.anyBlocked f then (s.lampOff f).setFace f { s.face f with latch := .element }
    else if (s.lamp f).state = .blocked then s.setFace f { s.face f with latch := .lamp }
    else if s.allOff f then (s.setFace f (s.face f).unlatch).relight f
    else
      s.setFace f { (s.face f).unlatch with
        relightAwaited := (s.face f).relightAwaited || s.node.state != .maintenance || s.node.ending }
  else s.setFace f (s.face f).unlatch

/-- Step 1 of R168. -/
def State.clearChannels (s : State) (set : BitVec 12) (x : Sensed) : State :=
  let t := if hasClass set .element then (s.clearShutters .e x.e).clearShutters .w x.w else s
  if hasClass set .lamp then (t.clearLamp .e x.e).clearLamp .w x.w else t

/-- Step 2 of R168 for one face. -/
def State.clearNamedFace (s : State) (f : Face) (set : BitVec 12) : State :=
  if (s.face f).latch.named set then s.clearFace f else s

/-- The detail of a shutter after the clear: set again where the channel stays BLOCKED, R169. -/
def shutterDetailAfter (c : ShutterChannel) : FaultDetail :=
  if c.state = .blocked then .again c.lastFault else .clear

/-- The detail of a lamp after the clear, R169. -/
def lampDetailAfter (c : LampChannel) : FaultDetail := if c.state = .blocked then .again c.lastFault else .clear

/-- A face's details after the clear, R168 step 3, R169. -/
def detailsAfter (d : FaceDetails) (c : FaceChannels) (set : BitVec 12) : FaceDetails :=
  { lamp := if hasClass set .lamp then lampDetailAfter c.lamp else d.lamp
    mask := if hasClass set .element then shutterDetailAfter c.mask else d.mask
    arrow := if hasClass set .element then shutterDetailAfter c.arrow else d.arrow
    diagL := if hasClass set .element then shutterDetailAfter c.diagL else d.diagL
    diagR := if hasClass set .element then shutterDetailAfter c.diagR else d.diagR }

/-- Step 3 of R168, with the details that R169 sets again. -/
def State.clearLatches (s : State) (set : BitVec 12) : State :=
  s.setFault { s.fault with
    latches := s.fault.latches &&& ~~~set
    e := detailsAfter s.fault.e s.elem.e set
    w := detailsAfter s.fault.w s.elem.w set }

/-- A face held a latch before the clear and is not now STEADY CLOSED, R169. -/
def notBack (before : FaceLatch) (l : FaceLatch) (now : FaceRecord) : Bool := before == l && !now.steadyClosed

/-- The condition of each condition class, R169; `be`, `bw` are the face latches before the clear. -/
def State.condition (s : State) (be bw : FaceLatch) : FaultClass → Bool
  | .element =>
    s.anyBlocked .e || s.anyBlocked .w || notBack be .element s.faces.e || notBack bw .element s.faces.w
  | .lamp =>
    (s.lamp .e).state == .blocked || (s.lamp .w).state == .blocked || notBack be .lamp s.faces.e ||
      notBack bw .lamp s.faces.w
  | .stall => s.stalled .e || s.stalled .w
  | .merge => s.faces.e.mergeLost.isSome || s.faces.w.mergeLost.isSome
  | .supply => s.sup.supply == .low
  | .wrap => s.line.role == .endWrapped
  | .line => false
  | .illegal => false
  | .position => false
  | .sequence => false
  | .plan => false
  | .store => false

/-- Step 4 of R168 for one class. -/
def State.relatch (s : State) (set : BitVec 12) (be bw : FaceLatch) (c : FaultClass) : State :=
  s.latchIf (hasClass set c && s.condition be bw c) c

/-- Step 4 of R168. -/
def State.relatchAll (s : State) (set : BitVec 12) (be bw : FaceLatch) : State :=
  ([.element, .lamp, .stall, .merge, .supply, .wrap] : List FaultClass).foldl (fun t c => t.relatch set be bw c) s

/-- CLEAR_FAULTS on a class set, R168; the node's tests follow the changed face records (R75, R77), after step 4, so the
merge-lost latches that an entry to STANDBY clears still count in step 4 (DESIGN CHOICE, log 45, unsafe). -/
def State.clearFaults (s : State) (set : BitVec 12) (x : Sensed) : State :=
  (((((s.clearChannels set x).clearNamedFace .e set).clearNamedFace .w set).clearLatches set).relatchAll set
    s.faces.e.latch s.faces.w.latch).nodeTests

/-- CLEAR_FAULTS executed, R168. -/
def clearFaults (x : Sensed) (s : State) (args : List Word) : State × Reply :=
  match classSet (argWord args 0) with
  | none => (s, .refused .argument [])
  | some set => if set = 0 then (s, .done []) else (s.clearFaults set x, .done [])

/-- CLEAR_FAULTS. -/
def execClearFaults (x : CommandPayload) (sense : Sensed) (s : State) : Host.Outcome State Fault Refusal :=
  .next (s.command .clearFaults x (clearFaults sense))

/-! ### STORE, ERASE_STORE, R182-R184 -/

/-- The copy a STORE takes, R183. -/
def State.storeCopy (s : State) : StoreCopy :=
  { site := if s.store.site.valid then some s.store.site.fields else none
    cfg := ⟨s.elem.cfgE, s.elem.cfgW⟩
    active := s.plan.active.entries }

/-- A STORE begins on the idle writer: the site image first, or the face-configuration image when the working site record
is not valid, R183. -/
def State.storeBegin (s : State) : State :=
  if s.store.site.valid then
    s.setStore { s.store with writer := .storing s.storeCopy .site, siteImage := s.store.siteImage.begin }
  else s.storeFaces s.storeCopy

/-- STORE executed, R182. -/
def store (s : State) (_ : List Word) : State × Reply :=
  if s.store.writer = .idle then (s.storeBegin, .done []) else (s, .busy)

/-- STORE. -/
def execStore (x : CommandPayload) (s : State) : Host.Outcome State Fault Refusal :=
  .next (s.command .store x store)

/-- ERASE_STORE executed, R182, R184. -/
def eraseStore (s : State) (_ : List Word) : State × Reply :=
  if s.store.writer = .idle then
    (s.setStore { s.store with writer := .erasing .site, siteImage := .erased }, .done [])
  else (s, .busy)

/-- ERASE_STORE. -/
def execEraseStore (x : CommandPayload) (s : State) : Host.Outcome State Fault Refusal :=
  .next (s.command .eraseStore x eraseStore)

end Sys2Proof.Machine
end

