-- ==== Sys2Proof/Machine/StorageEvents.lean ====
section
/-! DEFINITION. The events of the storage block: START_UP_SETTLE_END with the checks, loads and vote (R24, R177, R181,
R186-R189), STORE_IMAGE_DONE (R183), ERASE_IMAGE_DONE (R184) and LOCK_WRITE_DONE (R146). -/

namespace Sys2Proof.Machine

/-! ### Image tests, R181 -/

/-- The content of an image that is valid by R181 for a content test. -/
def Image.sound {α : Type} (x : Image α) (test : α → Bool) : Option α :=
  match x.content with
  | none => none
  | some c => if x.mark && x.checkOk && test c then some c else none

/-- Strictly ascending. -/
def ascending : List Nat → Bool
  | [] => true
  | [_] => true
  | a :: b :: l => decide (a < b) && ascending (b :: l)

/-- The content test of a plan image, R181. -/
def planTest (es : List PlanEntry) : Bool :=
  es.length ≤ bankLimit && ascending (es.map PlanEntry.plan) &&
    (es.map PlanEntry.plan).all fun p => 1 ≤ p && p ≤ maxAddress

/-- No two of a list are equal. -/
def distinct : List Nat → Bool
  | [] => true
  | a :: l => !l.contains a && distinct l

/-- The content test of a lock-table image, R181. -/
def lockTest (ls : List StoredLock) : Bool :=
  ls.length ≤ lockLimit && distinct (ls.map StoredLock.id) && (ls.map StoredLock.id).all fun i => 1 ≤ i && i ≤ 15

/-- The content test of a face-configuration image, R181. -/
def configTest (c : StoredConfigs) : Bool := c.e.inRange && c.w.inRange

/-- The content test of a site image, R181. -/
def StorageBlock.siteTest (b : StorageBlock) (x : SiteRecord) : Bool := b.echoOk x.echo && x.inRange

/-! ### The loads, R186, R187 -/

/-- The identity record is checked, R177. -/
def State.loadIdentity (s : State) : State :=
  (s.setStore { s.store with identityOk := s.store.identity.checkOk }).latchIf (!s.store.identity.checkOk) .store

/-- The calibration record is checked, R24. -/
def State.loadCalibration (s : State) : State :=
  (s.setStore { s.store with trimsInUse := s.store.calibration.checkOk }).latchIf (!s.store.calibration.checkOk)
    .store

/-- What the vote gives: the working lane type, the code all three copies take (none: as loaded), the outcome. -/
structure VoteResult where
  laneType : LaneType
  code     : Option (BitVec 2)
  outcome  : VoteOutcome
  deriving DecidableEq, Repr

/-- The lane-type vote on three stored copies, R188. -/
def laneVote (a b c : BitVec 2) : VoteResult :=
  if a = b && b = c && a ≠ 0 then ⟨(LaneType.ofCode a).getD .none, none, .allEqual⟩
  else if a = b && a ≠ 0 then ⟨(LaneType.ofCode a).getD .none, some a, .majority⟩
  else if a = c && a ≠ 0 then ⟨(LaneType.ofCode a).getD .none, some a, .majority⟩
  else if b = c && b ≠ 0 then ⟨(LaneType.ofCode b).getD .none, some b, .majority⟩
  else ⟨.none, none, .failed⟩

/-- The record with the copies the vote leaves, R188. -/
def SiteRecord.voted (x : SiteRecord) (v : VoteResult) : SiteRecord :=
  match v.code with
  | none => x
  | some c => { x with lane1 := c, lane2 := c, lane3 := c }

/-- A valid site image is loaded and its lane type voted on, R187, R188; its masks come into force, R166. -/
def State.loadSite (s : State) : State :=
  match s.store.siteImage.sound s.store.siteTest with
  | none =>
    (s.setStore { s.store with
      site := .notValid, siteImage := { s.store.siteImage with state := .invalid } }).latch .store
  | some x =>
    let v := laneVote x.lane1 x.lane2 x.lane3
    (((s.setStore { s.store with
      site := ⟨true, x.voted v, v.laneType, v.outcome⟩
      siteImage := { s.store.siteImage with state := .valid } }).setMasks x.masks).latchIf (v.outcome ≠ .allEqual)
        .store)

/-- A stored face configuration with the fitted flags the face build does not support cleared, R187. -/
def StorageBlock.supported (b : StorageBlock) (f : Face) (c : FaceConfig) : FaceConfig :=
  { c with
    diagLFitted := c.diagLFitted && b.supports f .diagL, diagRFitted := c.diagRFitted && b.supports f .diagR }

/-- The face-configuration image is loaded, R187; an invalid one leaves the defaults of R41. -/
def State.loadConfigs (s : State) : State :=
  match s.store.faceImage.sound configTest with
  | none =>
    ((s.setElem { s.elem with cfgE := .default, cfgW := .default }).setStore { s.store with
      faceImage := { s.store.faceImage with state := .invalid } }).latch .store
  | some c =>
    ((s.setElem { s.elem with cfgE := s.store.supported .e c.e, cfgW := s.store.supported .w c.w }).setStore
      { s.store with faceImage := { s.store.faceImage with state := .valid } }).latchIf
        (s.store.supported .e c.e ≠ c.e || s.store.supported .w c.w ≠ c.w) .store

/-- The plan image is loaded into ACTIVE, R135, R187. -/
def State.loadPlan (s : State) : State :=
  match s.store.planImage.sound planTest with
  | none =>
    ((s.setPlan { s.plan with active := .empty }).setStore { s.store with
      planImage := { s.store.planImage with state := .invalid } }).latch .store
  | some es =>
    (s.setPlan { s.plan with active := .ofEntries es }).setStore { s.store with
      planImage := { s.store.planImage with state := .valid } }

/-- A stored lock as start-up loads it: durable, R149. -/
def StoredLock.load (l : StoredLock) : Lock := ⟨l.id, l.faces, true, false⟩

/-- The lock-table image is loaded, R149, R187. -/
def State.loadLocks (s : State) : State :=
  match s.store.lockImage.sound lockTest with
  | none =>
    ((s.setPoss { s.poss with locks := [] }).setStore { s.store with
      lockImage := { s.store.lockImage with state := .invalid } }).latch .store
  | some ls =>
    (s.setPoss { s.poss with locks := ls.map StoredLock.load }).setStore { s.store with
      lockImage := { s.store.lockImage with state := .valid } }

/-- The checks and loads in the order of R186. -/
def State.loadAll (s : State) : State :=
  (((((s.loadIdentity).loadCalibration).loadSite).loadConfigs).loadPlan).loadLocks

/-- START_UP_SETTLE_END, R186, R189: the records are loaded and both faces start the relight of R14. -/
def execStartUpSettleEnd (s : State) : Host.Outcome State Fault Refusal :=
  if s.phase = .settling then
    .next (((s.loadAll.setPhase (.relighting false false)).relight .e).relight .w)
  else .next s

/-! ### The writer -/

/-- The site image of a STORE is complete and the face-configuration image follows, R183. -/
def State.siteStored (s : State) (c : StoreCopy) : State :=
  match c.site with
  | none => s.storeFaces c
  | some x => (s.setStore { s.store with siteImage := .complete x }).storeFaces c

/-- STORE_IMAGE_DONE, R183. -/
def execStoreImageDone (s : State) : Host.Outcome State Fault Refusal :=
  match s.store.writer with
  | .storing c .site => .next (s.siteStored c)
  | .storing c .faceConfig =>
    .next (s.setStore { s.store with
      writer := .storing c .plan, faceImage := .complete c.cfg, planImage := s.store.planImage.begin })
  | .storing c .plan => .next (s.setStore { s.store with planImage := .complete c.active }).writerIdle
  | .idle => .next s
  | .erasing _ => .next s
  | .lockWriting _ => .next s

/-- ERASE_IMAGE_DONE, R184: the site image, then the plan image. -/
def execEraseImageDone (s : State) : Host.Outcome State Fault Refusal :=
  match s.store.writer with
  | .erasing .site => .next (s.setStore { s.store with writer := .erasing .plan, planImage := .erased })
  | .erasing .plan => .next s.writerIdle
  | .idle => .next s
  | .storing _ _ => .next s
  | .lockWriting _ => .next s

/-- A lock that stood in the completed copy and has stayed in the table becomes durable, R146. -/
def Lock.written (l : Lock) : Lock := { l with durable := l.durable || l.inCopy, inCopy := false }

/-- LOCK_WRITE_DONE, R146. -/
def execLockWriteDone (s : State) : Host.Outcome State Fault Refusal :=
  match s.store.writer with
  | .lockWriting copy =>
    .next ((s.setPoss { s.poss with locks := s.poss.locks.map Lock.written }).setStore
      { s.store with lockImage := .complete copy }).writerIdle
  | .idle => .next s
  | .storing _ _ => .next s
  | .erasing _ => .next s

end Sys2Proof.Machine
end

