-- ==== Sys2Proof/Machine/SupervisionEvents.lean ====
section
/-! DEFINITION. The events of supervision and power: T_HOLD_EXPIRY and T_CLOSE_EXPIRY (R154), LOOP_OPEN and LOOP_RESTORED
(R157), SUPPLY_LOW and SUPPLY_NORMAL (R158), SUPPLY_DIP_RESET, POWER_ON and RESET_END (R159). An event that the state and
the pin's level do not produce leaves the state (log 1). -/

namespace Sys2Proof.Machine

/-- The part runs: it is not held in reset. -/
def State.runs (s : State) : Bool := s.phase != .held

/-- The sweep recency after an interval in which no valid pass came, R153 (log 3). -/
def SupBlock.later (x : SupBlock) (ms : Nat) : SupBlock := { x with recency := x.recency.map fun a => a + ms }

/-- T_HOLD_EXPIRY, R154: the node enters HELD and T_CLOSE starts. -/
def execTHoldExpiry (s : State) : Host.Outcome State Fault Refusal :=
  match s.sup.timer with
  | .holdStage interval =>
    if s.node.state = .service then
      .next ((s.setNode { s.node with state := .held }).setSup
        { s.sup.later interval with timer := .closeStage s.tClose })
    else .next s
  | .stopped => .next s
  | .closeStage _ => .next s

/-- T_CLOSE_EXPIRY, R154: the cause SILENCE arises. -/
def execTCloseExpiry (s : State) : Host.Outcome State Fault Refusal :=
  match s.sup.timer with
  | .closeStage interval =>
    if s.node.state = .held then .next ((s.setSup (s.sup.later interval)).arise .silence) else .next s
  | .stopped => .next s
  | .holdStage _ => .next s

/-- LOOP_OPEN, R157: the monitor enters OPEN and the cause LOOP arises. -/
def execLoopOpen (microamps : Nat) (s : State) : Host.Outcome State Fault Refusal :=
  if s.runs && microamps < loopPresent && s.sup.loop ≠ .opened then
    .next ((s.setSup { s.sup with loop := .opened }).arise .loop)
  else .next s

/-- LOOP_RESTORED, R157. -/
def execLoopRestored (microamps : Nat) (s : State) : Host.Outcome State Fault Refusal :=
  if s.runs && loopPresent ≤ microamps then .next (s.setSup { s.sup with loop := .restored }) else .next s

/-- SUPPLY_LOW, R158: the monitor enters LOW, the SUPPLY latch is set and the cause SUPPLY arises. -/
def execSupplyLow (millivolts : Nat) (s : State) : Host.Outcome State Fault Refusal :=
  if s.runs && millivolts < supplyLowThreshold && s.sup.supply ≠ .low then
    .next (((s.setSup { s.sup with supply := .low }).latch .supply).arise .supply)
  else .next s

/-- The monitor enters NORMAL on a supply that has stood this long at this level, R158. -/
def supplyReturns (x : SupplyState) (millivolts ms : Nat) : Bool :=
  match x with
  | .evaluating => supplyLowThreshold ≤ millivolts && supplyLowTime ≤ ms
  | .low => supplyReturnThreshold ≤ millivolts && supplyReturnTime ≤ ms
  | .normal => false

/-- SUPPLY_NORMAL, R158. -/
def execSupplyNormal (millivolts ms : Nat) (s : State) : Host.Outcome State Fault Refusal :=
  if s.runs && supplyReturns s.sup.supply millivolts ms then .next (s.setSup { s.sup with supply := .normal })
  else .next s

/-- The cause a supply-dip reset records, R159: POWER-ON when the supply fell below 8.0 V. -/
def dipCause (millivolts : Nat) : ResetCause := if millivolts < logicThreshold then .powerOn else .supplyDip

/-- SUPPLY_DIP_RESET, R159: the part is held in reset. A part already held that falls below 8.0 V records POWER-ON
(log 29). -/
def execSupplyDipReset (millivolts : Nat) (s : State) : Host.Outcome State Fault Refusal :=
  if millivolts < dipThreshold then
    if s.runs then .next (s.doReset (dipCause millivolts) .held)
    else if millivolts < logicThreshold then .next (s.setNode { s.node with resetCause := .powerOn })
    else .next s
  else .next s

/-- POWER_ON, R159: the part is held in reset with reset cause POWER-ON. -/
def execPowerOn (s : State) : Host.Outcome State Fault Refusal := .next (s.doReset .powerOn .held)

/-- RESET_END, R159: start-up begins. -/
def execResetEnd (millivolts : Nat) (s : State) : Host.Outcome State Fault Refusal :=
  if !s.runs && resetEndThreshold ≤ millivolts then .next (s.setPhase .settling) else .next s

end Sys2Proof.Machine
end

