-- ==== Sys2Proof/Machine/Sweep.lean ====
section
/-! DEFINITION. The sweep processor (R81-R102): the content check, the roll and the order rules, the kept entries, the
sweep record, the decisions it hands to the face controller (R103), the node's own entry, the summary, and the seeding of
a turnaround. Meaning of SWEEP. -/

namespace Sys2Proof.Machine

/-! ### Content, R83 -/

/-- The body of a pass that is not malformed; none for a malformed one. -/
def sweepContent (f : Frame) : Option SweepBody :=
  match SweepBody.ofWords f.body with
  | none => none
  | some b => if b.plan ≤ maxAddress && gantryFieldOk b.curGantry && gantryFieldOk b.prevGantry then some b else none

/-! ### The roll, R86, R87 -/

/-- What the comparison of the cur gantry gives, R86. -/
inductive RollOutcome where
  | roll
  | stay
  | orderFault
  deriving DecidableEq, Repr

/-- A vector word holds a present entry: its present bit is set, R82, R86, whether or not its codes are in range (DEDUCED,
log 11, unsafe). So a malformed entry at the node's own lane is an order fault, and the node does not write over it. -/
def presentWord (w : Word) : Bool := bit w 14

/-- An entry is present at a lane or above it. -/
def presentFrom (v : List Word) (lane : Nat) : Bool := (v.drop (lane - 1)).any presentWord

/-- An entry is present at a lane or below it. -/
def presentTo (v : List Word) (lane : Nat) : Bool := (v.take lane).any presentWord

/-- R86's tables for a node of gantry `g`, lane `k`. -/
def rollOutcome (p : Pass) (g k : Nat) (b : SweepBody) : RollOutcome :=
  match p with
  | .out =>
    if b.curGantry < g then .roll
    else if b.curGantry = g then (if presentFrom b.cur k then .orderFault else .stay)
    else .orderFault
  | .ret =>
    if g < b.curGantry then .roll
    else if b.curGantry = g then (if presentTo b.cur k then .orderFault else .stay)
    else .orderFault

/-- The roll, R86. -/
def SweepBody.roll (b : SweepBody) (g : Nat) : SweepBody :=
  { b with prev := b.cur, prevGantry := b.curGantry, cur := absentVector, curGantry := g }

/-! ### Adjacency and the kept entries, R88-R90 -/

/-- prev belongs to the neighbouring gantry, R88. -/
def adjacent (p : Pass) (g : Nat) (b : SweepBody) : Bool :=
  match p with
  | .out => b.prevGantry + 1 == g
  | .ret => b.prevGantry == g + 1 || b.prevGantry == eastEnd

/-- The prev entry at the node's lane as the node reads it, R82, R88. -/
def prevEntry (p : Pass) (g k : Nat) (b : SweepBody) : Option LaneEntry :=
  if adjacent p g b then readEntry (laneWord b.prev k) else none

/-- The face whose lower pass a pass is, R89. -/
def lowerFace : Pass → Face
  | .out => .w
  | .ret => .e

/-- The last downstream entry of a face is replaced, R89. -/
def SweepBlock.setDown (x : SweepBlock) (f : Face) (h : Option Half) : SweepBlock :=
  match f with
  | .e => { x with downE := h }
  | .w => { x with downW := h }

/-- The merge entry a pass reads is replaced: the lower one on an outbound pass, the upper one on a return, R90. -/
def SweepBlock.setMerge (x : SweepBlock) (p : Pass) (m : MergeEntry) : SweepBlock :=
  match p with
  | .out => { x with lower := m }
  | .ret => { x with upper := m }

/-- The merge entry a pass reads from cur, R90: always absent for lane 1 on the outbound pass and for the highest lane of
the gantry width on the return pass (log 21). -/
def mergeRead (p : Pass) (k width : Nat) (b : SweepBody) : Option LaneEntry :=
  match p with
  | .out => if k = 1 then none else readEntry (laneWord b.cur (k - 1))
  | .ret => if k = width then none else readEntry (laneWord b.cur (k + 1))

/-- The kept entries after a valid pass, R89, R90. -/
def SweepBlock.keep (x : SweepBlock) (p : Pass) (g k width : Nat) (b : SweepBody) : SweepBlock :=
  (x.setDown (lowerFace p) ((prevEntry p g k b).map fun y => y.half (lowerFace p))).setMerge p
    ⟨mergeRead p k width b, some b.seq⟩

/-- The kept entries after a pass with an order fault, R87. -/
def SweepBlock.drop (x : SweepBlock) (p : Pass) (seq : BitVec 16) : SweepBlock :=
  (x.setDown (lowerFace p) none).setMerge p ⟨none, some seq⟩

/-! ### The sweep record, R91-R93 -/

/-- A pass with sequence `q` is in step, R91, R92. -/
def SweepBlock.inStep (x : SweepBlock) (p : Pass) (q : BitVec 16) : Bool :=
  match p with
  | .out => x.expected == .out && (x.seq == none || x.seq == some (q - 1))
  | .ret => x.expected == .ret && x.seq == some q

/-- The record takes a pass, R91, R92. -/
def SweepBlock.take (x : SweepBlock) (p : Pass) (q : BitVec 16) : SweepBlock :=
  match p with
  | .out => { x with expected := .ret, seq := some q }
  | .ret => if x.inStep .ret q then { x with expected := .out, seq := some q } else x

/-- The alternation of acting passes, R93. -/
def SweepBlock.mayAct (x : SweepBlock) : Pass → Bool
  | .out => x.lastActing != some .out
  | .ret => x.lastActing == some .out

/-- A valid pass is acting, R93, judged on the record before it takes the pass and on the node state after step 4 of R84
has ended any HELD. -/
def State.acts (s : State) (p : Pass) (q : BitVec 16) (hold : Bool) : Bool :=
  s.sweep.inStep p q && !hold && s.node.state == .service && s.sweep.mayAct p

/-- The record takes a pass and, if it is acting, notes it as the last acting pass. -/
def State.takePass (s : State) (p : Pass) (q : BitVec 16) (acting : Bool) : State :=
  s.setSweep { s.sweep.take p q with lastActing := if acting then some p else s.sweep.lastActing }

/-! ### Supervision on a valid pass, R153, R154 -/

/-- A valid pass restarts the sweep recency, ends HELD and starts T_HOLD again. -/
def State.heard (s : State) : State :=
  match s.node.state with
  | .service => s.setSup { s.sup with recency := some 0, timer := .holdStage s.tHold }
  | .held =>
    (s.setNode { s.node with state := .service }).setSup { s.sup with recency := some 0, timer := .holdStage s.tHold }
  | .unnumbered => s.setSup { s.sup with recency := some 0 }
  | .numbered => s.setSup { s.sup with recency := some 0 }
  | .standby => s.setSup { s.sup with recency := some 0 }
  | .failsafe => s.setSup { s.sup with recency := some 0 }
  | .maintenance => s.setSup { s.sup with recency := some 0 }

/-! ### The face controller's work, R103 -/

/-- The steps of R103 for one face. -/
def State.faceWork (s : State) (f : Face) (v : PassView) (acting : Bool) : State :=
  if acting then
    (((if v.pass = .ret then s.advanceAge f else s).mergeCheck f)).decide f v
  else s.mergeCheck f

/-! ### The node's own entry and the summary, R96, R99, R100 -/

/-- The half of the node's entry for a face: in MAINTENANCE the envelope is written (0, 2), R6. -/
def State.ownHalf (s : State) (f : Face) : Half :=
  if s.node.state = .maintenance then ⟨(s.face f).shown, 0, 2⟩ else (s.face f).half

/-- The node's lane entry, R96. -/
def State.ownEntry (s : State) : LaneEntry := ⟨s.ownHalf .e, s.ownHalf .w⟩

/-- The own entry is written into cur at the node's lane, R96. -/
def SweepBody.writeOwn (b : SweepBody) (k : Nat) (x : LaneEntry) : SweepBody :=
  { b with cur := b.cur.set (k - 1) (writeEntry x) }

/-- How many faces meet a test. -/
def State.countFaces (s : State) (g : FaceRecord → Bool) : Nat := (g s.faces.e).toNat + (g s.faces.w).toNat

/-- The node's longest wait, R100. -/
def State.longestWait (s : State) : Nat :=
  max ((s.faces.e.pending.map PendingTarget.age).getD 0) ((s.faces.w.pending.map PendingTarget.age).getD 0)

/-- The summary fold, R99, R100. -/
def State.fold (s : State) (b : SweepBody) : SweepBody :=
  { b with
    faulted := satByte (b.faulted + s.countFaces fun r => r.latch != .none)
    pending := satByte (b.pending + s.countFaces fun r => r.pending.isSome)
    waitAge := max b.waitAge s.longestWait
    waitAddr := if b.waitAge < s.longestWait then s.node.address.toNat else b.waitAddr }

/-- The fold made on return passes only. -/
def State.foldOn (s : State) (p : Pass) (b : SweepBody) : SweepBody :=
  match p with
  | .out => b
  | .ret => s.fold b

/-! ### One pass, R84 -/

/-- The frame with another body. -/
def Frame.withSweep (f : Frame) (b : SweepBody) : Frame := { f with body := b.toWords }

/-- A pass with an order fault, R87. -/
def State.faultyPass (s : State) (f : Frame) (b : SweepBody) : State × Frame :=
  let t := ((s.latch .position).setSweep (s.sweep.drop f.pass b.seq)).takePass f.pass b.seq false
  (t, f.withSweep (t.foldOn f.pass b))

/-- Steps 3 and 4 of R84 on a valid pass: adjacency, kept entries, supervision and HELD. -/
def State.arrive (s : State) (p : Pass) (b : SweepBody) : State :=
  ((s.latchIf (!adjacent p s.gantry b) .position).setSweep
    (s.sweep.keep p s.gantry s.lane s.width b)).heard

/-- A valid pass after the roll, R84 steps 3 to 7. -/
def State.validPass (s : State) (f : Frame) (b : SweepBody) : State × Frame :=
  let t := s.arrive f.pass b
  let acting := t.acts f.pass b.seq (holdFlag f.flags)
  let v : PassView := ⟨f.pass, b.seq, b.plan, prevEntry f.pass s.gantry s.lane b⟩
  let u := ((t.takePass f.pass b.seq acting).faceWork .e v acting).faceWork .w v acting
  (u, f.withSweep (u.foldOn f.pass (b.writeOwn s.lane u.ownEntry)))

/-- One pass of a SWEEP frame, R84, with the leaving test of R75 at its end. -/
def State.sweepPass (s : State) (f : Frame) : State × Frame :=
  match sweepContent f with
  | none => ((s.latch .line).nodeTests, f)
  | some b =>
    let r :=
      if s.store.site.valid then
        match rollOutcome f.pass s.gantry s.lane b with
        | .orderFault => s.faultyPass f b
        | .roll => s.validPass f (b.roll s.gantry)
        | .stay => s.validPass f b
      else (s.takePass f.pass b.seq false, f)
    (r.1.nodeTests, r.2)

/-- The seeding of a turnaround, R97, R98; a malformed frame receives none (R83). -/
def State.seed (s : State) (f : Frame) : Frame :=
  match sweepContent f with
  | none => f
  | some b =>
    match s.line.role with
    | .endConfigured =>
      f.withSweep { b with curGantry := eastEnd, cur := b.east, endAddress := s.node.address.toNat }
    | .endWrapped =>
      { f.withSweep { b with curGantry := eastEnd, cur := absentVector, endAddress := s.node.address.toNat } with
        flags := setWrapFlag f.flags }
    | .through => f

/-- The return pass of a SWEEP turned around at this node: seeded, then taken from step 1, R84 step 8. -/
def State.sweepReturn (s : State) (f : Frame) : State × Frame := s.sweepPass (s.seed f)

/-- SWEEP, R84. -/
def execSweep (p : Port) (x : Payload) (s : State) : Host.Outcome State Fault Refusal :=
  match p with
  | .a => .next (s.receiveA (payloadFrame x kindSweep .a) State.sweepPass State.sweepReturn)
  | .b => .next (s.receiveB (payloadFrame x kindSweep .b) State.sweepPass)

end Sys2Proof.Machine
end

