-- ==== Sys2Proof/Machine/Dispatch.lean ====
section
/-! DEFINITION. One arm per row of spec/opcode_table.json, each one direct call of its meaning. -/

namespace Sys2Proof.Machine

/-- The effect of a command on everything but the queue. -/
def exec (i : Instr) (s : State) : Host.Outcome State Fault Refusal :=
  match i with
  | .sweep p x => Sys2Proof.Machine.execSweep p x s
  | .rollcall x => Sys2Proof.Machine.execRollcall x s
  | .enumerate x => Sys2Proof.Machine.execEnumerate x s
  | .closeall p x => Sys2Proof.Machine.execCloseall p x s
  | .unknownFrame p kind x => Sys2Proof.Machine.execUnknownFrame p kind x s
  | .forwardUnchanged p kind x => Sys2Proof.Machine.execForwardUnchanged p kind x s
  | .startUpForward p kind x => Sys2Proof.Machine.execStartUpForward p kind x s
  | .frameCheckFailed p ws => Sys2Proof.Machine.execFrameCheckFailed p ws s
  | .framingError p symbols => Sys2Proof.Machine.execFramingError p symbols s
  | .frameSent p => Sys2Proof.Machine.execFrameSent p s
  | .portDown p symbols => Sys2Proof.Machine.execPortDown p symbols s
  | .portUp p symbols => Sys2Proof.Machine.execPortUp p symbols s
  | .readIdentity x => Sys2Proof.Machine.execReadIdentity x s
  | .readSite x => Sys2Proof.Machine.execReadSite x s
  | .readStatus x => Sys2Proof.Machine.execReadStatus x s
  | .readFace x => Sys2Proof.Machine.execReadFace x s
  | .readChannel x raw => Sys2Proof.Machine.execReadChannel x raw s
  | .readPlan x => Sys2Proof.Machine.execReadPlan x s
  | .readLocks x => Sys2Proof.Machine.execReadLocks x s
  | .readCounters x => Sys2Proof.Machine.execReadCounters x s
  | .writeSite x arriving => Sys2Proof.Machine.execWriteSite x arriving s
  | .writeFace x => Sys2Proof.Machine.execWriteFace x s
  | .setMasks x => Sys2Proof.Machine.execSetMasks x s
  | .clearFaults x sense => Sys2Proof.Machine.execClearFaults x sense s
  | .loadBegin x => Sys2Proof.Machine.execLoadBegin x s
  | .loadBlock x => Sys2Proof.Machine.execLoadBlock x s
  | .loadEnd x => Sys2Proof.Machine.execLoadEnd x s
  | .swap x => Sys2Proof.Machine.execSwap x s
  | .store x => Sys2Proof.Machine.execStore x s
  | .eraseStore x => Sys2Proof.Machine.execEraseStore x s
  | .commission x => Sys2Proof.Machine.execCommission x s
  | .enterService x => Sys2Proof.Machine.execEnterService x s
  | .leaveService x => Sys2Proof.Machine.execLeaveService x s
  | .release x elapsed => Sys2Proof.Machine.execRelease x elapsed s
  | .maintain x => Sys2Proof.Machine.execMaintain x s
  | .endMaintain x => Sys2Proof.Machine.execEndMaintain x s
  | .reset x => Sys2Proof.Machine.execReset x s
  | .faceSet x => Sys2Proof.Machine.execFaceSet x s
  | .elementTest x => Sys2Proof.Machine.execElementTest x s
  | .possFrom x => Sys2Proof.Machine.execPossFrom x s
  | .possTo x => Sys2Proof.Machine.execPossTo x s
  | .possExcept x => Sys2Proof.Machine.execPossExcept x s
  | .possApply x => Sys2Proof.Machine.execPossApply x s
  | .possLift x => Sys2Proof.Machine.execPossLift x s
  | .undefinedCommand code x => Sys2Proof.Machine.execUndefinedCommand code x s
  | .moved f k rawPeak rawNow => Sys2Proof.Machine.execMoved f k rawPeak rawNow s
  | .hitTimeEnd f k => Sys2Proof.Machine.execHitTimeEnd f k s
  | .holdLost f k raw => Sys2Proof.Machine.execHoldLost f k raw s
  | .dropped f k raw => Sys2Proof.Machine.execDropped f k raw s
  | .notDropped f k raw => Sys2Proof.Machine.execNotDropped f k raw s
  | .overcurrent f k raw => Sys2Proof.Machine.execOvercurrent f k raw s
  | .lit f raw => Sys2Proof.Machine.execLit f raw s
  | .notLit f => Sys2Proof.Machine.execNotLit f s
  | .lampOpen f raw => Sys2Proof.Machine.execLampOpen f raw s
  | .lampOvercurrent f raw => Sys2Proof.Machine.execLampOvercurrent f raw s
  | .lampCurrentMoveEnd f => Sys2Proof.Machine.execLampCurrentMoveEnd f s
  | .tHoldExpiry => Sys2Proof.Machine.execTHoldExpiry s
  | .tCloseExpiry => Sys2Proof.Machine.execTCloseExpiry s
  | .loopOpen microamps => Sys2Proof.Machine.execLoopOpen microamps s
  | .loopRestored microamps => Sys2Proof.Machine.execLoopRestored microamps s
  | .supplyLow millivolts => Sys2Proof.Machine.execSupplyLow millivolts s
  | .supplyNormal millivolts ms => Sys2Proof.Machine.execSupplyNormal millivolts ms s
  | .supplyDipReset millivolts => Sys2Proof.Machine.execSupplyDipReset millivolts s
  | .powerOn => Sys2Proof.Machine.execPowerOn s
  | .resetEnd millivolts => Sys2Proof.Machine.execResetEnd millivolts s
  | .startUpSettleEnd => Sys2Proof.Machine.execStartUpSettleEnd s
  | .storeImageDone => Sys2Proof.Machine.execStoreImageDone s
  | .eraseImageDone => Sys2Proof.Machine.execEraseImageDone s
  | .lockWriteDone => Sys2Proof.Machine.execLockWriteDone s
  | .discardingEnd p => Sys2Proof.Machine.execDiscardingEnd p s

end Sys2Proof.Machine
end

