-- ==== Sys2Proof/WellFormed.lean ====
section
/-! DEFINITION. The well-formed terms: commands that stand for an event the spec describes. An ill-formed term leaves the
state as it is or is judged by the same rules (log 1). -/

namespace Sys2Proof

open Sys2Proof.Machine

/-- A body makes a frame of 4-127 words, R45. -/
def bodyOk (body : List Word) : Bool := 1 ≤ body.length && body.length ≤ 124

/-- A payload of a checked frame. -/
def Payload.wf (x : Payload) : Bool := bodyOk x.body

/-- A payload of a checked COMMAND frame. -/
def CommandPayload.wf (x : CommandPayload) : Bool := bodyOk x.body

/-- The first argument word of a command. -/
def CommandPayload.arg (x : CommandPayload) : Word := x.body.getD 0 0

/-- The kinds forwarded unchanged on a port, R46. -/
def forwardKind (p : Port) (k : BitVec 4) : Bool :=
  match p with
  | .a => k == kindCommand
  | .b => k == kindRollcall || k == kindCommand || k == kindEnumerate

/-- The terms that stand for an event of the spec, whatever the node's state. -/
def Instr.wf : Instr → Bool
  | .sweep _ x => x.wf
  | .rollcall x => x.wf
  | .enumerate x => x.wf
  | .closeall _ x => x.wf
  | .unknownFrame _ k x => x.wf && kindUnknown k
  | .forwardUnchanged p k x => x.wf && forwardKind p k
  | .startUpForward _ _ x => x.wf
  | .frameCheckFailed p ws => ws.length ≤ maxFrameWords && (frameError p ws).isSome
  | .framingError _ xs => xs.length != 0
  | .frameSent _ => true
  | .portDown _ _ => true
  | .portUp _ _ => true
  | .readIdentity x => x.wf
  | .readSite x => x.wf
  | .readStatus x => x.wf
  | .readFace x => x.wf
  | .readChannel x _ => x.wf
  | .readPlan x => x.wf
  | .readLocks x => x.wf
  | .readCounters x => x.wf
  | .writeSite x _ => x.wf
  | .writeFace x => x.wf
  | .setMasks x => x.wf
  | .clearFaults x _ => x.wf
  | .loadBegin x => x.wf
  | .loadBlock x => x.wf
  | .loadEnd x => x.wf
  | .swap x => x.wf
  | .store x => x.wf
  | .eraseStore x => x.wf
  | .commission x => x.wf
  | .enterService x => x.wf
  | .leaveService x => x.wf
  | .release x _ => x.wf
  | .maintain x => x.wf
  | .endMaintain x => x.wf
  | .reset x => x.wf
  | .faceSet x => x.wf
  | .elementTest x => x.wf
  | .possFrom x => x.wf
  | .possTo x => x.wf
  | .possExcept x => x.wf
  | .possApply x => x.wf
  | .possLift x => x.wf
  | .undefinedCommand _ x => x.wf
  | .moved _ _ _ _ => true
  | .hitTimeEnd _ _ => true
  | .holdLost _ _ _ => true
  | .dropped _ _ _ => true
  | .notDropped _ _ _ => true
  | .overcurrent _ _ _ => true
  | .lit _ _ => true
  | .notLit _ => true
  | .lampOpen _ _ => true
  | .lampOvercurrent _ _ => true
  | .lampCurrentMoveEnd _ => true
  | .tHoldExpiry => true
  | .tCloseExpiry => true
  | .loopOpen microamps => microamps < loopPresent
  | .loopRestored microamps => loopPresent ≤ microamps
  | .supplyLow millivolts => millivolts < supplyLowThreshold
  | .supplyNormal millivolts ms => supplyLowThreshold ≤ millivolts && supplyLowTime ≤ ms
  | .supplyDipReset millivolts => millivolts < dipThreshold
  | .powerOn => true
  | .resetEnd millivolts => resetEndThreshold ≤ millivolts
  | .startUpSettleEnd => true
  | .storeImageDone => true
  | .eraseImageDone => true
  | .lockWriteDone => true
  | .discardingEnd _ => true

end Sys2Proof
end

