-- ==== Sys2Proof/Safety.lean ====
section
/-! DEFINITION. What a sound state is: the laws the spec states of the node at all times, as predicates on State that
statements use. -/

namespace Sys2Proof.Machine

/-! ### The passage of a frame -/

/-- A command on the node runs to its execution: every test of R65 and R67 before it passes, past start-up. -/
def State.executes (s : State) (c : Cmd) (x : CommandPayload) : Bool :=
  s.phase == .running && x.wf && s.concernedBy x.target && !replyTaken x.target x.body &&
    c.row.states.has s.node.state && c.row.form.allows x.target && c.roomFor x.target x.body

/-- The node as the block that executes a command finds it: the frame counted (R57), a sequence in progress abandoned
(R67 step 5, R140). -/
def State.handed (s : State) (c : Cmd) : State := (s.received .a).abandonSequence c

/-- A frame from port A whose processing is complete leaves by the role, R52: through the outbound queue, or turned around
into the return queue. -/
def State.sendA (s : State) (f : Frame) : State :=
  if s.line.role.isEnd then s.join .a .a { f with pass := .ret } else s.join .b .a f

/-- A COMMAND frame leaves with a reply, R68, R69. -/
def State.sendReply (s : State) (c : Cmd) (x : CommandPayload) (r : Reply) : State :=
  s.sendA ((commandFrame (BitVec.ofNat 8 c.row.code) x).answered c x.target s.node.address r)

/-- The command and payload of a row of R193; none for the other rows. -/
def commandOf : Instr → Option (Cmd × CommandPayload)
  | .sweep _ _ => none
  | .rollcall _ => none
  | .enumerate _ => none
  | .closeall _ _ => none
  | .unknownFrame _ _ _ => none
  | .forwardUnchanged _ _ _ => none
  | .startUpForward _ _ _ => none
  | .frameCheckFailed _ _ => none
  | .framingError _ _ => none
  | .frameSent _ => none
  | .portDown _ _ => none
  | .portUp _ _ => none
  | .readIdentity x => some (.readIdentity, x)
  | .readSite x => some (.readSite, x)
  | .readStatus x => some (.readStatus, x)
  | .readFace x => some (.readFace, x)
  | .readChannel x _ => some (.readChannel, x)
  | .readPlan x => some (.readPlan, x)
  | .readLocks x => some (.readLocks, x)
  | .readCounters x => some (.readCounters, x)
  | .writeSite x _ => some (.writeSite, x)
  | .writeFace x => some (.writeFace, x)
  | .setMasks x => some (.setMasks, x)
  | .clearFaults x _ => some (.clearFaults, x)
  | .loadBegin x => some (.loadBegin, x)
  | .loadBlock x => some (.loadBlock, x)
  | .loadEnd x => some (.loadEnd, x)
  | .swap x => some (.swap, x)
  | .store x => some (.store, x)
  | .eraseStore x => some (.eraseStore, x)
  | .commission x => some (.commission, x)
  | .enterService x => some (.enterService, x)
  | .leaveService x => some (.leaveService, x)
  | .release x _ => some (.release, x)
  | .maintain x => some (.maintain, x)
  | .endMaintain x => some (.endMaintain, x)
  | .reset x => some (.reset, x)
  | .faceSet x => some (.faceSet, x)
  | .elementTest x => some (.elementTest, x)
  | .possFrom x => some (.possFrom, x)
  | .possTo x => some (.possTo, x)
  | .possExcept x => some (.possExcept, x)
  | .possApply x => some (.possApply, x)
  | .possLift x => some (.possLift, x)
  | .undefinedCommand _ _ => none
  | .moved _ _ _ _ => none
  | .hitTimeEnd _ _ => none
  | .holdLost _ _ _ => none
  | .dropped _ _ _ => none
  | .notDropped _ _ _ => none
  | .overcurrent _ _ _ => none
  | .lit _ _ => none
  | .notLit _ => none
  | .lampOpen _ _ => none
  | .lampOvercurrent _ _ => none
  | .lampCurrentMoveEnd _ => none
  | .tHoldExpiry => none
  | .tCloseExpiry => none
  | .loopOpen _ => none
  | .loopRestored _ => none
  | .supplyLow _ => none
  | .supplyNormal _ _ => none
  | .supplyDipReset _ => none
  | .powerOn => none
  | .resetEnd _ => none
  | .startUpSettleEnd => none
  | .storeImageDone => none
  | .eraseImageDone => none
  | .lockWriteDone => none
  | .discardingEnd _ => none

/-! ### Faces -/

/-- A face shows, or has a change in progress to or from, a permissive aspect: the terms of R9's law. -/
def FaceRecord.permissive (r : FaceRecord) : Bool :=
  r.shown.permissive || r.change.any fun c => c.src.permissive || c.dst.permissive

/-- R9: not both faces. -/
def State.oneWay (s : State) : Bool := !(s.faces.e.permissive && s.faces.w.permissive)

/-- The changes R10-R14 define: between different aspects, none from DARK but to CLOSED. -/
def Change.legal (c : Change) : Bool := c.src != c.dst && (c.src != .dark || c.dst == .closed)

/-- A face record as R4 and R5 give it: the envelope of its state, a change in progress exactly while CHANGING, the wait for
a relight on a STEADY DARK face alone, and R39's mark in that wait alone. -/
def FaceRecord.sound (r : FaceRecord) : Bool :=
  (match r.state, r.change with
    | .steady, none => r.env == steadyEnv r.shown
    | .steady, some _ => false
    | .changing, some c => r.env == changeEnv c.src c.dst && c.src == r.shown && c.legal
    | .changing, none => false
    | .returning, none => r.env.ceiling == 2 && r.env.floor ≤ 2 && r.shown != .dark
    | .returning, some _ => false) &&
  (!r.relightAwaited || r.steadyDark) && (!r.testedWait || r.relightAwaited)

/-- Pending targets are found in SERVICE and in HELD alone, R114. -/
def State.pendingOk (s : State) : Bool := s.node.state == .service || s.node.state == .held || s.nothingPending

/-- A face has no target below CLOSED: neither its current target nor a pending one. -/
def FaceRecord.aimsClosed (r : FaceRecord) : Bool :=
  !r.target.aspect.permissive && !r.pending.any fun p => p.aspect.permissive

/-- R142: a covered face has no target below CLOSED. -/
def State.coverOk (s : State) : Bool :=
  (!s.covered .e || s.faces.e.aimsClosed) && (!s.covered .w || s.faces.w.aimsClosed)

/-- Both face records are sound. -/
def State.facesSound (s : State) : Bool := s.faces.e.sound && s.faces.w.sound

/-! ### Node -/

/-- R60: the address is 0 in UNNUMBERED and in 1-250 elsewhere. -/
def NodeRecord.addressOk (n : NodeRecord) : Bool :=
  if n.state = .unnumbered then n.address == 0 else 1 ≤ n.address.toNat && n.address.toNat ≤ maxAddress

/-- R60: LEAVING in SERVICE and HELD alone, the ending flag in MAINTENANCE alone. -/
def NodeRecord.flagsOk (n : NodeRecord) : Bool :=
  (!n.leaving || n.state == .service || n.state == .held) && (!n.ending || n.state == .maintenance)

/-- R150: the first cause is none exactly while the set is empty, and is a cause of the set. -/
def NodeRecord.causesOk (n : NodeRecord) : Bool :=
  match n.firstCause with
  | none => n.causes.isEmpty
  | some c => n.causes.has c

/-- Past NUMBERED the site record is valid, R73, R178. -/
def State.siteOk (s : State) : Bool :=
  s.store.site.valid || s.node.state == .unnumbered || s.node.state == .numbered

/-- Past NUMBERED ACTIVE holds a table, R73, R130. -/
def State.tableOk (s : State) : Bool :=
  !s.plan.active.entries.isEmpty || s.node.state == .unnumbered || s.node.state == .numbered

/-- R154: STOPPED outside SERVICE and HELD, HOLD_STAGE in SERVICE, CLOSE_STAGE in HELD. -/
def State.timerOk (s : State) : Bool :=
  match s.node.state, s.sup.timer with
  | .service, .holdStage _ => true
  | .held, .closeStage _ => true
  | .unnumbered, .stopped => true
  | .numbered, .stopped => true
  | .standby, .stopped => true
  | .failsafe, .stopped => true
  | .maintenance, .stopped => true
  | _, _ => false

/-- R38: release-all is asserted exactly in FAILSAFE, and in FAILSAFE every shutter is OFF, RELEASING or BLOCKED. -/
def State.releaseOk (s : State) : Bool :=
  (s.sup.releaseAll == (s.node.state == .failsafe)) &&
    (s.node.state != .failsafe || (!s.anyDriven .e && !s.anyDriven .w))

/-- No frame of start-up is processed: the node is UNNUMBERED, the role THROUGH, and no RESET waits (R58, R61, R79, R80). -/
def State.unserved (s : State) : Bool :=
  s.node.state == .unnumbered && s.line.role == .through && !s.line.resetWaits

/-- From a reset to the end of start-up no frame is processed, and until the settle ends no face or channel leaves its
record after reset (R22, R41, R58, R186). -/
def State.startUpOk (s : State) : Bool :=
  match s.phase with
  | .held => s.faces == ⟨.reset, .reset⟩ && s.elem == .reset && s.unserved
  | .settling => s.faces == ⟨.reset, .reset⟩ && s.elem == .reset && s.unserved
  | .relighting _ _ => s.unserved
  | .running => true

/-- A lamp report of start-up, R58, R189: with the other lamp outstanding only the report is noted; with none outstanding
start-up ends and the role is set. -/
def State.lampOutcome (s : State) (f : Face) (other : Bool) (t : State) : Prop :=
  t.node = s.node ∧ t.sweep = s.sweep ∧ t.plan = s.plan ∧ t.poss = s.poss ∧ t.sup = s.sup ∧ t.store = s.store ∧
    t.face (otherFace f) = s.face (otherFace f) ∧ t.channels (otherFace f) = s.channels (otherFace f) ∧
    if other then
      t.phase = .running ∧
        t.line.role =
          (if s.store.site.valid && s.store.site.fields.endFlag then .endConfigured
            else if s.line.linkB = .down then .endWrapped else .through) ∧
        (t.line.role = .endWrapped → t.line.outboundQueue = [] ∧ t.latched .wrap = true) ∧
        (t.line.role ≠ .endWrapped → t.line.outboundQueue = s.line.outboundQueue)
    else t.phase = (if f = .e then .relighting true false else .relighting false true) ∧ t.line = s.line

/-- A lamp fault as it leaves its face, R19, R27, R165: the lamp BLOCKED with the fault, its detail counted, the LAMP latch
set, the face STEADY DARK with latch LAMP and no shutter driven. -/
def State.lampFailed (s : State) (f : Face) (x : ChannelFault) (t : State) : Prop :=
  (t.lamp f).state = .blocked ∧ (t.lamp f).lastFault = x ∧ t.latched .lamp = true ∧
    (t.details f).lamp.count = min 255 ((s.details f).lamp.count + 1) ∧ t.anyDriven f = false ∧
    t.face f = { s.face f with
      shown := .dark, state := .steady, env := ⟨0, 2⟩, change := none, latch := .lamp, relightAwaited := false, testedWait := false
      pending := (s.face f).pending.map fun p => { p with reason := .fault } }

/-- The content of the site image where start-up finds it valid, R181, R187: its part echo is the identity part code of an
identity record that passed its check (R177). -/
def StorageBlock.siteFound (b : StorageBlock) : Option SiteRecord :=
  b.siteImage.sound fun x => b.identity.checkOk && x.echo == b.identity.part && x.inRange

/-! ### Tables and queues -/

/-- A bank: at most 48 entries in strictly ascending plan numbers of 1-250, and its check value, R121. -/
def Bank.sound (b : Bank) : Bool := planTest b.entries && b.check == bankCheck b.entries

/-- The plan table block: both banks sound, an empty STAGING never VALID, and the session as R123 gives it. -/
def PlanBlock.sound (b : PlanBlock) : Bool :=
  b.active.sound && b.staging.sound && (!b.stagingValid || !b.staging.entries.isEmpty) &&
    (match b.session.state, b.session.expected with
      | .none, none => true
      | .none, some _ => false
      | .opened, some n =>
        !b.stagingValid && 1 ≤ n && n ≤ bankLimit && b.session.received ≤ n &&
          b.session.received == b.staging.entries.length
      | .spoiled, some n => !b.stagingValid && 1 ≤ n && n ≤ bankLimit && b.session.received ≤ n
      | .opened, none => false
      | .spoiled, none => false)

/-- The lock table: at most 4 locks with distinct ids from 1 to 15, R141. -/
def locksOk (ls : List Lock) : Bool :=
  ls.length ≤ lockLimit && distinct (ls.map Lock.id) && (ls.map Lock.id).all lockIdOk

/-- The possession sequence record: in NONE every other field is none, R136. -/
def SeqRecord.sound (x : SeqRecord) : Bool :=
  match x.state with
  | .none => x == .cleared
  | .fromSet => x.fromGantry.isSome && x.laneMask.isSome && x.faces.isSome && x.toGantry.isNone && x.exceptList.isEmpty
  | .rangeSet =>
    x.fromGantry.isSome && x.laneMask.isSome && x.faces.isSome && x.toGantry.isSome &&
      x.exceptList.length ≤ exceptLimit && distinct x.exceptList

/-- Each forwarding queue holds at most 2 frames, R49. -/
def LineBlock.queuesOk (l : LineBlock) : Bool :=
  l.outboundQueue.length ≤ queueLimit && l.returnQueue.length ≤ queueLimit

end Sys2Proof.Machine
end

