-- ==== Sys2Proof/Certificates/Slice0/Obligations.lean ====
section
/-! DEFINITION. The statements for the provers, family by family. Basis, rules and quotes stand in OBLIGATIONS.json. -/

open Sys2Proof Sys2Proof.Machine

/-! ### The queue of commands and the three resets -/

/-- For every command c and state s, the step of s with c at the front of its queue is exec c on s with the queue's
rest. With nothing waiting the block idles, which is the model's choice (notes/assumptions/4.md).
(04_node_states_and_commands.md (the commands the node takes); notes/assumptions/4.md.) -/
def Obligations.StepRunsTheFrontCommand : Prop :=
  (∀ (s : State) (c : Instr) (rest : List Instr), step { s with pending := c :: rest } = exec c { s with pending := rest }) ∧
  (∀ s : State, step { s with pending := [] } = .next { s with pending := [] })

/-- Every command of the table, with every operand, runs to a next state from every state: none ends in a fault or a
refusal, and none touches the queue of waiting commands. (04_node_states_and_commands.md (R67: a command executed is
executed whole); notes/assumptions/1.md.) -/
def Obligations.EveryCommandRunsAndKeepsTheQueue : Prop :=
  ∀ (c : Instr) (s : State), ∃ t, exec c s = .next t ∧ t.pending = s.pending

/-- A reset leaves every face, the node record, the sweep record, supervision, the line, the latches, the possession
sequence, the load session and the writer at their values after reset, and the four images as they were. POWER_ON, a
SUPPLY_DIP_RESET on a running part and the departure of the frame that a commanded reset waits for each bring one
about, with their reset cause. A part held in reset begins start-up at 18.0 V. What a further dip of a held part
records is the model's reading (notes/assumptions/29.md), and so is that RESET_END on a part that is not held leaves
the state (notes/assumptions/1.md). That an image state stands as it was until start-up finds the image is the model's
choice (notes/assumptions/51.md). (04_node_states_and_commands.md R79, R80; 01_faces_aspects_and_ranks.md R22;
02_element_outputs.md R41; 03_the_chain_line.md R59; 05_the_sweep.md R102; 07_plan_tables.md R135; 08_possessions.md
R149; 09_forced_closure_and_silence.md R159, R163; 10_faults_alarms_and_roll_call.md R176;
11_stored_records_and_start_up.md R185; notes/assumptions/1.md, notes/assumptions/29.md, notes/assumptions/51.md.) -/
def Obligations.AnyResetLeavesTheStatedValues : Prop :=
  (∀ (s : State) (c : ResetCause) (ph : Phase) (mv : Nat) (p : Port) (x : QueuedFrame) (rest : List QueuedFrame),
      ((s.doReset c ph).phase = ph ∧
        (s.doReset c ph).faces.e =
          { shown := .dark, state := .steady, env := ⟨0, 2⟩, change := none, pending := none, latch := .none,
            mergeLost := none, target := ⟨.closed, .plan⟩, relightAwaited := false, testedWait := false } ∧
        (s.doReset c ph).faces.w = (s.doReset c ph).faces.e ∧
        (s.doReset c ph).node =
          { state := .unnumbered, leaving := false, ending := false, address := 0, positionAgrees := false,
            resetCause := c, causes := ⟨false, false, false, false, false⟩, firstCause := none } ∧
        (s.doReset c ph).sweep =
          { expected := .out, seq := none, lastActing := none, downE := none, downW := none, lower := ⟨none, none⟩,
            upper := ⟨none, none⟩ } ∧
        (s.doReset c ph).sup =
          { recency := none, timer := .stopped, loop := .evaluating, supply := .evaluating, releaseAll := false } ∧
        (s.doReset c ph).line =
          { linkA := .up, linkB := .up, rxA := ⟨.idle, []⟩, rxB := ⟨.idle, []⟩, outboundQueue := [], returnQueue := [],
            role := .through, countA := ⟨0, 0, 0, 0, 0, 0⟩, countB := ⟨0, 0, 0, 0, 0, 0⟩ } ∧
        (s.doReset c ph).fault.latches = 0 ∧ (s.doReset c ph).fault.superseded = 0 ∧
        (s.doReset c ph).poss.seq = ⟨.none, none, none, none, none, []⟩ ∧ (s.doReset c ph).poss.dirty = false ∧
        (s.doReset c ph).plan.session = ⟨.none, none, 0⟩ ∧ (s.doReset c ph).store.writer = .idle ∧
        (s.doReset c ph).store.siteImage = s.store.siteImage ∧ (s.doReset c ph).store.faceImage = s.store.faceImage ∧
        (s.doReset c ph).store.planImage = s.store.planImage ∧ (s.doReset c ph).store.lockImage = s.store.lockImage) ∧
      exec .powerOn s = .next (s.doReset .powerOn .held) ∧
      (mv < 16000 → s.phase ≠ .held →
        exec (.supplyDipReset mv) s = .next (s.doReset (if mv < 8000 then .powerOn else .supplyDip) .held)) ∧
      (s.line.queue p = x :: rest → x.carriesReset = true → exec (.frameSent p) s = .next (s.doReset .commanded .settling))) ∧
  (∀ (s : State) (mv : Nat),
      (s.phase = .held →
        (18000 ≤ mv → exec (.resetEnd mv) s = .next { s with phase := .settling }) ∧
        (mv < 18000 → exec (.resetEnd mv) s = .next s) ∧
        (mv < 8000 → exec (.supplyDipReset mv) s = .next { s with node := { s.node with resetCause := .powerOn } }) ∧
        (8000 ≤ mv → exec (.supplyDipReset mv) s = .next s)) ∧
      (s.phase ≠ .held → exec (.resetEnd mv) s = .next s))

/-! ### Start-up -/

/-- When the settle ends the records are loaded, both lamps are RAMPING with their ramp times and both faces are in
the change from DARK to CLOSED. Each image found valid is loaded and VALID; each found invalid leaves the values of a
record not loaded, is INVALID, and sets the STORE latch, as a failed check of the identity or calibration record does.
A site image passes with a lane-type copy out of range, which the vote judges (notes/assumptions/13.md, the model's
reading). (11_stored_records_and_start_up.md R181, R186, R187, R188, R189; 02_element_outputs.md R24, R41;
08_possessions.md R149; 07_plan_tables.md R135; notes/assumptions/13.md.) -/
def Obligations.StartUpLoadsTheRecordsAndRelights : Prop :=
  (∀ s : State, s.phase = .settling → s.startUpOk = true →
      exec .startUpSettleEnd s = .next
        { s.loadAll with
          phase := .relighting false false
          faces :=
            { e := { s.faces.e with state := .changing, env := ⟨0, 2⟩, change := some ⟨.dark, .closed, .one⟩ }
              w := { s.faces.w with state := .changing, env := ⟨0, 2⟩, change := some ⟨.dark, .closed, .one⟩ } }
          elem := { s.loadAll.elem with
            e := { s.elem.e with
              lamp := { s.elem.e.lamp with state := .ramping, timer := some s.loadAll.elem.cfgE.rampTime } }
            w := { s.elem.w with
              lamp := { s.elem.w.lamp with state := .ramping, timer := some s.loadAll.elem.cfgW.rampTime } } } }) ∧
  (∀ (s : State) (x : SiteRecord) (c : StoredConfigs) (es : List PlanEntry) (ls : List StoredLock), s.phase = .settling →
      ∃ t, exec .startUpSettleEnd s = .next t ∧
        t.store.identityOk = s.store.identity.checkOk ∧ t.store.trimsInUse = s.store.calibration.checkOk ∧
        (s.store.identity.checkOk = false ∨ s.store.calibration.checkOk = false → t.latched .store = true) ∧
        (s.store.siteFound = some x →
          t.store.siteImage.state = .valid ∧ t.fault.masks = x.masks ∧
          t.store.site = ⟨true, x.voted (laneVote x.lane1 x.lane2 x.lane3), (laneVote x.lane1 x.lane2 x.lane3).laneType,
            (laneVote x.lane1 x.lane2 x.lane3).outcome⟩ ∧
          ((laneVote x.lane1 x.lane2 x.lane3).outcome ≠ .allEqual → t.latched .store = true)) ∧
        (s.store.siteFound = none →
          t.store.siteImage.state = .invalid ∧ t.fault.masks = s.fault.masks ∧ t.latched .store = true ∧
          t.store.site = ⟨false, .notValid, .none, .notHeld⟩) ∧
        (s.store.faceImage.sound configTest = some c →
          t.store.faceImage.state = .valid ∧ t.elem.cfgE = t.store.supported .e c.e ∧
          t.elem.cfgW = t.store.supported .w c.w ∧
          (t.elem.cfgE ≠ c.e ∨ t.elem.cfgW ≠ c.w → t.latched .store = true)) ∧
        (s.store.faceImage.sound configTest = none →
          t.store.faceImage.state = .invalid ∧ t.elem.cfgE = .default ∧ t.elem.cfgW = .default ∧
          t.latched .store = true) ∧
        (s.store.planImage.sound planTest = some es →
          t.store.planImage.state = .valid ∧ t.plan.active = ⟨es, bankCheck es⟩) ∧
        (s.store.planImage.sound planTest = none →
          t.store.planImage.state = .invalid ∧ t.plan.active = ⟨[], 0xFFFF#16⟩ ∧ t.latched .store = true) ∧
        (s.store.lockImage.sound lockTest = some ls →
          t.store.lockImage.state = .valid ∧ t.poss.locks = ls.map fun l => ⟨l.id, l.faces, true, false⟩) ∧
        (s.store.lockImage.sound lockTest = none →
          t.store.lockImage.state = .invalid ∧ t.poss.locks = [] ∧ t.latched .store = true))

/-- Three equal valid copies give their value with outcome ALL_EQUAL; two equal valid copies give theirs with MAJORITY
and all three copies set to it; anything else gives NONE with FAILED. (11_stored_records_and_start_up.md R188.) -/
def Obligations.LaneVoteTakesTheMajority : Prop :=
  ∀ a b c v : BitVec 2,
    (v ≠ 0 → a = v ∧ b = v ∧ c = v →
      (laneVote a b c).outcome = .allEqual ∧ LaneType.ofCode v = some (laneVote a b c).laneType ∧
        (laneVote a b c).code = none) ∧
    (v ≠ 0 → (a = v ∧ b = v ∧ c ≠ v) ∨ (a = v ∧ c = v ∧ b ≠ v) ∨ (b = v ∧ c = v ∧ a ≠ v) →
      (laneVote a b c).outcome = .majority ∧ LaneType.ofCode v = some (laneVote a b c).laneType ∧
        (laneVote a b c).code = some v) ∧
    (¬(a ≠ 0 ∧ (a = b ∨ a = c)) → ¬(b ≠ 0 ∧ b = c) →
      (laneVote a b c).outcome = .failed ∧ (laneVote a b c).laneType = .none ∧ (laneVote a b c).code = none)

/-- In start-up LIT, NOT_LIT and LAMP_OVERCURRENT on a RAMPING lamp are noted while the other lamp is outstanding. The
report that leaves none outstanding ends start-up: the part runs, and the role is END (configured) with a valid site
record's end flag, else END (wrapped) with port B DOWN, else THROUGH. LIT leaves the relighting face STEADY CLOSED
under a LIT lamp; a lamp fault leaves the lamp BLOCKED with the fault counted and the LAMP latch set, and the face
STEADY DARK with latch LAMP. (11_stored_records_and_start_up.md R189; 03_the_chain_line.md R58;
01_faces_aspects_and_ranks.md R14, R15, R19, R22; 02_element_outputs.md R27, R35; 10_faults_alarms_and_roll_call.md
R165.) -/
def Obligations.LastLampReportEndsStartUp : Prop :=
  ∀ (s : State) (f : Face) (raw : Nat) (other : Bool), s.startUpOk = true → (s.lamp f).state = .ramping →
    s.phase = (if f = .e then .relighting false other else .relighting other false) →
      (∃ t, exec (.notLit f) s = .next t ∧ s.lampOutcome f other t ∧ s.lampFailed f .notLit t) ∧
      (inLampWindow (s.config f).lampCurrent (s.measureLamp f raw) = true →
        ∃ t, exec (.lit f raw) s = .next t ∧ s.lampOutcome f other t ∧
          ((s.face f).relighting = true → (s.face f).pending = none →
            t.lamp f = { s.lamp f with state := .lit, measured := s.measureLamp f raw, timer := none } ∧
            t.fault.e = s.fault.e ∧ t.fault.w = s.fault.w ∧
            t.face f = { s.face f with shown := .closed, state := .steady, env := ⟨2, 2⟩, change := none })) ∧
      (159 < s.measureLamp f raw →
        ∃ t, exec (.lampOvercurrent f raw) s = .next t ∧ s.lampOutcome f other t ∧ s.lampFailed f .overcurrent t)

/-! ### The chain line -/

/-- A checked frame leaves its receiver IDLE and counts as good. A processed frame joins its queue with its CRC
computed afresh when the queue holds fewer than two frames, and is dropped as OVERRUN of the port it came from
otherwise. The oldest frame leaves its queue when it has been sent, and nothing else changes unless a reset waited for
it. FRAME_SENT on an empty queue leaves the state (notes/assumptions/1.md, the model's choice). (03_the_chain_line.md
R45, R48, R49, R50, R57; notes/assumptions/1.md.) -/
def Obligations.QueuesHoldTwoFramesAndSendTheOldest : Prop :=
  (∀ (s : State) (q p : Port) (f : Frame), f.carriesReset = false →
      s.received p = s.setLine ((s.line.setRx p ⟨.idle, []⟩).setCounters p { s.line.counters p with
        good := if (s.line.counters p).good = 65535 then 65535 else (s.line.counters p).good + 1 }) ∧
      ((s.line.queue q).length < 2 →
        s.join q p f = s.setLine (s.line.setQueue q (s.line.queue q ++ [⟨f.words ++ [crc f.words], false⟩]))) ∧
      (2 ≤ (s.line.queue q).length →
        s.join q p f = (s.setLine (s.line.setCounters p { s.line.counters p with
          overrun := if (s.line.counters p).overrun = 65535 then 65535 else (s.line.counters p).overrun + 1 })).latch .line)) ∧
  (∀ (s : State) (p : Port) (x : QueuedFrame) (rest : List QueuedFrame),
      (s.line.queue p = x :: rest → x.carriesReset = false →
        exec (.frameSent p) s = .next { s with line := s.line.setQueue p rest }) ∧
      (s.line.queue p = [] → exec (.frameSent p) s = .next s))

/-- From any reset to the end of start-up a checked frame of any kind is counted and forwarded unprocessed, from A to
the outbound queue and from B to the return queue; that the same row leaves the state of a running part, whose frames
are other rows', and acts on a held part whatever its supply, are the model's choices (notes/assumptions/1.md,
notes/assumptions/25.md). Past start-up a COMMAND for another node, and on port B in THROUGH a ROLLCALL, COMMAND or
ENUMERATE, change nothing but the line; a node's own addressed COMMAND with its REPLY word written sets POSITION
besides. A frame of unknown kind is forwarded unchanged and counted once, with the LINE latch. That such a frame
counts as UNKNOWN also where its queue is full and it is dropped is the model's choice (notes/assumptions/52.md).
(03_the_chain_line.md R46, R47, R52, R58; 04_node_states_and_commands.md R65; notes/assumptions/1.md;
notes/assumptions/25.md; notes/assumptions/52.md.) -/
def Obligations.FramesNoBlockActsOnAreForwarded : Prop :=
  (∀ (s : State) (p : Port) (kind : BitVec 4) (x : Payload), x.wf = true →
      (s.phase ≠ .running →
        exec (.startUpForward p kind x) s =
          .next ((if kindUnknown kind then (s.received p).countUnknown p else s.received p).join
            (if p = .a then .b else .a) p (payloadFrame x kind p))) ∧
      (s.phase = .running → exec (.startUpForward p kind x) s = .next s)) ∧
  (∀ (s : State) (kind : BitVec 4) (x : Payload), s.phase = .running → x.wf = true →
      (s.concernedBy (BitVec.ofNat 8 (hiByte x.word1)) = false →
        exec (.forwardUnchanged .a kindCommand x) s =
          .next ((s.received .a).sendA (payloadFrame x kindCommand .a))) ∧
      (hiByte x.word1 ≠ 0 → s.concernedBy (BitVec.ofNat 8 (hiByte x.word1)) = true → x.body.getLastD 0 ≠ 0 →
        exec (.forwardUnchanged .a kindCommand x) s =
          .next (((s.received .a).latch .position).sendA (payloadFrame x kindCommand .a))) ∧
      (s.line.role = .through → kind = kindRollcall ∨ kind = kindCommand ∨ kind = kindEnumerate →
        exec (.forwardUnchanged .b kind x) s =
          .next ((s.received .b).join .a .b (payloadFrame x kind .b)))) ∧
  (∀ (s : State) (kind : BitVec 4) (x : Payload), s.phase = .running → x.wf = true → kind = 0 ∨ 6 ≤ kind.toNat →
      exec (.unknownFrame .a kind x) s =
        .next (((s.received .a).countUnknown .a).sendA (payloadFrame x kind .a)) ∧
      (s.line.role = .through →
        exec (.unknownFrame .b kind x) s =
          .next (((s.received .b).countUnknown .b).join .a .b (payloadFrame x kind .b))))

/-- Past start-up in END role, of either value, a frame received on port B, a frame that fails a check there and a run
of symbols there leave the node as it is. (03_the_chain_line.md R55.) -/
def Obligations.EndRoleReceivesNothingOnPortB : Prop :=
  ∀ (s : State) (kind : BitVec 4) (x : Payload) (ws : List Word) (xs : List Symbol), s.phase = .running →
    s.line.role ≠ .through →
    exec (.sweep .b x) s = .next s ∧ exec (.closeall .b x) s = .next s ∧ exec (.unknownFrame .b kind x) s = .next s ∧
    exec (.forwardUnchanged .b kind x) s = .next s ∧ exec (.frameCheckFailed .b ws) s = .next s ∧
    exec (.framingError .b xs) s = .next s

/-- On the words received, a length that is not that of the header or lies outside 4-127 counts as FRAMING; else a
wrong CRC word as CRC; else a PASS bit of the other pass as DIRECTION; each with the LINE latch, the receiver IDLE and
nothing forwarded. Words that pass are no failure, and the row then leaves the state (notes/assumptions/1.md, the
model's choice). (03_the_chain_line.md R45, R57; 12_frame_and_record_layouts.md R191; notes/assumptions/1.md.) -/
def Obligations.TheFirstFailedCheckIsCounted : Prop :=
  ∀ (s : State) (p : Port) (ws : List Word), (p = .a ∨ s.phase ≠ .running ∨ s.line.role = .through) →
    ws.length ≤ 127 →
    (ws.length < 4 ∨ (ws.headD 0).toNat % 128 ≠ ws.length →
      exec (.frameCheckFailed p ws) s = .next ((s.setLine (s.line.setRx p ⟨.idle, []⟩)).countFraming p)) ∧
    (4 ≤ ws.length → (ws.headD 0).toNat % 128 = ws.length → ws.getLastD 0 ≠ crc ws.dropLast →
      exec (.frameCheckFailed p ws) s = .next ((s.setLine (s.line.setRx p ⟨.idle, []⟩)).countCrc p)) ∧
    (4 ≤ ws.length → (ws.headD 0).toNat % 128 = ws.length → ws.getLastD 0 = crc ws.dropLast →
      ((ws.headD 0).getLsbD 11 = (p == .a) →
        exec (.frameCheckFailed p ws) s = .next ((s.setLine (s.line.setRx p ⟨.idle, []⟩)).countDirection p)) ∧
      ((ws.headD 0).getLsbD 11 = (p == .b) → exec (.frameCheckFailed p ws) s = .next s))

/-- The table of R44, cell by cell: what a frame-start mark, a word, a frame-end mark, idle fill and a code violation
do to a receiver that is IDLE, RECEIVING or DISCARDING, with the word stored, the 128th word, and the FRAMING errors
counted with the LINE latch. A run of symbols acts symbol by symbol. A frame-end mark that ends a reception is left to
the row of the frame that ends so, and the whole run is then left aside (notes/assumptions/9.md, the model's choice).
DISCARDING_END takes a DISCARDING receiver to IDLE and leaves another as it is (notes/assumptions/1.md, the model's
choice). The table holds also for a receiver that R55 made DISCARDING (notes/assumptions/50.md, the model's choice).
(03_the_chain_line.md R44, R57; notes/assumptions/1.md; notes/assumptions/9.md; notes/assumptions/50.md.) -/
def Obligations.FramingErrorsMoveTheReceiver : Prop :=
  ∀ (s u : State) (p : Port) (w : Word) (x : Symbol) (xs : List Symbol),
    (p = .a ∨ s.phase ≠ .running ∨ s.line.role = .through →
      ((s.line.rx p).state = .idle →
        exec (.framingError p [.frameStart]) s = .next { s with line := s.line.setRx p ⟨.receiving, []⟩ } ∧
        exec (.framingError p [.word w]) s = .next ((s.setLine (s.line.setRx p ⟨.discarding, []⟩)).countFraming p) ∧
        exec (.framingError p [.frameEnd]) s = .next s ∧ exec (.framingError p [.idleFill]) s = .next s ∧
        exec (.framingError p [.codeViolation]) s = .next s) ∧
      ((s.line.rx p).state = .receiving →
        exec (.framingError p [.frameStart]) s =
          .next ((s.setLine (s.line.setRx p ⟨.receiving, []⟩)).countFraming p) ∧
        ((s.line.rx p).buffer.length < 127 → exec (.framingError p [.word w]) s =
          .next { s with line := s.line.setRx p ⟨.receiving, (s.line.rx p).buffer ++ [w]⟩ }) ∧
        (127 ≤ (s.line.rx p).buffer.length → exec (.framingError p [.word w]) s =
          .next ((s.setLine (s.line.setRx p ⟨.discarding, []⟩)).countFraming p)) ∧
        exec (.framingError p [.frameEnd]) s = .next s ∧
        exec (.framingError p [.idleFill]) s = .next ((s.setLine (s.line.setRx p ⟨.idle, []⟩)).countFraming p) ∧
        exec (.framingError p [.codeViolation]) s =
          .next ((s.setLine (s.line.setRx p ⟨.discarding, []⟩)).countFraming p)) ∧
      ((s.line.rx p).state = .discarding →
        exec (.framingError p [.frameStart]) s = .next { s with line := s.line.setRx p ⟨.receiving, []⟩ } ∧
        exec (.framingError p [.word w]) s = .next s ∧
        exec (.framingError p [.frameEnd]) s = .next { s with line := s.line.setRx p ⟨.idle, []⟩ } ∧
        exec (.framingError p [.idleFill]) s = .next { s with line := s.line.setRx p ⟨.idle, []⟩ } ∧
        exec (.framingError p [.codeViolation]) s = .next s) ∧
      s.takeSymbols p [] = some s ∧
      (x ≠ .frameEnd ∨ (s.line.rx p).state ≠ .receiving → exec (.framingError p [x]) s = .next u →
        s.takeSymbols p (x :: xs) = u.takeSymbols p xs) ∧
      ((s.line.rx p).state = .receiving → s.takeSymbols p (.frameEnd :: xs) = none) ∧
      (s.takeSymbols p xs = some u → exec (.framingError p xs) s = .next u) ∧
      (s.takeSymbols p xs = none → exec (.framingError p xs) s = .next s)) ∧
    ((s.line.rx p).state = .discarding →
      exec (.discardingEnd p) s = .next { s with line := s.line.setRx p ⟨.idle, []⟩ }) ∧
    ((s.line.rx p).state ≠ .discarding → exec (.discardingEnd p) s = .next s)

/-- FRAMING_ERROR leaves what a port's receiver makes of a run of symbols. A port going DOWN after such a run changes
its link state, and a receiver that is then RECEIVING records a FRAMING error and becomes IDLE; all of it from any
reset on. In THROUGH past start-up the loss of port B wraps the node: END (wrapped), the outbound queue empty, the
WRAP latch set; a RESET frame discarded with it resets the node at once. A port coming UP changes its link state, and
in END (wrapped) past start-up port B coming UP returns the node to THROUGH, DISCARDING a frame that is arriving,
which the symbols of the command tell. That the symbols come so is the model's choice (notes/assumptions/9.md), and
that a reception which the loss of port B cuts is counted before the node wraps is its reading
(notes/assumptions/10.md). PORT_DOWN on a port that is DOWN and PORT_UP on one that is UP leave the state
(notes/assumptions/1.md, the model's choice). (03_the_chain_line.md R43, R44, R51, R53, R54, R55, R59;
04_node_states_and_commands.md R79; notes/assumptions/9.md; notes/assumptions/10.md; notes/assumptions/1.md.) -/
def Obligations.TheLinkOfPortBMovesTheRole : Prop :=
  (∀ (s t : State) (p : Port) (xs : List Symbol), t = s.listen p xs →
      exec (.framingError p xs) s = .next t ∧
      (s.line.link p = .up →
        (p = .a ∨ s.phase ≠ .running ∨ s.line.role ≠ .through →
          ((t.line.rx p).state ≠ .receiving ∨ (p = .b ∧ s.phase = .running) →
            exec (.portDown p xs) s = .next { t with line := t.line.setLink p .down }) ∧
          ((t.line.rx p).state = .receiving → p = .a ∨ s.phase ≠ .running → exec (.portDown p xs) s =
            .next ((t.setLine ((t.line.setLink p .down).setRx p ⟨.idle, []⟩)).countFraming p))) ∧
        (p = .b → s.phase = .running → s.line.role = .through →
          (s.line.outboundQueue.any QueuedFrame.carriesReset = false →
            ((t.line.rx .b).state ≠ .receiving → exec (.portDown .b xs) s = .next { t with
              line := { t.line with linkB := .down, rxB := ⟨.idle, []⟩, role := .endWrapped, outboundQueue := [] }
              fault := { t.fault with latches := t.fault.latches ||| 2048 } }) ∧
            ((t.line.rx .b).state = .receiving → exec (.portDown .b xs) s = .next (({ t with
              line := { t.line with linkB := .down, rxB := ⟨.idle, []⟩, role := .endWrapped, outboundQueue := [] }
              fault := { t.fault with latches := t.fault.latches ||| 2048 } } : State).countFraming .b))) ∧
          (s.line.outboundQueue.any QueuedFrame.carriesReset = true →
            exec (.portDown .b xs) s = .next (s.doReset .commanded .settling)))) ∧
      (s.line.link p = .down → exec (.portDown p xs) s = .next s)) ∧
  (∀ (s t : State) (p : Port) (xs : List Symbol) (w : Word), t = s.listen p xs →
      (s.line.link p = .down →
        (p = .a ∨ s.phase ≠ .running ∨ s.line.role ≠ .endWrapped →
          exec (.portUp p xs) s = .next { t with line := t.line.setLink p .up }) ∧
        (s.phase = .running → s.line.role = .endWrapped → p = .b →
          exec (.portUp .b xs) s = .next { s with
            line := { s.line with
              linkB := .up, role := .through, rxB := if frameArriving xs then ⟨.discarding, []⟩ else s.line.rxB } })) ∧
      (s.line.link p = .up → exec (.portUp p xs) s = .next s) ∧
      frameArriving [] = false ∧ frameArriving (xs ++ [.frameStart]) = true ∧ frameArriving (xs ++ [.word w]) = true ∧
      frameArriving (xs ++ [.frameEnd]) = false ∧ frameArriving (xs ++ [.idleFill]) = false ∧
      frameArriving (xs ++ [.codeViolation]) = frameArriving xs)

/-- A malformed ROLLCALL is forwarded unchanged with the LINE latch. A node without an address, or below the start
address, forwards the frame. A node whose address is not above that of the last entry sets POSITION. Otherwise the
node appends its entry and raises the count, or, where the frame is full, sets OVERFLOW; the FLAGS bits it does not
set stay as received (notes/assumptions/43.md, the model's choice). The entry's two words hold the fields of R174 at
the places R194 gives. (10_faults_alarms_and_roll_call.md R166, R172, R173, R174; 12_frame_and_record_layouts.md R194;
notes/assumptions/43.md.) -/
def Obligations.RollcallCollectsEntriesInOrder : Prop :=
  (∀ (s : State) (x : Payload) (start count : Word) (entries : List Word), s.phase = .running →
      x.body = [start, count] ++ entries → entries.length ≤ 122 →
      (entries.length ≠ 2 * count.toNat ∨ 61 < count.toNat →
        exec (.rollcall x) s = .next (((s.received .a).latch .line).sendA (payloadFrame x kindRollcall .a))) ∧
      (entries.length = 2 * count.toNat →
        (s.node.address = 0 ∨ s.node.address.toNat < start.toNat % 256 →
          exec (.rollcall x) s = .next ((s.received .a).sendA (payloadFrame x kindRollcall .a))) ∧
        (s.node.address ≠ 0 → start.toNat % 256 ≤ s.node.address.toNat →
          (count ≠ 0 → s.node.address.toNat ≤ (entries.getD (2 * count.toNat - 2) 0).toNat / 256 →
            exec (.rollcall x) s = .next (((s.received .a).latch .position).sendA (payloadFrame x kindRollcall .a))) ∧
          (count = 0 ∨ (entries.getD (2 * count.toNat - 2) 0).toNat / 256 < s.node.address.toNat →
            (count.toNat < 61 → exec (.rollcall x) s = .next ((s.received .a).sendA
              { payloadFrame x kindRollcall .a with body := [start, count + 1] ++ entries ++ s.rollcallEntry })) ∧
            (count.toNat = 61 → exec (.rollcall x) s = .next ((s.received .a).sendA
              { payloadFrame x kindRollcall .a with flags := x.flags ||| 1 })))))) ∧
  (∀ (s : State) (x : Payload), s.phase = .running → x.body.length = 1 →
      exec (.rollcall x) s = .next (((s.received .a).latch .line).sendA (payloadFrame x kindRollcall .a))) ∧
  (∀ s : State,
      s.rollcallEntry.map BitVec.toNat =
        [256 * s.node.address.toNat + 32 * s.node.state.code + 16 * s.alarm.toNat + 8 * (!s.node.causes.isEmpty).toNat +
            4 * (s.line.role == .endWrapped).toNat + 2 * (!s.poss.locks.isEmpty).toNat + s.plan.stagingValid.toNat,
          8192 * s.faces.e.shown.code + 2048 * s.faces.e.state.code + 256 * s.faces.w.shown.code +
            64 * s.faces.w.state.code + 32 * s.faces.e.pending.isSome.toNat + 16 * s.faces.w.pending.isSome.toNat +
            8 * (s.faces.e.latch != .none).toNat + 4 * (s.faces.w.latch != .none).toNat +
            2 * (s.fault.latches.getLsbD 0).toNat + (s.fault.latches.getLsbD 6).toNat] ∧
      (s.alarm = true ↔ s.fault.latches &&& ~~~s.fault.masks ≠ 0) ∧
      (s.node.causes.isEmpty = true ↔ s.node.causes = ⟨false, false, false, false, false⟩))

/-- With a valid site record and a counter of 1-250, UNNUMBERED, NUMBERED and STANDBY take the counter as address, the
other states keep theirs; position-agrees compares the counter with the expected address, and where it is clear
POSITION is set and in SERVICE and HELD the cause arises. A counter of 0 or above 250 takes the address away in
UNNUMBERED, NUMBERED and STANDBY. A node without a valid site record takes the counter without using it up; the others
send it one higher, up to 255. (R70.) -/
def Obligations.EnumerateNumbersTheNode : Prop :=
  (∀ (s : State) (x : Payload) (w : Word) (rest : List Word) (agrees : Bool) (out : Frame), s.phase = .running →
      x.body = w :: rest → rest.length ≤ 123 → 1 ≤ w.toNat % 256 → w.toNat % 256 ≤ 250 →
      out = { payloadFrame x kindEnumerate .a with body := BitVec.ofNat 16 (w.toNat % 256 + 1) :: rest } →
      agrees = decide (w.toNat % 256 = s.store.site.fields.expected) →
      (s.store.site.valid = true →
        (s.node.state = .unnumbered ∨ s.node.state = .numbered ∨ s.node.state = .standby →
          exec (.enumerate x) s = .next (((({ s with node := { s.node with
            state := if s.node.state = .standby then .standby else .numbered
            address := BitVec.ofNat 8 w.toNat, positionAgrees := agrees } } : State).received .a).latchIf (!agrees)
              .position).sendA out)) ∧
        (s.node.state = .failsafe ∨ s.node.state = .maintenance ∨
            ((s.node.state = .service ∨ s.node.state = .held) ∧ agrees = true) →
          exec (.enumerate x) s = .next (((({ s with node := { s.node with positionAgrees := agrees } } :
            State).received .a).latchIf (!agrees) .position).sendA out)) ∧
        ((s.node.state = .service ∨ s.node.state = .held) ∧ agrees = false →
          exec (.enumerate x) s = .next ((((({ s with node := { s.node with positionAgrees := false } } :
            State).received .a).latch .position).enterFailsafe .position).sendA out))) ∧
      (s.store.site.valid = false → s.node.state = .unnumbered ∨ s.node.state = .numbered →
        exec (.enumerate x) s = .next ((({ s with node := { s.node with
          state := .numbered, address := BitVec.ofNat 8 w.toNat, positionAgrees := false } } : State).received .a).sendA
            (payloadFrame x kindEnumerate .a)))) ∧
  (∀ (s : State) (x : Payload) (w : Word) (rest : List Word) (out : Frame), s.phase = .running → x.body = w :: rest →
      rest.length ≤ 123 → w.toNat % 256 = 0 ∨ 250 < w.toNat % 256 →
      out = { payloadFrame x kindEnumerate .a with
        body := if s.store.site.valid then BitVec.ofNat 16 (min 255 (w.toNat % 256 + 1)) :: rest else x.body } →
      (s.node.state = .unnumbered ∨ s.node.state = .numbered ∨ s.node.state = .standby →
        exec (.enumerate x) s = .next (((({ s with node := { s.node with
          state := .unnumbered, address := 0, positionAgrees := false } } : State).received .a).latch .position).sendA
            out)) ∧
      (s.store.site.valid = true → s.node.state = .failsafe ∨ s.node.state = .maintenance →
        exec (.enumerate x) s = .next (((({ s with node := { s.node with positionAgrees := false } } :
          State).received .a).latch .position).sendA out)) ∧
      (s.store.site.valid = true → s.node.state = .service ∨ s.node.state = .held →
        exec (.enumerate x) s = .next ((((({ s with node := { s.node with positionAgrees := false } } :
          State).received .a).latch .position).enterFailsafe .position).sendA out)))

/-- In THROUGH a CLOSEALL on either port raises the cause CLOSE_ALL and is forwarded; at an end node the frame from
port A raises it on each of its two passes and leaves on port A as a return pass. (R72.) -/
def Obligations.CloseAllActsOnEveryPass : Prop :=
  ∀ (s : State) (x : Payload), s.phase = .running → x.wf = true →
    (s.line.role = .through →
      exec (.closeall .a x) s = .next (((s.received .a).arise .closeAll).join .b .a (payloadFrame x kindCloseall .a)) ∧
      exec (.closeall .b x) s = .next (((s.received .b).arise .closeAll).join .a .b (payloadFrame x kindCloseall .b))) ∧
    (s.line.role ≠ .through →
      exec (.closeall .a x) s = .next ((((s.received .a).arise .closeAll).arise .closeAll).join .a .a
        { payloadFrame x kindCloseall .a with pass := .ret }))

/-! ### Commands: judgement and replies -/

/-- Another node's command passes unchanged; an addressed one already answered passes with POSITION; one that is
undefined or that the node state does not accept is silent with ILLEGAL; a form it is not sent in, or too small a
result area, is REFUSED ARGUMENT. A command other than a READ_ or possession command returns a sequence in progress to
NONE and sets SEQUENCE before it is executed. That a RELEASE in FAILSAFE is among the commands that abandon one is the
model's choice between R140 and R161 (notes/assumptions/44.md). (04_node_states_and_commands.md R64, R65, R66, R67;
08_possessions.md R140; notes/assumptions/44.md.) -/
def Obligations.CommandsAreJudgedInOrder : Prop :=
  (∀ (s : State) (i : Instr) (c : Cmd) (x : CommandPayload), commandOf i = some (c, x) → s.phase = .running →
      x.wf = true →
      (s.concernedBy x.target = false →
        exec i s = .next ((s.received .a).sendA (commandFrame (BitVec.ofNat 8 c.row.code) x))) ∧
      (s.concernedBy x.target = true → x.target ≠ 0 → x.body.getLastD 0 ≠ 0 →
        exec i s = .next (((s.received .a).latch .position).sendA (commandFrame (BitVec.ofNat 8 c.row.code) x))) ∧
      (s.concernedBy x.target = true → x.target = 0 ∨ x.body.getLastD 0 = 0 →
        (c.row.states.has s.node.state = false →
          exec i s = .next (((s.received .a).latch .illegal).sendA (commandFrame (BitVec.ofNat 8 c.row.code) x))) ∧
        (c.row.states.has s.node.state = true →
          c.row.form.allows x.target = false ∨ c.roomFor x.target x.body = false →
          exec i s = .next ((s.received .a).sendReply c x (.refused .argument []))))) ∧
  (∀ (s : State) (code : BitVec 8) (x : CommandPayload), s.phase = .running → x.wf = true →
      (Cmd.ofCode code).all (fun c => !c.row.states.has s.node.state) = true →
      (s.concernedBy x.target = true → x.target = 0 ∨ x.body.getLastD 0 = 0 →
        exec (.undefinedCommand code x) s = .next (((s.received .a).latch .illegal).sendA (commandFrame code x))) ∧
      (s.concernedBy x.target = true → x.target ≠ 0 → x.body.getLastD 0 ≠ 0 →
        exec (.undefinedCommand code x) s = .next (((s.received .a).latch .position).sendA (commandFrame code x))) ∧
      (s.concernedBy x.target = false →
        exec (.undefinedCommand code x) s = .next ((s.received .a).sendA (commandFrame code x)))) ∧
  (∀ (s : State) (c : Cmd),
      (c ∈ [Cmd.readIdentity, .readSite, .readStatus, .readFace, .readChannel, .readPlan, .readLocks, .readCounters,
          .possFrom, .possTo, .possExcept, .possApply, .possLift] ∨ s.poss.seq.state = .none →
        s.handed c = s.received .a) ∧
      (c ∉ [Cmd.readIdentity, .readSite, .readStatus, .readFace, .readChannel, .readPlan, .readLocks, .readCounters,
          .possFrom, .possTo, .possExcept, .possApply, .possLift] → s.poss.seq.state ≠ .none →
        s.handed c = { s.received .a with
          poss := { s.poss with seq := ⟨.none, none, none, none, none, []⟩ }
          fault := { s.fault with latches := s.fault.latches ||| 256 } }))

/-- An addressed reply writes its result words and the REPLY word with its outcome and reason. A broadcast reply adds
one to the accept count or, REFUSED or BUSY, to the refuse count, and the first refusal writes its address and its
reason, BUSY as reason 2, into the result word; a count of 255 stays. A node not concerned writes nothing. POSS_FROM,
POSS_TO and POSS_EXCEPT write no result word, on a refusal either (notes/assumptions/48.md, the model's choice between
R69 and R138). (04_node_states_and_commands.md R64, R68, R69; 12_frame_and_record_layouts.md R193;
notes/assumptions/48.md; 08_possessions.md R138.) -/
def Obligations.RepliesAreWrittenAndFolded : Prop :=
  ∀ (c : Cmd) (address : BitVec 8) (args result named ws : List Word) (reply : Word) (why : Reject) (target : BitVec 8),
    args.length = c.row.args → target ≠ 0 → ws.length ≤ result.length →
    named = (if (c = .possFrom ∨ c = .possTo ∨ c = .possExcept) ∨ result.headD 1 ≠ 0 then result
      else BitVec.ofNat 16 (address.toNat * 256 + why.code) :: result.drop 1) →
    answer c target address (args ++ result ++ [reply]) (.done ws) =
      args ++ (ws ++ result.drop ws.length) ++ [0x0100#16] ∧
    answer c target address (args ++ result ++ [reply]) (.refused why ws) =
      args ++ (ws ++ result.drop ws.length) ++ [BitVec.ofNat 16 (0x0300 + why.code)] ∧
    answer c target address (args ++ result ++ [reply]) .busy = args ++ result ++ [0x0200#16] ∧
    (reply.toNat / 256 < 255 →
      answer c 0 address (args ++ result ++ [reply]) (.done ws) = args ++ result ++ [reply + 0x0100#16]) ∧
    (reply.toNat % 256 < 255 →
      answer c 0 address (args ++ result ++ [reply]) (.refused why ws) = args ++ named ++ [reply + 1#16] ∧
      (why.code = 2 → answer c 0 address (args ++ result ++ [reply]) .busy = args ++ named ++ [reply + 1#16])) ∧
    (reply.toNat / 256 = 255 →
      answer c 0 address (args ++ result ++ [reply]) (.done ws) = args ++ result ++ [reply]) ∧
    (reply.toNat % 256 = 255 →
      answer c 0 address (args ++ result ++ [reply]) (.refused why ws) = args ++ named ++ [reply] ∧
      (why.code = 2 → answer c 0 address (args ++ result ++ [reply]) .busy = args ++ named ++ [reply])) ∧
    answer c target address (args ++ result ++ [reply]) .notConcerned = args ++ result ++ [reply] ∧
    answer c 0 address (args ++ result ++ [reply]) .notConcerned = args ++ result ++ [reply]

/-! ### Commands: reads and records -/

/-- Each of the eight READ_ commands, executed, is answered DONE with its result words and leaves every block but the
line as it was. A face, channel, bank or index outside its range is REFUSED ARGUMENT. The result words of each command
hold its records field by field at the places R193 gives, and every code is that of R194. The build bits of
READ_IDENTITY are those of the record also after a failed check (notes/assumptions/47.md), READ_FACE has the five
words of R193 alone (notes/assumptions/41.md), and READ_CHANNEL leaves the measured current of the record
(notes/assumptions/28.md): the model's choices and, the last, its reading. (02_element_outputs.md R23, R40;
07_plan_tables.md R134; 08_possessions.md R148; 10_faults_alarms_and_roll_call.md R166, R170, R171;
11_stored_records_and_start_up.md R177, R180; 01_faces_aspects_and_ranks.md R7; 12_frame_and_record_layouts.md R193,
R194; notes/assumptions/28.md; notes/assumptions/41.md; notes/assumptions/47.md.) -/
def Obligations.ReadsAnswerAndChangeNothing : Prop :=
  (∀ (s : State) (x : CommandPayload) (raw : Nat),
      (s.executes .readIdentity x = true →
        exec (.readIdentity x) s = .next ((s.received .a).sendReply .readIdentity x (.done s.identityWords))) ∧
      (s.executes .readSite x = true →
        exec (.readSite x) s = .next ((s.received .a).sendReply .readSite x (.done s.siteWords))) ∧
      (s.executes .readStatus x = true →
        exec (.readStatus x) s = .next ((s.received .a).sendReply .readStatus x (.done s.statusWords))) ∧
      (s.executes .readFace x = true →
        exec (.readFace x) s = .next ((s.received .a).sendReply .readFace x
          (if x.arg = 1 then .done s.faces.e.words else if x.arg = 2 then .done s.faces.w.words
            else .refused .argument []))) ∧
      (s.executes .readChannel x = true →
        exec (.readChannel x raw) s = .next ((s.received .a).sendReply .readChannel x
          (match Channel.ofNumber x.arg.toNat with
            | some c => .done (s.channelWords raw c)
            | none => .refused .argument []))) ∧
      (s.executes .readPlan x = true →
        exec (.readPlan x) s = .next ((s.received .a).sendReply .readPlan x
          (if 1 ≤ (x.body.getD 1 0).toNat ∧ (x.body.getD 1 0).toNat ≤ 48 then
            if x.arg = 0 then .done (s.planWords s.plan.active false (x.body.getD 1 0).toNat)
            else if x.arg = 1 then .done (s.planWords s.plan.staging s.plan.stagingValid (x.body.getD 1 0).toNat)
            else .refused .argument []
          else .refused .argument []))) ∧
      (s.executes .readLocks x = true →
        exec (.readLocks x) s = .next ((s.received .a).sendReply .readLocks x (.done s.lockWords))) ∧
      (s.executes .readCounters x = true →
        exec (.readCounters x) s = .next ((s.received .a).sendReply .readCounters x (.done
          [satInc s.line.countA.good, s.line.countA.framing, s.line.countA.crc, s.line.countA.direction,
            s.line.countA.overrun, s.line.countA.unknown, s.line.countB.good, s.line.countB.framing, s.line.countB.crc,
            s.line.countB.direction, s.line.countB.overrun, s.line.countB.unknown, s.fault.superseded])))) ∧
  (∀ (s : State) (i : Identity) (x : SiteRecord), i = s.store.identity → x = s.store.site.fields →
      s.identityWords.map BitVec.toNat =
        [i.vendor.toNat, i.part.toNat, i.revision.toNat, i.serial.toNat / 65536, i.serial.toNat % 65536,
          32768 * s.store.identityOk.toNat + 8 * i.build.eDiagL.toNat + 4 * i.build.eDiagR.toNat +
            2 * i.build.wDiagL.toNat + i.build.wDiagR.toNat] ∧
      (x.gantry < 256 → x.lane < 256 → x.width < 256 → x.expected < 256 → x.tHold < 25600 → x.tClose < 256000 →
        x.stall < 256 →
        s.siteWords.map BitVec.toNat =
          [256 * x.gantry + x.lane, 256 * x.width + 2 * x.endFlag.toNat + s.store.site.valid.toNat, x.expected,
            16384 * x.lane1.toNat + 4096 * x.lane2.toNat + 1024 * x.lane3.toNat + 256 * s.store.site.laneType.code +
              s.store.site.vote.code,
            256 * (x.tHold / 100) + x.tClose / 1000, x.stall, x.masks.toNat, x.echo.toNat,
            16384 * s.store.siteImage.state.code + 4096 * s.store.faceImage.state.code +
              1024 * s.store.planImage.state.code + 256 * s.store.lockImage.state.code,
            16384 * s.store.writer.code + s.store.trimsInUse.toNat])) ∧
  (∀ (s : State) (d : FaultDetail),
      s.statusWords.map BitVec.toNat =
        [8192 * s.node.state.code + 4096 * s.node.leaving.toNat + 2048 * s.node.ending.toNat +
            1024 * s.node.positionAgrees.toNat + 256 * s.node.resetCause.code,
          256 * s.node.address.toNat + s.line.role.code,
          32768 * (s.line.linkA == .up).toNat + 16384 * (s.line.linkB == .up).toNat + 4096 * s.sup.loop.code +
            1024 * s.sup.supply.code + 256 * s.sup.timer.code,
          256 * firstCauseCode s.node.firstCause + s.node.causes.closeAll.toNat + 2 * s.node.causes.loop.toNat +
            4 * s.node.causes.silence.toNat + 8 * s.node.causes.supply.toNat + 16 * s.node.causes.position.toNat,
          s.fault.latches.toNat, s.fault.masks.toNat,
          32768 * s.alarm.toNat + 8192 * s.faces.e.latch.code + 2048 * s.faces.w.latch.code +
            1024 * s.faces.e.mergeLost.isSome.toNat + 512 * (s.faces.e.mergeLost == some .right).toNat +
            256 * s.faces.w.mergeLost.isSome.toNat + 128 * (s.faces.w.mergeLost == some .right).toNat] ++
        [s.fault.e.lamp, s.fault.e.mask, s.fault.e.arrow, s.fault.e.diagL, s.fault.e.diagR, s.fault.w.lamp,
          s.fault.w.mask, s.fault.w.arrow, s.fault.w.diagL, s.fault.w.diagR].map (fun x => x.word.toNat) ∧
      (d.count < 256 → d.word.toNat = 4096 * d.kinds.toNat + 512 * d.first.code + d.count)) ∧
  (∀ (s : State) (r : FaceRecord) (f : Face) (k : Shutter) (raw : Nat) (p : ShutterParams),
      (r.env.floor < 4 → r.env.ceiling < 4 → (r.pending.all fun q => q.age < 65536) = true →
        r.words.map BitVec.toNat =
          [8192 * r.shown.code + 2048 * r.state.code + 512 * r.env.floor + 128 * r.env.ceiling + 32 * r.latch.code +
              16 * r.mergeLost.isSome.toNat + 8 * (r.mergeLost == some .right).toNat,
            (match r.change with
              | none => 0
              | some c => 32768 + 4096 * c.src.code + 512 * c.dst.code + (if c.phase = .one then 128 else 256)),
            8192 * r.target.aspect.code + 1024 * r.target.cause.code,
            (match r.pending with
              | none => 0
              | some q => 32768 + 4096 * q.aspect.code + 512 * q.cause.code + 32 * q.reason.code),
            (match r.pending with
              | none => 0
              | some q => q.age)]) ∧
      ((s.config f).lampCurrent < 128 → (s.config f).rampTime < 65536 →
        (s.channelWords raw (.lamp f)).map BitVec.toNat =
          [8192 * (s.lamp f).state.code + 1024 * (s.lamp f).lastFault.code + 512 + 128 * s.store.trimsInUse.toNat,
            s.measureLamp f raw, 256 * (s.config f).lampCurrent, (s.config f).rampTime, 0]) ∧
      (p = (s.config f).params k → p.hit < 128 → p.hold < 128 → p.hitTime < 65536 → p.dipThreshold < 16 →
        p.dipDebounce < 16 → p.settle < 256 →
        (s.channelWords raw (.shutter f k)).map BitVec.toNat =
          [8192 * (s.shutter f k).state.code + 1024 * (s.shutter f k).lastFault.code + 512 * (s.fitted f k).toNat +
              256 * (s.shutter f k).movedSeen.toNat + 128 * s.store.trimsInUse.toNat,
            s.measureShutter f k raw, 256 * p.hit + p.hold, p.hitTime,
            4096 * p.dipThreshold + 256 * p.dipDebounce + p.settle])) ∧
  (∀ (s : State) (b : Bank) (valid : Bool) (first : Nat) (y : PlanEntry) (q : SeqRecord),
      (b.entries.length < 256 → s.plan.session.expected.getD 0 < 64 → s.plan.session.received < 64 →
        (s.planWords b valid first).map BitVec.toNat =
          [256 * b.entries.length + valid.toNat, b.check.toNat,
            16384 * s.plan.session.state.code + 256 * s.plan.session.expected.getD 0 + s.plan.session.received] ++
          [0, 1, 2, 3, 4, 5, 6, 7].map fun n => ((b.entries[first - 1 + n]?).map fun e => e.word.toNat).getD 0) ∧
      (y.plan < 256 → y.word.toNat = 256 * y.plan + 32 * y.e.code + 4 * y.w.code) ∧
      (q = s.poss.seq → s.poss.locks.length < 8 → q.fromGantry.getD 0 < 256 → q.toGantry.getD 0 < 256 →
        q.exceptList.length < 16 → (q.exceptList.all fun g => g < 256) = true →
        (s.poss.locks.all fun l => l.id < 256) = true →
        s.lockWords.map BitVec.toNat =
          [8192 * s.poss.locks.length + 4096 * s.poss.dirty.toNat +
              (match s.store.writer with
                | .lockWriting _ => 2048
                | _ => 0) + q.state.code,
            256 * q.fromGantry.getD 0 + q.toGantry.getD 0,
            256 * (q.laneMask.map BitVec.toNat).getD 0 + 64 * (q.faces.map LockFaces.code).getD 0 + q.exceptList.length] ++
          ([0, 1, 2, 3].map fun n => 256 * q.exceptList.getD (2 * n) 0 + q.exceptList.getD (2 * n + 1) 0) ++
          [0, 1, 2, 3].map fun n => ((s.poss.locks[n]?).map fun l =>
            256 * l.id + 64 * l.faces.code + l.durable.toNat).getD 0)) ∧
  (∀ (n : Nat) (c : StoreCopy) (i : StoreTurn) (j : EraseTurn) (ls : List StoredLock),
    [Aspect.opened, .mergeL, .mergeR, .closed, .dark].map Aspect.code = [1, 2, 3, 4, 5] ∧
    [FaceState.steady, .changing, .returning].map FaceState.code = [0, 1, 2] ∧
    [NodeState.unnumbered, .numbered, .standby, .service, .held, .failsafe, .maintenance].map NodeState.code =
      [0, 1, 2, 3, 4, 5, 6] ∧
    [LockFaces.e, .w, .both].map LockFaces.code = [1, 2, 3] ∧
    [TargetCause.plan, .possession, .merge, .boundary, .leave, .maint].map TargetCause.code = [1, 2, 3, 4, 5, 6] ∧
    [Reason.upstream, .pair, .lane, .possession, .mergeTarget, .downstream, .inChange, .fault].map Reason.code =
      [1, 2, 3, 4, 5, 6, 7, 8] ∧
    [FaceLatch.none, .element, .lamp].map FaceLatch.code = [0, 1, 2] ∧
    [none, some Cause.closeAll, some .loop, some .silence, some .supply, some .position].map firstCauseCode =
      [0, 1, 2, 3, 4, 5] ∧
    [FaultClass.line, .illegal, .element, .lamp, .stall, .merge, .position, .supply, .sequence, .plan, .store,
      .wrap].map FaultClass.index = [0, 1, 2, 3, 4, 5, 6, 7, 8, 9, 10, 11] ∧
    [LaneType.none, .eastOnly, .westOnly, .tidal].map LaneType.code = [0, 1, 2, 3] ∧
    [ShutterState.off, .pulling, .holding, .releasing, .blocked].map ShutterState.code = [0, 1, 2, 3, 4] ∧
    [LampState.off, .ramping, .lit, .blocked].map LampState.code = [0, 1, 2, 4] ∧
    [ChannelFault.none, .notMoved, .holdLost, .notDropped, .overcurrent, .notLit, .lampOpen].map ChannelFault.code =
      [0, 1, 2, 3, 4, 5, 6] ∧
    [ChannelFault.notMoved, .holdLost, .notDropped, .overcurrent, .notLit, .lampOpen].map ChannelFault.kindBit =
      [8, 4, 2, 1, 8, 4] ∧
    [LineRole.through, .endConfigured, .endWrapped].map LineRole.code = [0, 1, 2] ∧
    [LoopState.evaluating, .restored, .opened].map LoopState.code = [0, 1, 2] ∧
    [SupplyState.evaluating, .normal, .low].map SupplyState.code = [0, 1, 2] ∧
    [SilenceTimer.stopped, .holdStage n, .closeStage n].map SilenceTimer.code = [0, 1, 2] ∧
    [ResetCause.powerOn, .supplyDip, .commanded].map ResetCause.code = [1, 2, 3] ∧
    [SessionState.none, .opened, .spoiled].map SessionState.code = [0, 1, 2] ∧
    [SeqState.none, .fromSet, .rangeSet].map SeqState.code = [0, 1, 2] ∧
    [ImageState.invalid, .valid, .erased, .writing].map ImageState.code = [0, 1, 2, 3] ∧
    [Writer.idle, .storing c i, .erasing j, .lockWriting ls].map Writer.code = [0, 1, 2, 3] ∧
    [VoteOutcome.notHeld, .allEqual, .majority, .failed].map VoteOutcome.code = [0, 1, 2, 3] ∧
    (List.range 10).map Channel.ofNumber = [some (.lamp .e), some (.shutter .e .mask), some (.shutter .e .arrow),
      some (.shutter .e .diagL), some (.shutter .e .diagR), some (.lamp .w), some (.shutter .w .mask),
      some (.shutter .w .arrow), some (.shutter .w .diagL), some (.shutter .w .diagR)])

/-- WRITE_SITE is REFUSED MISMATCH for another part echo and ARGUMENT for a field out of range. Accepted, it replaces
the record with all copies equal, sets position-agrees anew and the masks in force, drops the kept entries where the
place changed, and the line role follows a changed end flag before its own frame leaves. Argument bits that no field
names are ignored (notes/assumptions/46.md, the model's choice), and whether a frame is arriving on port B comes with
the command (notes/assumptions/9.md, the model's choice). (11_stored_records_and_start_up.md R179;
04_node_states_and_commands.md R71; 05_the_sweep.md R101; 03_the_chain_line.md R51, R53, R55, R56;
12_frame_and_record_layouts.md R193; notes/assumptions/9.md; notes/assumptions/46.md.) -/
def Obligations.WriteSiteReplacesTheRecord : Prop :=
  ∀ (s u : State) (x : CommandPayload) (arriving : Bool) (y : SiteRecord), s.executes .writeSite x = true →
    (s.store.echoOk x.arg = false →
      exec (.writeSite x arriving) s = .next ((s.handed .writeSite).sendReply .writeSite x (.refused .mismatch []))) ∧
    (s.store.echoOk x.arg = true → (siteOfWords (x.body.take 9)).any SiteRecord.inRange = false →
      exec (.writeSite x arriving) s = .next ((s.handed .writeSite).sendReply .writeSite x (.refused .argument []))) ∧
    (s.store.echoOk x.arg = true → siteOfWords (x.body.take 9) = some y → y.inRange = true →
      u = { s.handed .writeSite with
        store := { s.store with site := ⟨true, y, y.givenType, .allEqual⟩ }
        node := { s.node with
          positionAgrees := s.node.state != .unnumbered && s.node.address.toNat == y.expected }
        sweep :=
          if s.store.site.fields.gantry = y.gantry ∧ s.store.site.fields.lane = y.lane ∧
            s.store.site.fields.width = y.width then s.sweep
          else { s.sweep with downE := none, downW := none, lower := ⟨none, none⟩, upper := ⟨none, none⟩ }
        fault := { (s.handed .writeSite).fault with masks := y.masks } } →
      (y.endFlag = (s.line.role == .endConfigured) →
        exec (.writeSite x arriving) s = .next (u.sendReply .writeSite x (.done []))) ∧
      (y.endFlag = true → s.line.role ≠ .endConfigured →
        exec (.writeSite x arriving) s = .next (({ u with
          line := { u.line with role := .endConfigured, rxB := ⟨.idle, []⟩ } } : State).sendReply .writeSite x
            (.done []))) ∧
      (y.endFlag = false → s.line.role = .endConfigured → s.line.linkB = .up →
        exec (.writeSite x arriving) s = .next (({ u with
          line := { u.line with
            role := .through, rxB := if arriving then ⟨.discarding, []⟩ else u.line.rxB } } : State).sendReply
              .writeSite x (.done []))) ∧
      (y.endFlag = false → s.line.role = .endConfigured → s.line.linkB = .down →
        s.line.outboundQueue.any QueuedFrame.carriesReset = false →
        exec (.writeSite x arriving) s = .next (({ u with
          line := { u.line with role := .endWrapped, rxB := ⟨.idle, []⟩, outboundQueue := [] }
          fault := { u.fault with latches := u.fault.latches ||| 2048 } } : State).sendReply .writeSite x (.done []))))

/-- A field that fails one of the five argument checks is REFUSED ARGUMENT; a face not STEADY CLOSED, with a shutter
not OFF, with a pending target, or a node in FAILSAFE is REFUSED FACE_ACTIVE; otherwise the configuration is replaced,
and a LIT lamp begins its move to a changed lamp current. A lamp current changed during a move starts the move anew
from the setting replaced, and one unchanged leaves the move as it was (notes/assumptions/22.md, the model's reading).
Argument bits that no field names are ignored (notes/assumptions/46.md, the model's choice). (02_element_outputs.md
R26, R36; notes/assumptions/22.md; notes/assumptions/46.md.) -/
def Obligations.WriteFaceNeedsAQuietFace : Prop :=
  ∀ (s : State) (x : CommandPayload) (f : Face) (c : FaceConfig), s.executes .writeFace x = true →
    (faceOfCode x.arg.toNat = none ∨ configOfWords (x.body.take 15) = none →
      exec (.writeFace x) s = .next ((s.handed .writeFace).sendReply .writeFace x (.refused .argument []))) ∧
    (faceOfCode x.arg.toNat = some f → configOfWords (x.body.take 15) = some c →
      ((c.inRange = false ∨
          (∃ k ∈ [Shutter.mask, .arrow, .diagL, .diagR],
            (c.params k).hit < (c.params k).hold ∨ (c.params k).hitTime ≤ (c.params k).dipDebounce) ∨
          (c.diagLFitted = true ∧ s.store.supports f .diagL = false) ∨
          (c.diagRFitted = true ∧ s.store.supports f .diagR = false) ∨
          (c.warning = .mergeL ∧ c.diagLFitted = false) ∨ (c.warning = .mergeR ∧ c.diagRFitted = false)) →
        exec (.writeFace x) s = .next ((s.handed .writeFace).sendReply .writeFace x (.refused .argument []))) ∧
      (¬(c.inRange = false ∨
          (∃ k ∈ [Shutter.mask, .arrow, .diagL, .diagR],
            (c.params k).hit < (c.params k).hold ∨ (c.params k).hitTime ≤ (c.params k).dipDebounce) ∨
          (c.diagLFitted = true ∧ s.store.supports f .diagL = false) ∨
          (c.diagRFitted = true ∧ s.store.supports f .diagR = false) ∨
          (c.warning = .mergeL ∧ c.diagLFitted = false) ∨ (c.warning = .mergeR ∧ c.diagRFitted = false)) →
        ((s.face f).steadyClosed = false ∨ s.allOff f = false ∨ (s.face f).pending ≠ none ∨ s.node.state = .failsafe →
          exec (.writeFace x) s = .next ((s.handed .writeFace).sendReply .writeFace x (.refused .faceActive []))) ∧
        ((s.face f).steadyClosed = true → s.allOff f = true → (s.face f).pending = none → s.node.state ≠ .failsafe →
          exec (.writeFace x) s = .next ((if (s.lamp f).state = .lit ∧ (s.config f).lampCurrent ≠ c.lampCurrent then
              ((s.handed .writeFace).setConfig f c).setLamp f
                { s.lamp f with moveFrom := some (s.config f).lampCurrent }
            else (s.handed .writeFace).setConfig f c).sendReply .writeFace x (.done [])))))

/-- A set beyond the twelve classes is REFUSED ARGUMENT. SET_MASKS puts the set in force and into a valid site record.
CLEAR_FAULTS leaves each unnamed latch, clears each named event class, and leaves each of the six named condition
classes standing exactly where its condition of R169 holds; MERGE by the merge-lost latches as they stood before an
entry to STANDBY that the same command brings about (notes/assumptions/45.md, the model's choice); an empty set clears
nothing. A named BLOCKED channel without current is OFF, one with current stays BLOCKED with its detail set again, and
a face whose latch is cleared follows the table of R20; in MAINTENANCE a DARK face with an active shutter awaits the
relight only where one was asked for (notes/assumptions/20.md, the model's reading).
(10_faults_alarms_and_roll_call.md R166, R167, R168, R169; 02_element_outputs.md R34, R37;
01_faces_aspects_and_ranks.md R20; notes/assumptions/20.md; notes/assumptions/45.md.) -/
def Obligations.MasksAndClearsTakeTwelveClasses : Prop :=
  (∀ (s : State) (x : CommandPayload), s.executes .setMasks x = true →
      (x.arg.toNat < 4096 →
        exec (.setMasks x) s = .next (({ s.handed .setMasks with
          fault := { (s.handed .setMasks).fault with masks := x.arg.setWidth 12 }
          store :=
            if s.store.site.valid then
              { s.store with site := { s.store.site with
                fields := { s.store.site.fields with masks := x.arg.setWidth 12 } } }
            else s.store } : State).sendReply .setMasks x (.done []))) ∧
      (4096 ≤ x.arg.toNat →
        exec (.setMasks x) s = .next ((s.handed .setMasks).sendReply .setMasks x (.refused .argument [])))) ∧
  (∀ (s t : State) (x : CommandPayload) (sense : Sensed) (c : FaultClass), s.executes .clearFaults x = true →
      t = (s.handed .clearFaults).clearFaults (x.arg.setWidth 12) sense →
      (4096 ≤ x.arg.toNat → exec (.clearFaults x sense) s =
        .next ((s.handed .clearFaults).sendReply .clearFaults x (.refused .argument []))) ∧
      (x.arg = 0 →
        exec (.clearFaults x sense) s = .next ((s.handed .clearFaults).sendReply .clearFaults x (.done []))) ∧
      (x.arg ≠ 0 → x.arg.toNat < 4096 →
        exec (.clearFaults x sense) s = .next (t.sendReply .clearFaults x (.done [])) ∧
        (x.arg.getLsbD c.index = false → t.latched c = (s.handed .clearFaults).latched c) ∧
        (x.arg.getLsbD c.index = true →
          (c = .line ∨ c = .illegal ∨ c = .position ∨ c = .sequence ∨ c = .plan ∨ c = .store → t.latched c = false) ∧
          (c = .stall → t.latched c = (t.stalled .e || t.stalled .w)) ∧
          (c = .supply → t.latched c = (s.sup.supply == .low)) ∧
          (c = .wrap → t.latched c = (s.line.role == .endWrapped)) ∧
          (c = .merge → t.latched c = (s.faces.e.mergeLost.isSome || s.faces.w.mergeLost.isSome)) ∧
          (c = .element → t.latched c = (t.anyBlocked .e || t.anyBlocked .w ||
            (s.faces.e.latch == .element && !t.faces.e.steadyClosed) ||
            (s.faces.w.latch == .element && !t.faces.w.steadyClosed))) ∧
          (c = .lamp → t.latched c = ((t.lamp .e).state == .blocked || (t.lamp .w).state == .blocked ||
            (s.faces.e.latch == .lamp && !t.faces.e.steadyClosed) ||
            (s.faces.w.latch == .lamp && !t.faces.w.steadyClosed)))) ∧
        t.phase = s.phase ∧ t.line = (s.received .a).line ∧ t.sweep = s.sweep ∧ t.plan = s.plan ∧ t.store = s.store ∧
        t.poss = (s.handed .clearFaults).poss ∧ t.fault.masks = s.fault.masks ∧ t.fault.superseded = s.fault.superseded)) ∧
  (∀ (s t : State) (x : CommandPayload) (sense : Sensed) (f : Face) (k : Shutter) (now lit : Nat),
      s.executes .clearFaults x = true → x.arg ≠ 0 → x.arg.toNat < 4096 →
      t = (s.handed .clearFaults).clearFaults (x.arg.setWidth 12) sense →
      now = s.measureShutter f k (shutterSense (faceSense sense f) k) → lit = s.measureLamp f (faceSense sense f).lamp →
      (x.arg.getLsbD 2 = false → t.shutter f k = s.shutter f k ∧ (t.details f).shutter k = (s.details f).shutter k) ∧
      (x.arg.getLsbD 2 = true →
        ((s.shutter f k).state = .blocked → now ≠ 0 →
          (t.shutter f k).state = .blocked ∧ (t.shutter f k).lastFault = (s.shutter f k).lastFault ∧
          (t.details f).shutter k = ⟨(s.shutter f k).lastFault.kindBit, (s.shutter f k).lastFault, 1⟩) ∧
        ((s.shutter f k).state ≠ .blocked ∨ now = 0 →
          (t.shutter f k).state = (if (s.shutter f k).state = .blocked then .off else (s.shutter f k).state) ∧
          (t.shutter f k).lastFault = .none ∧ (t.details f).shutter k = ⟨0, .none, 0⟩)) ∧
      (x.arg.getLsbD 3 = false → (t.details f).lamp = (s.details f).lamp ∧
        (t.lamp f).lastFault = (s.lamp f).lastFault) ∧
      (x.arg.getLsbD 3 = true →
        ((s.lamp f).state = .blocked → lit ≠ 0 →
          (t.lamp f).state = .blocked ∧ (t.lamp f).lastFault = (s.lamp f).lastFault ∧
          (t.details f).lamp = ⟨(s.lamp f).lastFault.kindBit, (s.lamp f).lastFault, 1⟩) ∧
        ((s.lamp f).state ≠ .blocked ∨ lit = 0 →
          (t.lamp f).state ≠ .blocked ∧ (t.lamp f).lastFault = .none ∧ (t.details f).lamp = ⟨0, .none, 0⟩)) ∧
      (((s.face f).latch = .element ∧ x.arg.getLsbD 2 = true) ∨ ((s.face f).latch = .lamp ∧ x.arg.getLsbD 3 = true) →
        ((s.face f).steadyDark = false →
          t.face f = { s.face f with latch := .none, mergeLost := (t.face f).mergeLost }) ∧
        ((s.face f).steadyDark = true →
          (t.anyBlocked f = true → (t.face f).steadyDark = true ∧ (t.face f).latch = .element ∧
            ((t.lamp f).state = .off ∨ (t.lamp f).state = .blocked)) ∧
          (t.anyBlocked f = false → (t.lamp f).state = .blocked →
            (t.face f).steadyDark = true ∧ (t.face f).latch = .lamp) ∧
          (t.allOff f = true → (t.lamp f).state ≠ .blocked → (t.face f).latch = .none ∧
            ((s.lamp f).state = .lit → (t.face f).steadyClosed = true ∧ (t.lamp f).state = .lit) ∧
            ((s.lamp f).state ≠ .lit → (t.lamp f).state = .ramping ∧ (t.face f).state = .changing ∧
              (t.face f).change = some ⟨.dark, .closed, .one⟩ ∧ (t.face f).env = ⟨0, 2⟩)) ∧
          (t.anyBlocked f = false → t.allOff f = false → (t.lamp f).state ≠ .blocked →
            (t.face f).steadyDark = true ∧ (t.face f).latch = .none ∧
            (t.face f).relightAwaited =
              ((s.face f).relightAwaited || s.node.state != .maintenance || s.node.ending)))) ∧
      (¬(((s.face f).latch = .element ∧ x.arg.getLsbD 2 = true) ∨
          ((s.face f).latch = .lamp ∧ x.arg.getLsbD 3 = true)) →
        t.face f = { s.face f with mergeLost := (t.face f).mergeLost }))

/-! ### Commands: plan tables and the store -/

/-- LOAD_BEGIN with a count of 1-48 empties STAGING and opens a session in every session state; another count is
REFUSED ARGUMENT. LOAD_END without an open session is REFUSED SPOILED, short of the count REFUSED COUNT, with another
check value REFUSED CHECK, both spoiling the session; otherwise STAGING is VALID, and in a node whose ACTIVE is empty
the banks are exchanged at once. (R124; R127; R190.) -/
def Obligations.ALoadSessionFillsStaging : Prop :=
  (∀ (s : State) (x : CommandPayload), s.executes .loadBegin x = true →
      (1 ≤ x.arg.toNat → x.arg.toNat ≤ 48 →
        exec (.loadBegin x) s = .next (({ s.handed .loadBegin with plan := { s.plan with
          staging := ⟨[], 0xFFFF#16⟩, stagingValid := false
          session := ⟨.opened, some x.arg.toNat, 0⟩ } } : State).sendReply .loadBegin x (.done []))) ∧
      (x.arg.toNat = 0 ∨ 48 < x.arg.toNat →
        exec (.loadBegin x) s = .next ((s.handed .loadBegin).sendReply .loadBegin x (.refused .argument [])))) ∧
  (∀ (s : State) (x : CommandPayload), s.executes .loadEnd x = true →
      (s.plan.session.state ≠ .opened →
        exec (.loadEnd x) s = .next ((s.handed .loadEnd).sendReply .loadEnd x (.refused .spoiled []))) ∧
      (s.plan.session.state = .opened →
        (s.plan.session.received < s.plan.session.expected.getD 0 →
          exec (.loadEnd x) s = .next (({ s.handed .loadEnd with plan := { s.plan with
            session := { s.plan.session with state := .spoiled } } } : State).sendReply .loadEnd x
              (.refused .count [BitVec.ofNat 16 s.plan.session.received]))) ∧
        (s.plan.session.expected.getD 0 ≤ s.plan.session.received → s.plan.staging.check ≠ x.arg →
          exec (.loadEnd x) s = .next (({ s.handed .loadEnd with plan := { s.plan with
            session := { s.plan.session with state := .spoiled } } } : State).sendReply .loadEnd x
              (.refused .check [s.plan.staging.check]))) ∧
        (s.plan.session.expected.getD 0 ≤ s.plan.session.received → s.plan.staging.check = x.arg →
          (s.plan.active.entries ≠ [] →
            exec (.loadEnd x) s = .next (({ s.handed .loadEnd with plan := { s.plan with
              stagingValid := true
              session := ⟨.none, none, s.plan.session.received⟩ } } : State).sendReply .loadEnd x
                (.done [s.plan.staging.check]))) ∧
          (s.plan.active.entries = [] →
            exec (.loadEnd x) s = .next (({ s.handed .loadEnd with plan :=
              { active := s.plan.staging, staging := s.plan.active, stagingValid := false
                session := ⟨.none, none, s.plan.session.received⟩ } } : State).sendReply .loadEnd x
                  (.done [s.plan.staging.check]))))))

/-- An entry passes exactly when its plan number, its aspects, the lane type, the fitted shutters and the carriageway
allow it. Each entry is tested for the count, then for the entry checks, then for its plan number against the entry
before it. A block is tested from its first entry to its last, each against the plan number of the one before, and
fails at its first failing entry. A block whose entries all pass is appended whole; one that fails is refused at its
first failing entry and spoils the session; a bad entry count is REFUSED ARGUMENT, and without an open session the
block is REFUSED SPOILED. (07_plan_tables.md R122, R125, R126; 12_frame_and_record_layouts.md R193.) -/
def Obligations.LoadBlockAppendsOrSpoils : Prop :=
  (∀ (s : State) (w : Word) (a b : Aspect),
      (Aspect.ofCode (w.toNat / 32 % 8) = none ∨ Aspect.ofCode (w.toNat / 4 % 8) = none → s.entryOf w = none) ∧
      (Aspect.ofCode (w.toNat / 32 % 8) = some a → Aspect.ofCode (w.toNat / 4 % 8) = some b →
        (1 ≤ w.toNat / 256 ∧ w.toNat / 256 ≤ 250 ∧ a ≠ .dark ∧ b ≠ .dark ∧
            ¬(a.permissive = true ∧ b.permissive = true) ∧
            (a = .closed ∨ s.laneType.allows .e = true) ∧ (b = .closed ∨ s.laneType.allows .w = true) ∧
            s.canShow .e a = true ∧ s.canShow .w b = true →
          s.entryOf w = some ⟨w.toNat / 256, a, b⟩) ∧
        (¬(1 ≤ w.toNat / 256 ∧ w.toNat / 256 ≤ 250 ∧ a ≠ .dark ∧ b ≠ .dark ∧
            ¬(a.permissive = true ∧ b.permissive = true) ∧
            (a = .closed ∨ s.laneType.allows .e = true) ∧ (b = .closed ∨ s.laneType.allows .w = true) ∧
            s.canShow .e a = true ∧ s.canShow .w b = true) →
          s.entryOf w = none))) ∧
  (∀ (s : State) (expected received index p : Nat) (w : Word) (y : PlanEntry),
      (expected < received + index →
        s.checkEntry expected received index none w = .error .count ∧
          s.checkEntry expected received index (some p) w = .error .count) ∧
      (received + index ≤ expected →
        (s.entryOf w = none →
          s.checkEntry expected received index none w = .error .entry ∧
            s.checkEntry expected received index (some p) w = .error .entry) ∧
        (s.entryOf w = some y →
          s.checkEntry expected received index none w = .ok y ∧
          (y.plan = p → s.checkEntry expected received index (some p) w = .error .duplicate) ∧
          (y.plan < p → s.checkEntry expected received index (some p) w = .error .order) ∧
          (p < y.plan → s.checkEntry expected received index (some p) w = .ok y)))) ∧
  (∀ (s : State) (expected received index i : Nat) (prev : Option Nat) (w : Word) (ws : List Word) (y : PlanEntry)
      (es : List PlanEntry) (why : Reject),
      s.checkBlock expected received index prev [] = .taken [] ∧
      (s.checkEntry expected received index prev w = .error why →
        s.checkBlock expected received index prev (w :: ws) = .failed why index) ∧
      (s.checkEntry expected received index prev w = .ok y →
        (s.checkBlock expected received (index + 1) (some y.plan) ws = .taken es →
          s.checkBlock expected received index prev (w :: ws) = .taken (y :: es)) ∧
        (s.checkBlock expected received (index + 1) (some y.plan) ws = .failed why i →
          s.checkBlock expected received index prev (w :: ws) = .failed why i))) ∧
  (∀ (s : State) (x : CommandPayload) (es : List PlanEntry) (why : Reject) (i : Nat), s.executes .loadBlock x = true →
      (x.arg.toNat = 0 ∨ 8 < x.arg.toNat →
        exec (.loadBlock x) s = .next ((s.handed .loadBlock).sendReply .loadBlock x (.refused .argument []))) ∧
      (1 ≤ x.arg.toNat → x.arg.toNat ≤ 8 →
        (s.plan.session.state ≠ .opened →
          exec (.loadBlock x) s = .next ((s.handed .loadBlock).sendReply .loadBlock x (.refused .spoiled []))) ∧
        (s.plan.session.state = .opened →
          (s.checkBlock (s.plan.session.expected.getD 0) s.plan.session.received 1 s.plan.staging.lastPlan
              ((x.body.drop 1).take x.arg.toNat) = .taken es →
            exec (.loadBlock x) s = .next (({ s.handed .loadBlock with plan := { s.plan with
                staging := ⟨s.plan.staging.entries ++ es, bankCheck (s.plan.staging.entries ++ es)⟩
                session := { s.plan.session with received := s.plan.session.received + x.arg.toNat } } } : State).sendReply
              .loadBlock x (.done [BitVec.ofNat 16 (s.plan.session.received + x.arg.toNat)]))) ∧
          (s.checkBlock (s.plan.session.expected.getD 0) s.plan.session.received 1 s.plan.staging.lastPlan
              ((x.body.drop 1).take x.arg.toNat) = .failed why i →
            exec (.loadBlock x) s = .next (({ s.handed .loadBlock with plan := { s.plan with
                session := { s.plan.session with state := .spoiled } } } : State).sendReply
              .loadBlock x (.refused why [twoBytes i (s.plan.session.received + i)]))))))

/-- Without a VALID STAGING SWAP is REFUSED SPOILED, with the writer at work it is BUSY, and otherwise it exchanges
the banks with their check values and leaves STAGING VALID unless ACTIVE was empty. (R129; R130.) -/
def Obligations.SwapExchangesTheBanks : Prop :=
  ∀ (s : State) (x : CommandPayload), s.executes .swap x = true →
    (s.plan.stagingValid = false →
      exec (.swap x) s = .next ((s.handed .swap).sendReply .swap x (.refused .spoiled []))) ∧
    (s.plan.stagingValid = true → s.store.writer ≠ .idle →
      exec (.swap x) s = .next ((s.handed .swap).sendReply .swap x .busy)) ∧
    (s.plan.stagingValid = true → s.store.writer = .idle →
      exec (.swap x) s = .next (({ s.handed .swap with plan :=
        { active := s.plan.staging, staging := s.plan.active, stagingValid := !s.plan.active.entries.isEmpty
          session := s.plan.session } } : State).sendReply .swap x (.done [])))

/-- STORE and ERASE_STORE begin on an idle writer and are BUSY otherwise. A STORE takes the site image (if the record
was valid at its copy), the face-configuration image and the plan image in turn, an erase the site and the plan image.
When the writer has finished it is IDLE, or goes on to a lock-table write where the dirty flag is set. A completed
lock-table write makes durable the locks that stood in its copy. (11_stored_records_and_start_up.md R181, R182, R183,
R184; 08_possessions.md R146.) -/
def Obligations.TheWriterTakesTheImagesInTurn : Prop :=
  (∀ (s : State) (x : CommandPayload),
      (s.executes .store x = true → s.store.writer ≠ .idle →
        exec (.store x) s = .next ((s.handed .store).sendReply .store x .busy)) ∧
      (s.executes .eraseStore x = true → s.store.writer ≠ .idle →
        exec (.eraseStore x) s = .next ((s.handed .eraseStore).sendReply .eraseStore x .busy)) ∧
      (s.executes .store x = true → s.store.writer = .idle → s.store.site.valid = true →
        exec (.store x) s = .next (({ s.handed .store with store := { s.store with
          writer := .storing ⟨some s.store.site.fields, ⟨s.elem.cfgE, s.elem.cfgW⟩, s.plan.active.entries⟩ .site
          siteImage := ⟨.writing, none, false, false⟩ } } : State).sendReply .store x (.done []))) ∧
      (s.executes .store x = true → s.store.writer = .idle → s.store.site.valid = false →
        exec (.store x) s = .next (({ s.handed .store with store := { s.store with
          writer := .storing ⟨none, ⟨s.elem.cfgE, s.elem.cfgW⟩, s.plan.active.entries⟩ .faceConfig
          faceImage := ⟨.writing, none, false, false⟩ } } : State).sendReply .store x (.done []))) ∧
      (s.executes .eraseStore x = true → s.store.writer = .idle →
        exec (.eraseStore x) s = .next (({ s.handed .eraseStore with store := { s.store with
          writer := .erasing .site, siteImage := ⟨.erased, none, false, false⟩ } } : State).sendReply .eraseStore x
            (.done [])))) ∧
  (∀ (s : State) (c : StoreCopy) (r : SiteRecord) (ls : List StoredLock), s.poss.dirty = false →
      (s.store.writer = .storing c .site → c.site = some r →
        exec .storeImageDone s = .next { s with store := { s.store with
          writer := .storing c .faceConfig, siteImage := ⟨.valid, some r, true, true⟩
          faceImage := ⟨.writing, none, false, false⟩ } }) ∧
      (s.store.writer = .storing c .faceConfig →
        exec .storeImageDone s = .next { s with store := { s.store with
          writer := .storing c .plan, faceImage := ⟨.valid, some c.cfg, true, true⟩
          planImage := ⟨.writing, none, false, false⟩ } }) ∧
      (s.store.writer = .storing c .plan →
        exec .storeImageDone s = .next { s with store := { s.store with
          writer := .idle, planImage := ⟨.valid, some c.active, true, true⟩ } }) ∧
      (s.store.writer = .erasing .site →
        exec .eraseImageDone s = .next { s with store := { s.store with
          writer := .erasing .plan, planImage := ⟨.erased, none, false, false⟩ } }) ∧
      (s.store.writer = .erasing .plan →
        exec .eraseImageDone s = .next { s with store := { s.store with writer := .idle } }) ∧
      (s.store.writer = .lockWriting ls →
        exec .lockWriteDone s = .next { s with
          store := { s.store with writer := .idle, lockImage := ⟨.valid, some ls, true, true⟩ }
          poss := { s.poss with
            locks := s.poss.locks.map fun l => ⟨l.id, l.faces, l.durable || l.inCopy, false⟩ } })) ∧
  (∀ (s : State) (c : StoreCopy) (ls : List StoredLock), s.poss.dirty = true →
      (s.store.writer = .storing c .plan →
        exec .storeImageDone s = .next { s with
          store := { s.store with
            planImage := ⟨.valid, some c.active, true, true⟩, lockImage := ⟨.writing, none, false, false⟩
            writer := .lockWriting (s.poss.locks.map fun l => ⟨l.id, l.faces⟩) }
          poss := { s.poss with
            dirty := false, locks := s.poss.locks.map fun l => ⟨l.id, l.faces, l.durable, true⟩ } }) ∧
      (s.store.writer = .erasing .plan →
        exec .eraseImageDone s = .next { s with
          store := { s.store with
            lockImage := ⟨.writing, none, false, false⟩
            writer := .lockWriting (s.poss.locks.map fun l => ⟨l.id, l.faces⟩) }
          poss := { s.poss with
            dirty := false, locks := s.poss.locks.map fun l => ⟨l.id, l.faces, l.durable, true⟩ } }) ∧
      (s.store.writer = .lockWriting ls →
        exec .lockWriteDone s = .next { s with
          store := { s.store with
            lockImage := ⟨.writing, none, false, false⟩
            writer := .lockWriting (s.poss.locks.map fun l => ⟨l.id, l.faces⟩) }
          poss := { s.poss with
            dirty := false
            locks := s.poss.locks.map fun l => ⟨l.id, l.faces, l.durable || l.inCopy, true⟩ } }))

/-! ### Commands: node states -/

/-- COMMISSION is REFUSED with the reason of its first failing check of five: POSITION, VOTE, NO_TABLE, POSITION,
STATE_CAUSE. Otherwise the node is in STANDBY and the reply is DONE. (R73.) -/
def Obligations.CommissionTestsInOrder : Prop :=
  ∀ (s : State) (x : CommandPayload), s.executes .commission x = true →
    exec (.commission x) s = .next (
      if s.store.site.valid = false then (s.handed .commission).sendReply .commission x (.refused .position [])
      else if s.store.site.laneType = .none then (s.handed .commission).sendReply .commission x (.refused .vote [])
      else if s.plan.active.entries = [] then (s.handed .commission).sendReply .commission x (.refused .noTable [])
      else if s.node.positionAgrees = false then
        (s.handed .commission).sendReply .commission x (.refused .position [])
      else if s.node.causes ≠ ⟨false, false, false, false, false⟩ then
        (s.handed .commission).sendReply .commission x (.refused .stateCause [])
      else
        ({ s.handed .commission with
          node := { s.node with state := .standby, leaving := false, ending := false }
          sup := { s.sup with timer := .stopped, releaseAll := false }
          faces := ⟨{ s.faces.e with mergeLost := none }, { s.faces.w with mergeLost := none }⟩ } : State).sendReply
            .commission x (.done []))

/-- ENTER_SERVICE is REFUSED POSITION or NO_TABLE, or enters SERVICE with LEAVING clear and T_HOLD started.
LEAVE_SERVICE sets LEAVING, and in SERVICE with both faces STEADY CLOSED and nothing pending the node is in STANDBY at
once. The node's tests, which every report and every sweep pass end with, take a node in SERVICE with LEAVING set,
both faces STEADY CLOSED and nothing pending, and a node in MAINTENANCE with the ending flag set and both faces STEADY
CLOSED, to STANDBY with both flags clear, the timer STOPPED, release-all withdrawn and both merge-lost latches clear;
any other node they leave as it is. (04_node_states_and_commands.md R74, R75, R77, R78;
09_forced_closure_and_silence.md R154, R156; 06_gating_and_the_change_wave.md R117.) -/
def Obligations.ServiceIsEnteredAndLeft : Prop :=
  (∀ (s : State) (x : CommandPayload), s.executes .enterService x = true →
      (s.node.positionAgrees = false →
        exec (.enterService x) s = .next ((s.handed .enterService).sendReply .enterService x (.refused .position []))) ∧
      (s.node.positionAgrees = true → s.plan.active.entries = [] →
        exec (.enterService x) s = .next ((s.handed .enterService).sendReply .enterService x (.refused .noTable []))) ∧
      (s.node.positionAgrees = true → s.plan.active.entries ≠ [] →
        exec (.enterService x) s = .next (({ s.handed .enterService with
          node := { s.node with state := .service, leaving := false }
          sup := { s.sup with
            timer := .holdStage (if s.store.site.valid then s.store.site.fields.tHold else 1000) } } : State).sendReply
              .enterService x (.done [])))) ∧
  (∀ (s : State) (x : CommandPayload), s.executes .leaveService x = true →
      ((s.node.state = .held ∨ s.bothClosed = false ∨ s.nothingPending = false) →
        exec (.leaveService x) s = .next (({ s.handed .leaveService with
          node := { s.node with leaving := true } } : State).sendReply .leaveService x (.done []))) ∧
      (s.node.state = .service → s.bothClosed = true → s.nothingPending = true →
        exec (.leaveService x) s = .next (({ s.handed .leaveService with
          node := { s.node with state := .standby, leaving := false, ending := false }
          sup := { s.sup with timer := .stopped, releaseAll := false }
          faces := ⟨{ s.faces.e with mergeLost := none }, { s.faces.w with mergeLost := none }⟩ } : State).sendReply
            .leaveService x (.done [])))) ∧
  (∀ s : State,
      (s.bothClosed = true ↔ s.faces.e.state = .steady ∧ s.faces.e.shown = .closed ∧ s.faces.w.state = .steady ∧
        s.faces.w.shown = .closed) ∧
      (s.nothingPending = true ↔ s.faces.e.pending = none ∧ s.faces.w.pending = none) ∧
      ((s.node.state = .service ∧ s.node.leaving = true ∧ s.bothClosed = true ∧ s.nothingPending = true) ∨
          (s.node.state = .maintenance ∧ s.node.ending = true ∧ s.bothClosed = true) →
        s.nodeTests = { s with
          node := { s.node with state := .standby, leaving := false, ending := false }
          sup := { s.sup with timer := .stopped, releaseAll := false }
          faces := ⟨{ s.faces.e with mergeLost := none }, { s.faces.w with mergeLost := none }⟩ }) ∧
      (¬(s.node.state = .service ∧ s.node.leaving = true ∧ s.bothClosed = true ∧ s.nothingPending = true) →
        ¬(s.node.state = .maintenance ∧ s.node.ending = true ∧ s.bothClosed = true) → s.nodeTests = s))

/-- RELEASE empties the cause set where the loop is RESTORED, the supply NORMAL, position-agrees set and the sweep
recency, counted up to the command (notes/assumptions/3.md), at most T_HOLD; it takes a node in FAILSAFE to STANDBY
with release-all withdrawn. Where a condition fails, and where no valid pass has come since the reset, it is REFUSED
STATE_CAUSE and the set is kept. It abandons a sequence in progress first, as every command that is neither a READ_
nor a possession command (notes/assumptions/44.md, the model's choice between R140 and R161).
(09_forced_closure_and_silence.md R153, R160; 04_node_states_and_commands.md R78; notes/assumptions/3.md;
notes/assumptions/44.md.) -/
def Obligations.ReleaseNeedsAllFourConditions : Prop :=
  (∀ (s : State) (x : CommandPayload) (elapsed age : Nat), s.executes .release x = true → s.sup.recency = some age →
      ((s.sup.loop = .restored ∧ s.sup.supply = .normal ∧ s.node.positionAgrees = true ∧ age + elapsed ≤ s.tHold) →
        (s.node.state = .failsafe →
          exec (.release x elapsed) s = .next (({ s.handed .release with
            node := { s.node with
              state := .standby, leaving := false, ending := false, causes := ⟨false, false, false, false, false⟩
              firstCause := none }
            sup := { s.sup with recency := some (age + elapsed), timer := .stopped, releaseAll := false }
            faces := ⟨{ s.faces.e with mergeLost := none }, { s.faces.w with mergeLost := none }⟩ } : State).sendReply
              .release x (.done []))) ∧
        (s.node.state ≠ .failsafe →
          exec (.release x elapsed) s = .next (({ s.handed .release with
            node := { s.node with causes := ⟨false, false, false, false, false⟩, firstCause := none }
            sup := { s.sup with recency := some (age + elapsed) } } : State).sendReply .release x (.done [])))) ∧
      (¬(s.sup.loop = .restored ∧ s.sup.supply = .normal ∧ s.node.positionAgrees = true ∧ age + elapsed ≤ s.tHold) →
        exec (.release x elapsed) s = .next (({ s.handed .release with
          sup := { s.sup with recency := some (age + elapsed) } } : State).sendReply .release x
            (.refused .stateCause [])))) ∧
  (∀ (s : State) (x : CommandPayload) (elapsed : Nat), s.executes .release x = true → s.sup.recency = none →
      exec (.release x elapsed) s = .next ((s.handed .release).sendReply .release x (.refused .stateCause [])))

/-- MAINTAIN moves the node to MAINTENANCE. END_MAINTAIN with both faces STEADY CLOSED moves it to STANDBY, and a
second one starts nothing. It acts on face E and then on face W: a STEADY CLOSED face is left, any other takes the
target CLOSED with cause MAINT at once (notes/assumptions/19.md, notes/assumptions/40.md, the model's reading and
choice), and a STEADY one starts its change to CLOSED. So a permissive one starts its change; a CHANGING or RETURNING
one goes on, and a change to a permissive aspect that then ends starts the change to CLOSED, as a change to DARK that
then ends starts the relight; a DARK one with an active shutter has its driven shutters released and waits, with a
shutter BLOCKED stays DARK with latch ELEMENT, or with LAMP where it held LAMP and no tested shutter was released for
its wait (notes/assumptions/33.md, the model's reading), and with all OFF relights, is CLOSED at once under a LIT lamp
and DARK with latch LAMP under a BLOCKED one. MOVED takes the highest of the held peak and its two samples as the
running peak (notes/assumptions/17.md, the model's choice). (04_node_states_and_commands.md R76, R77;
01_faces_aspects_and_ranks.md R12, R13, R14, R15, R19, R21; 02_element_outputs.md R28, R29, R35, R37, R39;
notes/assumptions/17.md; notes/assumptions/19.md; notes/assumptions/33.md; notes/assumptions/40.md.) -/
def Obligations.EndMaintainClosesTheFaces : Prop :=
  (∀ (s : State) (x : CommandPayload),
      (s.executes .maintain x = true →
        exec (.maintain x) s = .next (({ s.handed .maintain with
          node := { s.node with state := .maintenance } } : State).sendReply .maintain x (.done []))) ∧
      (s.executes .endMaintain x = true → s.node.ending = true →
        exec (.endMaintain x) s = .next ((s.handed .endMaintain).sendReply .endMaintain x (.done []))) ∧
      (s.executes .endMaintain x = true → s.node.ending = false → s.bothClosed = true →
        exec (.endMaintain x) s = .next (({ s.handed .endMaintain with
          node := { s.node with state := .standby, leaving := false, ending := false }
          sup := { s.sup with timer := .stopped, releaseAll := false }
          faces := ⟨{ s.faces.e with mergeLost := none }, { s.faces.w with mergeLost := none }⟩ } : State).sendReply
            .endMaintain x (.done []))) ∧
      (s.executes .endMaintain x = true → s.node.ending = false → s.faces.w.steadyClosed = true →
        s.faces.e.state = .steady → s.faces.e.shown.permissive = true →
        exec (.endMaintain x) s = .next ((({ s.handed .endMaintain with
          node := { s.node with ending := true }
          faces := ⟨{ s.faces.e with
            state := .changing, env := ⟨s.faces.e.rank, 2⟩, change := some ⟨s.faces.e.shown, .closed, .one⟩
            target := ⟨.closed, .maint⟩ }, s.faces.w⟩ } : State).releaseShutter .e .mask).sendReply .endMaintain x
              (.done [])))) ∧
  (∀ (s t u : State) (x : CommandPayload) (f : Face),
      (s.executes .endMaintain x = true → s.node.ending = false →
        t = { s.handed .endMaintain with node := { s.node with ending := true } } →
        exec (.endMaintain x) s = .next ((((t.endFace .e).endFace .w).nodeTests).sendReply .endMaintain x (.done []))) ∧
      ((u.face f).state = .steady → (u.face f).shown = .closed → u.endFace f = u) ∧
      ((u.face f).state = .steady → (u.face f).shown ≠ .closed →
        u.endFace f = (u.setFace f { u.face f with target := ⟨.closed, .maint⟩ }).beginChange f .closed) ∧
      ((u.face f).state ≠ .steady → u.endFace f = u.setFace f { u.face f with target := ⟨.closed, .maint⟩ })) ∧
  (∀ (s t : State) (x : CommandPayload) (f : Face),
      s.executes .endMaintain x = true → s.node.ending = false → (s.face (otherFace f)).steadyClosed = true →
      (s.face f).steadyClosed = false →
      t = { s.handed .endMaintain with node := { s.node with ending := true } } →
      ((s.face f).state = .steady → (s.face f).shown.permissive = true →
        exec (.endMaintain x) s = .next (((t.setFace f { s.face f with
            state := .changing, env := ⟨(s.face f).shown.rank.getD 0, 2⟩
            change := some ⟨(s.face f).shown, .closed, .one⟩, target := ⟨.closed, .maint⟩ }).releaseShutter f
              .mask).sendReply .endMaintain x (.done []))) ∧
      ((s.face f).state ≠ .steady →
        exec (.endMaintain x) s = .next ((t.setFace f { s.face f with target := ⟨.closed, .maint⟩ }).sendReply
          .endMaintain x (.done []))) ∧
      ((s.face f).steadyDark = true →
        ((∃ k ∈ [Shutter.mask, .arrow, .diagL, .diagR], (s.shutter f k).active = true) →
          exec (.endMaintain x) s = .next (((t.setFace f { s.face f with
            target := ⟨.closed, .maint⟩, relightAwaited := true
            testedWait := (s.face f).testedWait || s.anyDriven f }).releaseDriven f).sendReply .endMaintain x
              (.done []))) ∧
        ((∀ k : Shutter, (s.shutter f k).active = false) → (∃ k ∈ [Shutter.mask, .arrow, .diagL, .diagR],
            (s.shutter f k).state = .blocked) →
          exec (.endMaintain x) s = .next ((t.setFace f { s.face f with
            target := ⟨.closed, .maint⟩, relightAwaited := false, testedWait := false
            latch := if (s.face f).latch = .lamp ∧ (s.face f).testedWait = false then .lamp else .element }).sendReply
              .endMaintain x (.done []))) ∧
        ((∀ k : Shutter, (s.shutter f k).state = .off) →
          ((s.lamp f).state = .off →
            exec (.endMaintain x) s = .next (((t.setFace f { s.face f with
              state := .changing, env := ⟨0, 2⟩, change := some ⟨.dark, .closed, .one⟩
              target := ⟨.closed, .maint⟩, relightAwaited := false, testedWait := false }).setLamp f { s.lamp f with
                state := .ramping, timer := some (s.config f).rampTime }).sendReply .endMaintain x (.done []))) ∧
          ((s.lamp f).state = .ramping →
            exec (.endMaintain x) s = .next ((t.setFace f { s.face f with
              state := .changing, env := ⟨0, 2⟩, change := some ⟨.dark, .closed, .one⟩
              target := ⟨.closed, .maint⟩, relightAwaited := false, testedWait := false }).sendReply .endMaintain x (.done []))) ∧
          ((s.lamp f).state = .lit → (s.face f).pending = none →
            exec (.endMaintain x) s = .next ((({ t with
              node := { s.node with state := .standby, leaving := false, ending := false }
              sup := { s.sup with timer := .stopped, releaseAll := false } } : State).setFace (otherFace f)
                { s.face (otherFace f) with mergeLost := none }).setFace f { s.face f with
                  shown := .closed, state := .steady, env := ⟨2, 2⟩, change := none, target := ⟨.closed, .maint⟩
                  mergeLost := none, relightAwaited := false, testedWait := false }
              |>.sendReply .endMaintain x (.done []))) ∧
          ((s.lamp f).state = .blocked → (s.face f).pending = none →
            exec (.endMaintain x) s = .next (((t.setFace f { s.face f with
              env := ⟨0, 2⟩, change := none, latch := .lamp, target := ⟨.closed, .maint⟩
              relightAwaited := false, testedWait := false }).reportLamp f (s.lamp f).lastFault).sendReply .endMaintain x (.done [])))))) ∧
  (∀ (s : State) (f : Face) (k : Shutter) (a b : Aspect) (raw rawPeak rawNow peak rank : Nat),
      s.node.state = .maintenance → s.node.ending = true → (s.face f).state = .changing → b.permissive = true →
      b.rank = some rank → (s.face f).pending = none →
      ((s.face f).change = some ⟨.closed, b, .two⟩ → (s.shutter f .mask).state = .pulling →
        (s.shutter f .mask).movedSeen = false →
        peak = max (max ((s.shutter f .mask).peak.getD 0) (s.measureShutter f .mask rawPeak))
          (s.measureShutter f .mask rawNow) →
        s.measureShutter f .mask rawNow + (s.config f).mask.dipThreshold < peak →
        exec (.moved f .mask rawPeak rawNow) s = .next
          (((s.setShutter f .mask { s.shutter f .mask with
              measured := s.measureShutter f .mask rawNow, movedSeen := true, peak := some peak }).setFace f
            { s.face f with
              shown := b, env := ⟨rank, 2⟩, change := some ⟨b, .closed, .one⟩ }).releaseShutter f .mask)) ∧
      ((s.face f).change = some ⟨a, b, .two⟩ → a.symbol = some k → (s.shutter f k).state = .releasing →
        s.measureShutter f k raw = 0 →
        exec (.dropped f k raw) s = .next
          (((s.setShutter f k { s.shutter f k with
              state := .off, measured := 0, peak := none, timer := none }).setFace f
            { s.face f with
              shown := b, env := ⟨rank, 2⟩, change := some ⟨b, .closed, .one⟩ }).releaseShutter f .mask))) ∧
  (∀ (s t : State) (f : Face) (k : Shutter) (a : Aspect) (raw : Nat),
      s.node.state = .maintenance → s.node.ending = true → (s.face f).state = .changing →
      (s.face f).change = some ⟨a, .dark, .one⟩ → (s.face f).pending = none → (s.shutter f k).state = .releasing →
      s.measureShutter f k raw = 0 →
      t = s.setShutter f k { s.shutter f k with state := .off, measured := 0, peak := none, timer := none } →
      (t.allOff f = true → (s.lamp f).state ≠ .blocked →
        exec (.dropped f k raw) s = .next ((t.setFace f { s.face f with
          shown := .dark, state := .changing, env := ⟨0, 2⟩, change := some ⟨.dark, .closed, .one⟩
          relightAwaited := false, testedWait := false }).setLamp f { s.lamp f with
            state := .ramping, timer := some (s.config f).rampTime, moveFrom := none })) ∧
      (t.allOff f = true → (s.lamp f).state = .blocked →
        exec (.dropped f k raw) s = .next ((t.setFace f { s.face f with
          shown := .dark, state := .steady, env := ⟨0, 2⟩, change := none, latch := .lamp
          relightAwaited := false, testedWait := false }).reportLamp f (s.lamp f).lastFault)) ∧
      (t.quiet f = true → t.anyBlocked f = true →
        exec (.dropped f k raw) s = .next ((t.lampOff f).setFace f { s.face f with
          shown := .dark, state := .steady, env := ⟨0, 2⟩, change := none, latch := .element
          relightAwaited := false, testedWait := false })))

/-- A RESET is answered DONE and its frame joins the queue marked, so that the reset comes when it has been sent;
where the queue is full the reset comes at once. (04_node_states_and_commands.md R79; 03_the_chain_line.md R49.) -/
def Obligations.ResetWaitsForItsFrame : Prop :=
  ∀ (s : State) (x : CommandPayload), s.executes .reset x = true → s.line.resetWaits = false →
    (s.line.role = .through → s.line.outboundQueue.length < 2 →
      exec (.reset x) s = .next { s.handed .reset with line := { (s.received .a).line with
        outboundQueue := s.line.outboundQueue ++ [⟨((commandFrame 0x36#8 x).answered .reset x.target s.node.address
          (.done [])).wire, true⟩] } }) ∧
    (s.line.role ≠ .through → s.line.returnQueue.length < 2 →
      exec (.reset x) s = .next { s.handed .reset with line := { (s.received .a).line with
        returnQueue := s.line.returnQueue ++ [⟨({ (commandFrame 0x36#8 x).answered .reset x.target s.node.address
          (.done []) with pass := .ret } : Frame).wire, true⟩] } }) ∧
    ((s.line.role = .through ∧ 2 ≤ s.line.outboundQueue.length) ∨
        (s.line.role ≠ .through ∧ 2 ≤ s.line.returnQueue.length) →
      exec (.reset x) s = .next (s.doReset .commanded .settling))

/-! ### Commands: maintenance -/

/-- FACE_SET with a bad code is REFUSED ARGUMENT, with the ending flag set REFUSED BUSY, in this order
(notes/assumptions/42.md, the model's choice), and otherwise answered by the first row of the face's table;
FACE_SET(DARK) on a DARK face that awaits its relight is DONE and leaves the wait standing (notes/assumptions/34.md,
the model's reading). Where no row applies the target is stored with cause MAINT (notes/assumptions/19.md, the model's
reading) and the change starts: the change record at step 1 with its envelope, and the first request. A pull on a
BLOCKED shutter reports its fault again and abandons the change, RETURNING or, with no shutter active, CLOSED or DARK
at once. A change to DARK with no shutter active is complete at once, its lamp off. A DARK face asked to CLOSED
releases its driven shutters and waits, stays DARK under a BLOCKED shutter with latch ELEMENT, or with LAMP where it
held LAMP and no tested shutter was released for its wait (notes/assumptions/33.md, the model's reading), or, with all
OFF, relights: CLOSED at once under a LIT lamp, DARK with latch LAMP under a BLOCKED one.
(01_faces_aspects_and_ranks.md R5, R9, R10, R12, R13, R14, R16, R17, R19, R21; 02_element_outputs.md R28, R34, R35,
R37, R39; 04_node_states_and_commands.md R76; notes/assumptions/19.md; notes/assumptions/33.md;
notes/assumptions/34.md; notes/assumptions/42.md.) -/
def Obligations.FaceSetStartsAChange : Prop :=
  (∀ (s : State) (x : CommandPayload) (f : Face) (a : Aspect), s.executes .faceSet x = true →
      (faceOfCode (x.arg.toNat / 256) = none ∨ Aspect.ofCode (x.arg.toNat % 256) = none →
        exec (.faceSet x) s = .next ((s.handed .faceSet).sendReply .faceSet x (.refused .argument []))) ∧
      (faceOfCode (x.arg.toNat / 256) = some f → Aspect.ofCode (x.arg.toNat % 256) = some a →
        (s.node.ending = true →
          exec (.faceSet x) s = .next ((s.handed .faceSet).sendReply .faceSet x (.refused .busy []))) ∧
        (s.node.ending = false →
          exec (.faceSet x) s = .next (
            if (s.face f).state ≠ .steady then (s.handed .faceSet).sendReply .faceSet x (.refused .busy [])
            else if (s.face f).shown = a then (s.handed .faceSet).sendReply .faceSet x (.done [])
            else if (s.face f).shown = .dark ∧ a.permissive = true then
              (s.handed .faceSet).sendReply .faceSet x (.refused .argument [])
            else if (a = .mergeL ∧ s.fitted f .diagL = false) ∨ (a = .mergeR ∧ s.fitted f .diagR = false) then
              (s.handed .faceSet).sendReply .faceSet x (.refused .argument [])
            else if a.permissive = true ∧ s.covered f = true then
              (s.handed .faceSet).sendReply .faceSet x (.refused .locked [])
            else if a.permissive = true ∧ (s.face f).shown = .closed ∧
                (s.face (otherFace f)).steadyClosed = false then
              (s.handed .faceSet).sendReply .faceSet x (.refused .pair [])
            else
              (((s.handed .faceSet).setFace f { s.face f with target := ⟨a, .maint⟩ }).beginChange f a).sendReply
                .faceSet x (.done []))))) ∧
  (∀ (s : State) (f : Face) (k : Shutter) (a : Aspect),
      (a.symbol = some k → s.sup.releaseAll = false →
        ((s.shutter f k).state = .off →
          s.beginChange f a =
            (s.setFace f { s.face f with
              state := .changing, env := changeEnv (s.face f).shown a
              change := some ⟨(s.face f).shown, a, .one⟩ }).setShutter f k { s.shutter f k with
                state := .pulling, movedSeen := false, peak := some (s.shutter f k).measured
                timer := some ((s.config f).params k).hitTime }) ∧
        ((s.shutter f k).state = .pulling ∨ (s.shutter f k).state = .holding ∨ (s.shutter f k).state = .releasing →
          s.beginChange f a = s.setFace f { s.face f with
            state := .changing, env := changeEnv (s.face f).shown a
            change := some ⟨(s.face f).shown, a, .one⟩ })) ∧
      ((s.face f).shown.permissive = true →
        s.beginChange f .closed =
          (s.setFace f { s.face f with
            state := .changing, env := ⟨(s.face f).shown.rank.getD 0, 2⟩
            change := some ⟨(s.face f).shown, .closed, .one⟩ }).releaseShutter f .mask) ∧
      (s.quiet f = false →
        s.beginChange f .dark =
          (s.setFace f { s.face f with
            state := .changing, env := ⟨0, 2⟩, change := some ⟨(s.face f).shown, .dark, .one⟩ }).releaseDriven f) ∧
      (s.quiet f = true → (s.face f).pending = none → ¬(s.node.state = .maintenance ∧ s.node.ending = true) →
        s.beginChange f .dark = (s.lampOff f).setFace f { s.face f with
          shown := .dark, state := .steady, env := ⟨0, 2⟩, change := none
          latch := if s.anyBlocked f = true then .element else (s.face f).latch })) ∧
  (∀ (s t : State) (f : Face) (k : Shutter) (a : Aspect),
      a.symbol = some k → (s.shutter f k).state = .blocked → s.sup.releaseAll = false → (s.face f).shown ≠ .dark →
      t = s.reportShutter f k (s.shutter f k).lastFault →
      (s.quiet f = false →
        s.beginChange f a = (t.setFace f { s.face f with
          state := .returning, env := ⟨(changeEnv (s.face f).shown a).floor, 2⟩, change := none
          latch := if (s.face f).latch = .none then .element else (s.face f).latch
          pending := (s.face f).pending.map fun p => { p with reason := .inChange } }).releaseDriven f) ∧
      (s.quiet f = true → s.anyNotDropped f = false →
        s.beginChange f a = t.setFace f { s.face f with
          shown := .closed, state := .steady, env := ⟨2, 2⟩, change := none
          latch := if (s.face f).latch = .none then .element else (s.face f).latch
          pending := (s.face f).pending.map fun p => { p with reason := .fault } }) ∧
      (s.quiet f = true → s.anyNotDropped f = true →
        s.beginChange f a = (t.lampOff f).setFace f { s.face f with
          shown := .dark, state := .steady, env := ⟨0, 2⟩, change := none
          latch := if (s.face f).latch = .lamp then .lamp else .element
          pending := (s.face f).pending.map fun p => { p with reason := .fault } })) ∧
  (∀ (s : State) (f : Face), (s.face f).steadyDark = true →
      (s.quiet f = false → s.beginChange f .closed =
        (s.setFace f { s.face f with
          relightAwaited := true, testedWait := (s.face f).testedWait || s.anyDriven f }).releaseDriven f) ∧
      (s.quiet f = true → s.anyBlocked f = true → s.beginChange f .closed =
        s.setFace f { s.face f with
          latch := if (s.face f).latch = .lamp ∧ (s.face f).testedWait = false then .lamp else .element
          relightAwaited := false, testedWait := false }) ∧
      (s.allOff f = true →
        ((s.lamp f).state = .off → s.beginChange f .closed =
          (s.setFace f { s.face f with
            state := .changing, env := ⟨0, 2⟩, change := some ⟨.dark, .closed, .one⟩
            relightAwaited := false, testedWait := false }).setLamp f { s.lamp f with
              state := .ramping, timer := some (s.config f).rampTime }) ∧
        ((s.lamp f).state = .ramping → s.beginChange f .closed =
          s.setFace f { s.face f with
            state := .changing, env := ⟨0, 2⟩, change := some ⟨.dark, .closed, .one⟩, relightAwaited := false, testedWait := false }) ∧
        ((s.lamp f).state = .lit → (s.face f).pending = none → s.beginChange f .closed =
          s.setFace f { s.face f with
            shown := .closed, state := .steady, env := ⟨2, 2⟩, change := none, relightAwaited := false, testedWait := false }) ∧
        ((s.lamp f).state = .blocked → s.beginChange f .closed =
          (s.setFace f { s.face f with
            env := ⟨0, 2⟩, change := none, latch := .lamp, relightAwaited := false, testedWait := false
            pending := (s.face f).pending.map fun p => { p with reason := .fault } }).reportLamp f
              (s.lamp f).lastFault)))

/-- An unknown action or channel and an unfitted shutter are REFUSED ARGUMENT, the ending flag gives BUSY, after the
action's check and before the channel's (notes/assumptions/42.md, the model's choice), a face not STEADY DARK
FACE_ACTIVE, a pull beside an active face PAIR; otherwise the request acts on its channel: taken or without effect it
is DONE, refused it is REFUSED BUSY. A release takes a PULLING or HOLDING shutter to RELEASING with the settle timer
started and touches no other; a lamp-off takes a lamp that is not BLOCKED to OFF. (01_faces_aspects_and_ranks.md R16,
R19; 02_element_outputs.md R28, R32, R34, R35, R37, R39; 04_node_states_and_commands.md R76; notes/assumptions/42.md.)
-/
def Obligations.ElementTestNeedsADarkFace : Prop :=
  (∀ (s : State) (x : CommandPayload) (c : Channel) (f : Face) (k : Shutter), s.executes .elementTest x = true →
      (2 < x.arg.toNat % 256 ∨ x.arg.toNat % 256 = 0 →
        exec (.elementTest x) s = .next ((s.handed .elementTest).sendReply .elementTest x (.refused .argument []))) ∧
      (x.arg.toNat % 256 = 1 ∨ x.arg.toNat % 256 = 2 → s.node.ending = true →
        exec (.elementTest x) s = .next ((s.handed .elementTest).sendReply .elementTest x (.refused .busy []))) ∧
      (x.arg.toNat % 256 = 1 ∨ x.arg.toNat % 256 = 2 → s.node.ending = false →
        (9 < x.arg.toNat / 256 →
          exec (.elementTest x) s = .next ((s.handed .elementTest).sendReply .elementTest x (.refused .argument []))) ∧
        (Channel.ofNumber (x.arg.toNat / 256) = some (.shutter f k) → s.fitted f k = false →
          exec (.elementTest x) s = .next ((s.handed .elementTest).sendReply .elementTest x (.refused .argument []))) ∧
        (Channel.ofNumber (x.arg.toNat / 256) = some c → s.channelFitted c = true → (s.face c.face).steadyDark = false →
          exec (.elementTest x) s = .next ((s.handed .elementTest).sendReply .elementTest x (.refused .faceActive []))) ∧
        (Channel.ofNumber (x.arg.toNat / 256) = some c → s.channelFitted c = true → (s.face c.face).steadyDark = true →
          x.arg.toNat % 256 = 1 → (s.face (otherFace c.face)).steadyAside = false →
          exec (.elementTest x) s = .next ((s.handed .elementTest).sendReply .elementTest x (.refused .pair []))) ∧
        (Channel.ofNumber (x.arg.toNat / 256) = some (.shutter f k) → s.fitted f k = true → (s.face f).steadyDark = true →
          (s.face f).relightAwaited = false → x.arg.toNat % 256 = 1 → (s.face (otherFace f)).steadyAside = true →
          s.sup.releaseAll = false →
          ((s.shutter f k).state = .off →
            exec (.elementTest x) s = .next (((s.handed .elementTest).setShutter f k { s.shutter f k with
              state := .pulling, movedSeen := false, peak := some (s.shutter f k).measured
              timer := some ((s.config f).params k).hitTime }).sendReply .elementTest x (.done []))) ∧
          ((s.shutter f k).state = .pulling ∨ (s.shutter f k).state = .holding →
            exec (.elementTest x) s = .next ((s.handed .elementTest).sendReply .elementTest x (.done []))) ∧
          ((s.shutter f k).state = .releasing →
            exec (.elementTest x) s = .next ((s.handed .elementTest).sendReply .elementTest x (.refused .busy []))) ∧
          ((s.shutter f k).state = .blocked →
            exec (.elementTest x) s = .next ((((s.handed .elementTest).reportShutter f k (s.shutter f k).lastFault).setFace
              f { s.face f with latch := if (s.face f).latch = .none then .element else (s.face f).latch }).sendReply
                .elementTest x (.refused .busy [])))))) ∧
  (∀ (s : State) (x : CommandPayload) (f : Face) (k : Shutter), s.executes .elementTest x = true →
      s.node.ending = false → (s.face f).steadyDark = true → (s.face f).relightAwaited = false →
      (Channel.ofNumber (x.arg.toNat / 256) = some (.shutter f k) → s.fitted f k = true → x.arg.toNat % 256 = 2 →
        exec (.elementTest x) s = .next (((s.handed .elementTest).releaseShutter f k).sendReply .elementTest x
          (.done []))) ∧
      (Channel.ofNumber (x.arg.toNat / 256) = some (.lamp f) →
        (x.arg.toNat % 256 = 2 →
          exec (.elementTest x) s = .next (((s.handed .elementTest).lampOff f).sendReply .elementTest x (.done []))) ∧
        (x.arg.toNat % 256 = 1 → (s.face (otherFace f)).steadyAside = true →
          ((s.lamp f).state = .off →
            exec (.elementTest x) s = .next (((s.handed .elementTest).setLamp f { s.lamp f with
              state := .ramping, timer := some (s.config f).rampTime }).sendReply .elementTest x (.done []))) ∧
          ((s.lamp f).state = .ramping ∨ (s.lamp f).state = .lit →
            exec (.elementTest x) s = .next ((s.handed .elementTest).sendReply .elementTest x (.done []))) ∧
          ((s.lamp f).state = .blocked →
            exec (.elementTest x) s = .next ((((s.handed .elementTest).reportLamp f (s.lamp f).lastFault).lampFault
              f).sendReply .elementTest x (.refused .busy [])))))) ∧
  (∀ (s : State) (f g : Face) (k j : Shutter),
      (s.releaseDriven f).shutter g j =
        (if g = f ∧ ((s.shutter f j).state = .pulling ∨ (s.shutter f j).state = .holding) then
          { s.shutter f j with
            state := .releasing, peak := none, timer := some ((s.config f).params j).settle
            movedSeen := (s.shutter f j).movedSeen && (s.shutter f j).state == .holding }
        else s.shutter g j) ∧
      (s.releaseDriven f).lamp g = s.lamp g ∧ (s.releaseDriven f).face g = s.face g ∧
      (s.releaseShutter f k).shutter g j =
        (if g = f ∧ j = k ∧ ((s.shutter f k).state = .pulling ∨ (s.shutter f k).state = .holding) then
          { s.shutter f k with
            state := .releasing, peak := none, timer := some ((s.config f).params k).settle
            movedSeen := (s.shutter f k).movedSeen && (s.shutter f k).state == .holding }
        else s.shutter g j) ∧
      (s.releaseShutter f k).lamp g = s.lamp g ∧ (s.releaseShutter f k).face g = s.face g ∧
      (s.lampOff f).lamp g =
        (if g = f ∧ (s.lamp f).state ≠ .blocked then { s.lamp f with state := .off, timer := none, moveFrom := none }
        else s.lamp g) ∧
      (s.lampOff f).shutter g j = s.shutter g j ∧ (s.lampOff f).face g = s.face g)

/-! ### Commands: possessions -/

/-- A step whose arguments fail is REFUSED ARGUMENT and leaves the record. POSS_FROM, POSS_TO and POSS_EXCEPT in place
record their arguments and are DONE. A step out of place sets SEQUENCE, returns the record to NONE and is REFUSED
SEQUENCE. What a refusal writes into the frame, and that these steps write no result word (notes/assumptions/48.md,
the model's choice), RepliesAreWrittenAndFolded states. (08_possessions.md R137, R138; notes/assumptions/48.md.) -/
def Obligations.PossessionStepsBuildTheRecord : Prop :=
  (∀ (s : State) (x : CommandPayload) (fs : LockFaces) (g0 : Nat),
      (s.executes .possFrom x = true →
        (LockFaces.ofCode (x.body.getD 1 0).toNat = none ∨ x.arg.toNat / 256 = 0 ∨ 64 < x.arg.toNat / 256 ∨
            x.arg.toNat % 256 = 0 →
          exec (.possFrom x) s = .next ((s.received .a).sendReply .possFrom x (.refused .argument []))) ∧
        (LockFaces.ofCode (x.body.getD 1 0).toNat = some fs → 1 ≤ x.arg.toNat / 256 → x.arg.toNat / 256 ≤ 64 →
          x.arg.toNat % 256 ≠ 0 → s.poss.seq.state = .none →
          exec (.possFrom x) s = .next (({ s.received .a with poss := { s.poss with
            seq := ⟨.fromSet, some (x.arg.toNat / 256), some (BitVec.ofNat 8 x.arg.toNat), some fs, none, []⟩ } } :
              State).sendReply .possFrom x (.done [])))) ∧
      (s.executes .possTo x = true →
        (x.arg.toNat = 0 ∨ 64 < x.arg.toNat →
          exec (.possTo x) s = .next ((s.received .a).sendReply .possTo x (.refused .argument []))) ∧
        (1 ≤ x.arg.toNat → x.arg.toNat ≤ 64 → s.poss.seq.state = .fromSet → s.poss.seq.fromGantry = some g0 →
          g0 ≤ x.arg.toNat →
          exec (.possTo x) s = .next (({ s.received .a with poss := { s.poss with
            seq := { s.poss.seq with state := .rangeSet, toGantry := some x.arg.toNat } } } : State).sendReply .possTo x
              (.done [])))) ∧
      (s.executes .possExcept x = true →
        (x.arg.toNat = 0 ∨ 64 < x.arg.toNat →
          exec (.possExcept x) s = .next ((s.received .a).sendReply .possExcept x (.refused .argument []))) ∧
        (1 ≤ x.arg.toNat → x.arg.toNat ≤ 64 → s.poss.seq.state = .rangeSet →
          (x.arg.toNat ∈ s.poss.seq.exceptList →
            exec (.possExcept x) s = .next ((s.received .a).sendReply .possExcept x (.done []))) ∧
          (x.arg.toNat ∉ s.poss.seq.exceptList → s.poss.seq.exceptList.length < 8 →
            exec (.possExcept x) s = .next (({ s.received .a with poss := { s.poss with
              seq := { s.poss.seq with exceptList := s.poss.seq.exceptList ++ [x.arg.toNat] } } } : State).sendReply
                .possExcept x (.done [])))))) ∧
  (∀ (s t : State) (x : CommandPayload) (g0 : Nat),
      t = { s.received .a with
        poss := { s.poss with seq := ⟨.none, none, none, none, none, []⟩ }
        fault := { s.fault with latches := s.fault.latches ||| 256 } } →
      (s.executes .possFrom x = true → LockFaces.ofCode (x.body.getD 1 0).toNat ≠ none → 1 ≤ x.arg.toNat / 256 →
        x.arg.toNat / 256 ≤ 64 → x.arg.toNat % 256 ≠ 0 → s.poss.seq.state ≠ .none →
        exec (.possFrom x) s = .next (t.sendReply .possFrom x (.refused .sequence []))) ∧
      (s.executes .possTo x = true → 1 ≤ x.arg.toNat → x.arg.toNat ≤ 64 →
        s.poss.seq.state ≠ .fromSet ∨ (s.poss.seq.fromGantry = some g0 ∧ x.arg.toNat < g0) →
        exec (.possTo x) s = .next (t.sendReply .possTo x (.refused .sequence []))) ∧
      (s.executes .possExcept x = true → 1 ≤ x.arg.toNat → x.arg.toNat ≤ 64 →
        s.poss.seq.state ≠ .rangeSet ∨ (x.arg.toNat ∉ s.poss.seq.exceptList ∧ 8 ≤ s.poss.seq.exceptList.length) →
        exec (.possExcept x) s = .next (t.sendReply .possExcept x (.refused .sequence []))) ∧
      (s.executes .possApply x = true → 1 ≤ x.arg.toNat → x.arg.toNat ≤ 15 → s.poss.seq.state ≠ .rangeSet →
        exec (.possApply x) s = .next (t.sendReply .possApply x (.refused .sequence []))))

/-- POSS_APPLY in RANGE_SET returns the record to NONE. A node not concerned writes nothing, one that holds the id or
four locks refuses, and otherwise the lock stands last in the table, not durable, with the dirty flag set or the write
begun. Each face it newly covers takes the target CLOSED with cause POSSESSION at once: in SERVICE and HELD nothing is
pending on a face that is CLOSED or on its way there, and on another CLOSED is pending, with reason FAULT on a DARK
one (notes/assumptions/16.md, the model's reading where its latch is NONE), with its age kept beside a pending CLOSED
and a pending target of another aspect counted as superseded; elsewhere the pending target stays. A face that another
lock covers already, or that the lock does not cover, keeps both, and no face starts a change. (08_possessions.md
R139, R142, R143, R146; 01_faces_aspects_and_ranks.md R8; 06_gating_and_the_change_wave.md R107;
notes/assumptions/16.md.) -/
def Obligations.PossApplyAppendsALock : Prop :=
  (∀ (s t : State) (x : CommandPayload), s.executes .possApply x = true →
      t = (s.received .a).applyLock x.arg.toNat (s.poss.seq.faces.getD .both) →
      (x.arg.toNat = 0 ∨ 15 < x.arg.toNat →
        exec (.possApply x) s = .next ((s.received .a).sendReply .possApply x (.refused .argument []))) ∧
      (1 ≤ x.arg.toNat → x.arg.toNat ≤ 15 → s.poss.seq.state = .rangeSet →
        (s.possConcerned = false →
          exec (.possApply x) s = .next (({ s.received .a with
            poss := { s.poss with seq := ⟨.none, none, none, none, none, []⟩ } } : State).sendA
              (commandFrame 0x43#8 x))) ∧
        (s.possConcerned = true → (∃ l ∈ s.poss.locks, l.id = x.arg.toNat) →
          exec (.possApply x) s = .next (({ s.received .a with
            poss := { s.poss with seq := ⟨.none, none, none, none, none, []⟩ } } : State).sendReply .possApply x
              (.refused .lockId []))) ∧
        (s.possConcerned = true → (∀ l ∈ s.poss.locks, l.id ≠ x.arg.toNat) → 4 ≤ s.poss.locks.length →
          exec (.possApply x) s = .next (({ s.received .a with
            poss := { s.poss with seq := ⟨.none, none, none, none, none, []⟩ } } : State).sendReply .possApply x
              (.refused .lockFull []))) ∧
        (s.possConcerned = true → (∀ l ∈ s.poss.locks, l.id ≠ x.arg.toNat) → s.poss.locks.length < 4 →
          exec (.possApply x) s = .next (t.sendReply .possApply x (.done [])) ∧
            t.poss.seq = ⟨.none, none, none, none, none, []⟩ ∧
            t.poss.locks.map (fun l => (l.id, l.faces, l.durable)) =
              s.poss.locks.map (fun l => (l.id, l.faces, l.durable)) ++
                [(x.arg.toNat, s.poss.seq.faces.getD .both, false)] ∧
            t.poss.dirty = (s.store.writer != .idle) ∧
            t.store = (if s.store.writer = .idle then
                { s.store with
                  writer := .lockWriting (t.poss.locks.map fun l => ⟨l.id, l.faces⟩)
                  lockImage := ⟨.writing, none, false, false⟩ }
              else s.store) ∧
            t.phase = s.phase ∧ t.line = (s.received .a).line ∧ t.elem = s.elem ∧ t.plan = s.plan ∧
            t.sweep = s.sweep ∧ t.fault.latches = s.fault.latches ∧ t.fault.masks = s.fault.masks ∧
            (s.node.leaving = false → s.node.ending = false → t.node = s.node ∧ t.sup = s.sup)))) ∧
  (∀ (s t : State) (x : CommandPayload) (f : Face) (why : Reason) (reached : Bool) (drop : Face → Bool),
      s.executes .possApply x = true → 1 ≤ x.arg.toNat → x.arg.toNat ≤ 15 → s.poss.seq.state = .rangeSet →
      s.possConcerned = true → (∀ l ∈ s.poss.locks, l.id ≠ x.arg.toNat) → s.poss.locks.length < 4 →
      (∀ g : Face, drop g = ((s.poss.seq.faces.getD .both).covers g && !s.covered g &&
        (s.node.state == .service || s.node.state == .held) && (s.face g).pending.any fun p =>
          match (s.face g).state with
          | .steady => !((s.face g).shown == .closed) && p.aspect != .closed
          | .changing => (s.face g).change.any (fun c => c.dst == .closed) || p.aspect != .closed
          | .returning => true)) →
      reached = (match (s.face f).state with
        | .steady => (s.face f).shown == .closed
        | .changing => (s.face f).change.any fun c => c.dst == .closed
        | .returning => true) →
      why = (if (s.face f).state ≠ .steady then .inChange
        else if (s.face f).latch ≠ .none ∨ (s.face f).shown = .dark then .fault else .upstream) →
      t = (s.received .a).applyLock x.arg.toNat (s.poss.seq.faces.getD .both) →
        exec (.possApply x) s = .next (t.sendReply .possApply x (.done [])) ∧
        ((s.poss.seq.faces.getD .both).covers f = false ∨ s.covered f = true →
          (t.face f).target = (s.face f).target ∧ (t.face f).pending = (s.face f).pending) ∧
        ((s.poss.seq.faces.getD .both).covers f = true → s.covered f = false →
          (t.face f).target = ⟨.closed, .possession⟩ ∧
          (s.node.state ≠ .service → s.node.state ≠ .held → (t.face f).pending = (s.face f).pending) ∧
          (s.node.state = .service ∨ s.node.state = .held →
            (t.face f).pending =
              if reached = true then none
              else match (s.face f).pending with
                | none => some ⟨.closed, .possession, 0, why⟩
                | some p =>
                  if p.aspect = .closed then some ⟨.closed, .possession, p.age, p.reason⟩
                  else some ⟨.closed, .possession, 0, why⟩)) ∧
        t.fault.superseded.toNat =
          min 65535 (s.fault.superseded.toNat + (drop .e).toNat + (drop .w).toNat) ∧
        (t.face f).shown = (s.face f).shown ∧ (t.face f).state = (s.face f).state ∧ (t.face f).env = (s.face f).env ∧
        (t.face f).change = (s.face f).change ∧ (t.face f).latch = (s.face f).latch ∧
        (t.face f).relightAwaited = (s.face f).relightAwaited ∧ (t.face f).testedWait = (s.face f).testedWait) ∧
  (∀ (s : State) (f : Face),
      (s.node.state ≠ .service → s.node.state ≠ .held →
        s.coverNew f false = if s.covered f then s.setFace f { s.face f with target := ⟨.closed, .possession⟩ } else s) ∧
      (s.node.state = .service ∨ s.node.state = .held → s.covered f = true →
        ((s.face f).steadyClosed = true → s.coverNew f false =
          s.setFace f { s.face f with target := ⟨.closed, .possession⟩, pending := none }) ∧
        ((s.face f).state = .steady → (s.face f).shown.permissive = true → (s.face f).latch = .none →
          (s.face f).pending = none → s.coverNew f false =
            s.setFace f { s.face f with
              target := ⟨.closed, .possession⟩, pending := some ⟨.closed, .possession, 0, .upstream⟩ }) ∧
        ((s.face f).steadyDark = true → (s.face f).pending = none → s.coverNew f false =
          s.setFace f { s.face f with
            target := ⟨.closed, .possession⟩, pending := some ⟨.closed, .possession, 0, .fault⟩ })) ∧
      s.coverNew f true = s)

/-- An id outside 1-15 is REFUSED ARGUMENT. A lock of that id leaves the table, with the dirty flag set or the write
begun. With the lock absent an addressed lift is REFUSED LOCK_ID and a broadcast one writes nothing.
(08_possessions.md R144, R145, R146.) -/
def Obligations.PossLiftRemovesTheLock : Prop :=
  ∀ (s : State) (x : CommandPayload), s.executes .possLift x = true →
    (x.arg.toNat = 0 ∨ 15 < x.arg.toNat →
      exec (.possLift x) s = .next ((s.received .a).sendReply .possLift x (.refused .argument []))) ∧
    (1 ≤ x.arg.toNat → x.arg.toNat ≤ 15 → (∀ l ∈ s.poss.locks, l.id ≠ x.arg.toNat) →
      (x.target ≠ 0 →
        exec (.possLift x) s = .next ((s.received .a).sendReply .possLift x (.refused .lockId []))) ∧
      (x.target = 0 → exec (.possLift x) s = .next ((s.received .a).sendA (commandFrame 0x44#8 x)))) ∧
    (1 ≤ x.arg.toNat → x.arg.toNat ≤ 15 → (∃ l ∈ s.poss.locks, l.id = x.arg.toNat) →
      (s.store.writer ≠ .idle →
        exec (.possLift x) s = .next (({ s.received .a with poss := { s.poss with
          locks := s.poss.locks.filter (fun l => l.id != x.arg.toNat), dirty := true } } : State).sendReply .possLift x
            (.done []))) ∧
      (s.store.writer = .idle →
        exec (.possLift x) s = .next (({ s.received .a with
          poss := { s.poss with
            locks := (s.poss.locks.filter (fun l => l.id != x.arg.toNat)).map (fun l => ⟨l.id, l.faces, l.durable, true⟩)
            dirty := false }
          store := { s.store with
            writer := .lockWriting ((s.poss.locks.filter (fun l => l.id != x.arg.toNat)).map fun l => ⟨l.id, l.faces⟩)
            lockImage := ⟨.writing, none, false, false⟩ } } : State).sendReply .possLift x (.done []))))

/-! ### Channel events -/

/-- MOVED from the new symbol shutter in step 1 moves the change to step 2 and pulls MASK, or between permissive
aspects releases the old symbol; a MASK that is BLOCKED reports its fault again and the change is abandoned, RETURNING
with the driven shutters released. MOVED from MASK in step 2 completes an opening change. MOVED is reported once in a
pull and only on a dip deeper than the threshold below the running peak, which is the highest of the held peak and the
two samples of the command (notes/assumptions/17.md, the model's choice); the end of the hit time after it puts the
channel in HOLDING on a face in any state. MOVED and HIT_TIME_END on a channel that does not produce them leave the
state (notes/assumptions/1.md, the model's choice). (01_faces_aspects_and_ranks.md R10, R11, R15, R16;
02_element_outputs.md R28, R29, R30, R34; 04_node_states_and_commands.md R75, R77; notes/assumptions/1.md;
notes/assumptions/17.md.) -/
def Obligations.MovedDrivesAnOpeningChange : Prop :=
  (∀ (s : State) (f : Face) (k : Shutter) (a : Aspect) (rawPeak rawNow peak : Nat),
      (s.shutter f k).state = .pulling → (s.shutter f k).movedSeen = false →
      peak = max (max ((s.shutter f k).peak.getD 0) (s.measureShutter f k rawPeak)) (s.measureShutter f k rawNow) →
      s.measureShutter f k rawNow + ((s.config f).params k).dipThreshold < peak →
      (s.face f).state = .changing → (s.face f).change = some ⟨.closed, a, .one⟩ → a.symbol = some k →
      s.sup.releaseAll = false →
      ((s.shutter f .mask).state = .off →
        exec (.moved f k rawPeak rawNow) s = .next
          (((s.setShutter f k { s.shutter f k with
              measured := s.measureShutter f k rawNow, movedSeen := true, peak := some peak }).setFace f
            { s.face f with change := some ⟨.closed, a, .two⟩ }).setShutter f .mask { s.shutter f .mask with
              state := .pulling, movedSeen := false, peak := some (s.shutter f .mask).measured
              timer := some (s.config f).mask.hitTime })) ∧
      ((s.shutter f .mask).state = .pulling ∨ (s.shutter f .mask).state = .holding ∨
          (s.shutter f .mask).state = .releasing →
        exec (.moved f k rawPeak rawNow) s = .next
          ((s.setShutter f k { s.shutter f k with
              measured := s.measureShutter f k rawNow, movedSeen := true, peak := some peak }).setFace f
            { s.face f with change := some ⟨.closed, a, .two⟩ })) ∧
      ((s.shutter f .mask).state = .blocked →
        exec (.moved f k rawPeak rawNow) s = .next
          ((((s.setShutter f k { s.shutter f k with
              measured := s.measureShutter f k rawNow, movedSeen := true, peak := some peak }).reportShutter f .mask
                (s.shutter f .mask).lastFault).setFace f { s.face f with
                  state := .returning, env := ⟨(s.face f).env.floor, 2⟩, change := none
                  latch := if (s.face f).latch = .none then .element else (s.face f).latch
                  pending := (s.face f).pending.map fun p => { p with reason := .inChange } }).releaseDriven f))) ∧
  (∀ (s : State) (f : Face) (k old : Shutter) (a b : Aspect) (rawPeak rawNow peak : Nat),
      (s.shutter f k).state = .pulling → (s.shutter f k).movedSeen = false →
      peak = max (max ((s.shutter f k).peak.getD 0) (s.measureShutter f k rawPeak)) (s.measureShutter f k rawNow) →
      s.measureShutter f k rawNow + ((s.config f).params k).dipThreshold < peak →
      (s.face f).state = .changing → (s.face f).change = some ⟨a, b, .one⟩ → b.symbol = some k → a.symbol = some old →
      old ≠ k → (s.shutter f old).state = .holding →
      exec (.moved f k rawPeak rawNow) s = .next
        (((s.setShutter f k { s.shutter f k with
            measured := s.measureShutter f k rawNow, movedSeen := true, peak := some peak }).setFace f
          { s.face f with change := some ⟨a, b, .two⟩ }).setShutter f old { s.shutter f old with
            state := .releasing, peak := none, timer := some ((s.config f).params old).settle })) ∧
  (∀ (s : State) (f : Face) (a : Aspect) (rawPeak rawNow peak rank : Nat),
      (s.shutter f .mask).state = .pulling → (s.shutter f .mask).movedSeen = false →
      peak = max (max ((s.shutter f .mask).peak.getD 0) (s.measureShutter f .mask rawPeak))
        (s.measureShutter f .mask rawNow) →
      s.measureShutter f .mask rawNow + (s.config f).mask.dipThreshold < peak →
      (s.face f).state = .changing → (s.face f).change = some ⟨.closed, a, .two⟩ → a.permissive = true →
      a.rank = some rank → s.node.ending = false → (s.face f).pending.all (fun p => p.aspect == a) = true →
      exec (.moved f .mask rawPeak rawNow) s = .next
        ((s.setShutter f .mask { s.shutter f .mask with
            measured := s.measureShutter f .mask rawNow, movedSeen := true, peak := some peak }).setFace f
          { s.face f with shown := a, state := .steady, env := ⟨rank, rank⟩, change := none, pending := none })) ∧
  (∀ (s : State) (f : Face) (k : Shutter) (rawPeak rawNow : Nat),
      ((s.shutter f k).state ≠ .pulling ∨ (s.shutter f k).movedSeen = true ∨
          max (max ((s.shutter f k).peak.getD 0) (s.measureShutter f k rawPeak)) (s.measureShutter f k rawNow) ≤
            s.measureShutter f k rawNow + ((s.config f).params k).dipThreshold →
        exec (.moved f k rawPeak rawNow) s = .next s) ∧
      ((s.shutter f k).state ≠ .pulling → exec (.hitTimeEnd f k) s = .next s) ∧
      ((s.shutter f k).state = .pulling → (s.shutter f k).movedSeen = true →
        exec (.hitTimeEnd f k) s = .next ((s.setShutter f k { s.shutter f k with
          state := .holding, peak := none, timer := none }).nodeTests)))

/-- DROPPED from MASK in step 1 of a closing change rests the channel, moves the change to step 2 and releases the
symbol shutter. DROPPED from the old symbol shutter in step 2 completes the change: the face is STEADY on its new
aspect with that aspect's envelope, and the tests of R75 and R77 follow. DROPPED from the last active shutter of a
face in a change to DARK ends the wait: STEADY DARK, its lamp off, with latch ELEMENT where a shutter is BLOCKED.
DROPPED from the last active shutter of a STEADY DARK face that awaits the relight brings what a request to CLOSED
brings on a DARK face at rest: the relight, or, where a shutter is BLOCKED, latch ELEMENT or a LAMP that stays
(notes/assumptions/33.md, the model's reading). With another shutter active either wait goes on.
(01_faces_aspects_and_ranks.md R11, R12, R13, R14, R15, R18, R20; 02_element_outputs.md R32, R39;
04_node_states_and_commands.md R75, R77; notes/assumptions/33.md.) -/
def Obligations.DroppedDrivesAClosingChange : Prop :=
  (∀ (s : State) (f : Face) (k : Shutter) (a : Aspect) (raw : Nat),
      (s.shutter f .mask).state = .releasing → s.measureShutter f .mask raw = 0 → (s.face f).state = .changing →
      (s.face f).change = some ⟨a, .closed, .one⟩ → a.symbol = some k → (s.shutter f k).state = .holding →
      exec (.dropped f .mask raw) s = .next
        (((s.setShutter f .mask { s.shutter f .mask with
            state := .off, measured := 0, peak := none, timer := none }).setFace f
          { s.face f with change := some ⟨a, .closed, .two⟩ }).setShutter f k { s.shutter f k with
            state := .releasing, peak := none, timer := some ((s.config f).params k).settle })) ∧
  (∀ (s : State) (f : Face) (k : Shutter) (a b : Aspect) (raw rank : Nat),
      (s.shutter f k).state = .releasing → s.measureShutter f k raw = 0 → (s.face f).state = .changing →
      (s.face f).change = some ⟨a, b, .two⟩ → a.symbol = some k → b.rank = some rank →
      (b = .closed ∨ ¬(s.node.state = .maintenance ∧ s.node.ending = true)) →
      (s.face f).pending.all (fun p => p.aspect == b) = true →
      exec (.dropped f k raw) s = .next
        (((s.setShutter f k { s.shutter f k with
            state := .off, measured := 0, peak := none, timer := none }).setFace f
          { s.face f with shown := b, state := .steady, env := ⟨rank, rank⟩, change := none, pending := none }).nodeTests)) ∧
  (∀ (s t : State) (f : Face) (k : Shutter) (a : Aspect) (raw : Nat),
      (s.shutter f k).state = .releasing → s.measureShutter f k raw = 0 →
      t = s.setShutter f k { s.shutter f k with state := .off, measured := 0, peak := none, timer := none } →
      ((s.face f).state = .changing → (s.face f).change = some ⟨a, .dark, .one⟩ → (s.face f).relightAwaited = false →
        (t.quiet f = false → exec (.dropped f k raw) s = .next t) ∧
        (t.quiet f = true → (s.face f).pending = none → ¬(s.node.state = .maintenance ∧ s.node.ending = true) →
          exec (.dropped f k raw) s = .next ((t.lampOff f).setFace f { s.face f with
            shown := .dark, state := .steady, env := ⟨0, 2⟩, change := none
            latch := if t.anyBlocked f = true then .element else (s.face f).latch }))) ∧
      ((s.face f).steadyDark = true → (s.face f).relightAwaited = true →
        (t.quiet f = false → exec (.dropped f k raw) s = .next t) ∧
        (t.quiet f = true → exec (.dropped f k raw) s = .next ((t.beginChange f .closed).nodeTests))))

/-- Each of the four faults records its detail and sets ELEMENT. A pull without MOVED and a lost hold put the channel
in RELEASING, NOT_DROPPED and OVERCURRENT in BLOCKED. A permissive face, or one in a change between ranked aspects,
goes RETURNING with its driven shutters released; where the faulty shutter was the last active one the return ends at
once, DARK with its lamp off after NOT_DROPPED and CLOSED otherwise. In a change to DARK the destination stands: the
face waits for its other shutters, and is then STEADY DARK with its lamp off and latch ELEMENT. A face STEADY CLOSED
or DARK stays and takes latch ELEMENT unless it holds one. A DARK face that awaits the relight gives it up when its
last active shutter is BLOCKED, with latch ELEMENT, or with LAMP where it held LAMP and no tested shutter was released
for its wait (notes/assumptions/33.md, the model's reading). The tests of R75 and R77 follow each report.
(01_faces_aspects_and_ranks.md R13, R16, R17, R18, R19, R20; 02_element_outputs.md R27, R30, R31, R32, R33, R39;
04_node_states_and_commands.md R75, R77; 10_faults_alarms_and_roll_call.md R165; notes/assumptions/33.md.) -/
def Obligations.AShutterFaultStartsAReturn : Prop :=
  (∀ (s : State) (f : Face) (k : Shutter) (raw : Nat) (x : ChannelFault) (i : Instr),
      ((x = .notMoved ∧ i = .hitTimeEnd f k ∧ (s.shutter f k).state = .pulling ∧ (s.shutter f k).movedSeen = false) ∨
        (x = .holdLost ∧ i = .holdLost f k raw ∧ (s.shutter f k).state = .holding ∧
          s.measureShutter f k raw < max 1 (((s.config f).params k).hold / 2))) →
      ((s.face f).state = .steady ∧ (s.face f).shown.permissive = true ∧ (s.face f).env = steadyEnv (s.face f).shown) ∨
        ((s.face f).state = .changing ∧ (s.face f).changingTo .dark = false ∧ (s.face f).relighting = false) →
      ∃ t, exec i s = .next t ∧
        (t.shutter f k).state = .releasing ∧ (t.shutter f k).lastFault = x ∧
        (t.shutter f k).timer = some ((s.config f).params k).settle ∧
        ((t.details f).shutter k).count = min 255 (((s.details f).shutter k).count + 1) ∧
        ((t.details f).shutter k).kinds = ((s.details f).shutter k).kinds ||| x.kindBit ∧ t.latched .element = true ∧
        t.face f = { s.face f with
          state := .returning, env := ⟨(s.face f).env.floor, 2⟩, change := none
          latch := if (s.face f).latch = .none then .element else (s.face f).latch
          pending := (s.face f).pending.map fun p => { p with reason := .inChange } } ∧
        t.anyDriven f = false ∧ t.face (otherFace f) = s.face (otherFace f) ∧
        t.channels (otherFace f) = s.channels (otherFace f) ∧ t.node = s.node ∧ t.line = s.line ∧ t.plan = s.plan ∧
        t.poss = s.poss ∧ t.sup = s.sup ∧ t.sweep = s.sweep ∧ t.store = s.store ∧ t.phase = s.phase) ∧
  (∀ (s : State) (f : Face) (k : Shutter) (raw : Nat),
      (s.shutter f k).active = true → 159 < s.measureShutter f k raw → (s.face f).state = .steady →
      (s.face f).shown.permissive = false → (s.face f).relightAwaited = false →
      exec (.overcurrent f k raw) s = .next
        ((((s.setShutter f k { s.shutter f k with
            measured := s.measureShutter f k raw, state := .blocked, lastFault := .overcurrent, peak := none
            timer := none }).reportShutter f k .overcurrent).setFace f { s.face f with
              latch := if (s.face f).latch = .none then .element else (s.face f).latch }).nodeTests)) ∧
  (∀ (s t : State) (f : Face) (k : Shutter) (raw : Nat) (x : ChannelFault) (i : Instr),
      ((x = .notDropped ∧ i = .notDropped f k raw ∧ (s.shutter f k).state = .releasing ∧ 0 < s.measureShutter f k raw) ∨
        (x = .overcurrent ∧ i = .overcurrent f k raw ∧ (s.shutter f k).active = true ∧
          159 < s.measureShutter f k raw)) →
      ((s.face f).state = .steady ∧ (s.face f).shown.permissive = true ∧ (s.face f).env = steadyEnv (s.face f).shown) ∨
        ((s.face f).state = .changing ∧ (s.face f).changingTo .dark = false ∧ (s.face f).relighting = false) →
      (s.face f).relightAwaited = false →
      t = (s.setShutter f k { s.shutter f k with
        measured := s.measureShutter f k raw, state := .blocked, lastFault := x, peak := none
        timer := none }).reportShutter f k x →
      (t.shutter f k).state = .blocked ∧ (t.shutter f k).lastFault = x ∧ (t.shutter f k).timer = none ∧
      ((t.details f).shutter k).count = min 255 (((s.details f).shutter k).count + 1) ∧
      ((t.details f).shutter k).kinds = ((s.details f).shutter k).kinds ||| x.kindBit ∧ t.latched .element = true ∧
      (t.quiet f = false →
        exec i s = .next ((t.setFace f { s.face f with
          state := .returning, env := ⟨(s.face f).env.floor, 2⟩, change := none
          latch := if (s.face f).latch = .none then .element else (s.face f).latch
          pending := (s.face f).pending.map fun p => { p with reason := .inChange } }).releaseDriven f)) ∧
      (t.quiet f = true →
        (x = .notDropped ∨ s.anyNotDropped f = true →
          exec i s = .next ((t.lampOff f).setFace f { s.face f with
            shown := .dark, state := .steady, env := ⟨0, 2⟩, change := none
            latch := if (s.face f).latch = .lamp then .lamp else .element
            pending := (s.face f).pending.map fun p => { p with reason := .fault } })) ∧
        (x = .overcurrent → s.anyNotDropped f = false →
          exec i s = .next ((t.setFace f { s.face f with
            shown := .closed, state := .steady, env := ⟨2, 2⟩, change := none
            latch := if (s.face f).latch = .none then .element else (s.face f).latch
            pending := (s.face f).pending.map fun p => { p with reason := .fault } }).nodeTests)))) ∧
  (∀ (s : State) (f : Face) (k : Shutter) (raw : Nat) (x : ChannelFault) (i : Instr),
      ((x = .notDropped ∧ i = .notDropped f k raw ∧ (s.shutter f k).state = .releasing ∧ 0 < s.measureShutter f k raw) ∨
        (x = .overcurrent ∧ i = .overcurrent f k raw ∧ (s.shutter f k).active = true ∧
          159 < s.measureShutter f k raw)) →
      (s.face f).changingTo .dark = true → (s.face f).relightAwaited = false →
      ∃ t, exec i s = .next t ∧
        (t.shutter f k).state = .blocked ∧ (t.shutter f k).lastFault = x ∧ t.latched .element = true ∧
        ((t.details f).shutter k).count = min 255 (((s.details f).shutter k).count + 1) ∧
        t.face (otherFace f) = s.face (otherFace f) ∧
        t.channels (otherFace f) = s.channels (otherFace f) ∧ t.node = s.node ∧ t.line = s.line ∧ t.plan = s.plan ∧
        t.poss = s.poss ∧ t.sweep = s.sweep ∧ t.store = s.store ∧ t.phase = s.phase ∧
        ((∃ j ∈ [Shutter.mask, .arrow, .diagL, .diagR], j ≠ k ∧ (s.shutter f j).active = true) →
          t.face f = s.face f ∧ t.lamp f = s.lamp f) ∧
        ((∀ j : Shutter, j ≠ k → (s.shutter f j).active = false) →
          (t.face f).shown = .dark ∧ (t.face f).state = .steady ∧ (t.face f).env = ⟨0, 2⟩ ∧ (t.face f).change = none ∧
          (t.face f).latch = .element ∧ (t.lamp f).state = (if (s.lamp f).state = .blocked then .blocked else .off))) ∧
  (∀ (s : State) (f : Face) (k : Shutter) (raw : Nat),
      (s.face f).state = .steady → (s.face f).shown.permissive = false → (s.face f).relightAwaited = false →
      ((s.shutter f k).state = .pulling → (s.shutter f k).movedSeen = false →
        exec (.hitTimeEnd f k) s = .next
          ((((s.setShutter f k { s.shutter f k with
              state := .releasing, lastFault := .notMoved, peak := none
              timer := some ((s.config f).params k).settle }).reportShutter f k .notMoved).setFace f { s.face f with
                latch := if (s.face f).latch = .none then .element else (s.face f).latch }).nodeTests)) ∧
      ((s.shutter f k).state = .holding → s.measureShutter f k raw < max 1 (((s.config f).params k).hold / 2) →
        exec (.holdLost f k raw) s = .next
          ((((s.setShutter f k { s.shutter f k with
              measured := s.measureShutter f k raw, state := .releasing, lastFault := .holdLost, peak := none
              timer := some ((s.config f).params k).settle }).reportShutter f k .holdLost).setFace f { s.face f with
                latch := if (s.face f).latch = .none then .element else (s.face f).latch }).nodeTests)) ∧
      ((s.shutter f k).state = .releasing → 0 < s.measureShutter f k raw →
        exec (.notDropped f k raw) s = .next
          ((((s.setShutter f k { s.shutter f k with
              measured := s.measureShutter f k raw, state := .blocked, lastFault := .notDropped, peak := none
              timer := none }).reportShutter f k .notDropped).setFace f { s.face f with
                latch := if (s.face f).latch = .none then .element else (s.face f).latch }).nodeTests))) ∧
  (∀ (s t : State) (f : Face) (k : Shutter) (raw : Nat) (x : ChannelFault) (i : Instr),
      ((x = .notDropped ∧ i = .notDropped f k raw ∧ (s.shutter f k).state = .releasing ∧ 0 < s.measureShutter f k raw) ∨
        (x = .overcurrent ∧ i = .overcurrent f k raw ∧ (s.shutter f k).active = true ∧
          159 < s.measureShutter f k raw)) →
      (s.face f).steadyDark = true → (s.face f).relightAwaited = true →
      t = (s.setShutter f k { s.shutter f k with
        measured := s.measureShutter f k raw, state := .blocked, lastFault := x, peak := none
        timer := none }).reportShutter f k x →
      (t.quiet f = false → exec i s = .next (t.setFace f { s.face f with
        latch := if (s.face f).latch = .none then .element else (s.face f).latch })) ∧
      (t.quiet f = true → exec i s = .next (t.setFace f { s.face f with
        latch := if (s.face f).latch = .lamp ∧ (s.face f).testedWait = false then .lamp else .element
        relightAwaited := false, testedWait := false })))

/-- DROPPED, NOT_DROPPED and OVERCURRENT from the last active shutter of a RETURNING face end its return: STEADY DARK
with the lamp off and latch ELEMENT unless it holds LAMP where a shutter is BLOCKED by NOT_DROPPED, and STEADY CLOSED
with its latch kept otherwise. A pending target is kept, with reason FAULT where the latch is not NONE, and with the
reason it had where it is (notes/assumptions/30.md, the model's reading). The tests of R75 and R77 follow.
(01_faces_aspects_and_ranks.md R17; 02_element_outputs.md R32, R33; 04_node_states_and_commands.md R75, R77;
10_faults_alarms_and_roll_call.md R165; notes/assumptions/30.md.) -/
def Obligations.AReturnEndsByItsLastShutter : Prop :=
  ∀ (s t : State) (f : Face) (k : Shutter) (raw : Nat) (x : ChannelFault) (i : Instr),
    (s.face f).state = .returning → (s.face f).relightAwaited = false → (s.shutter f k).state = .releasing →
    (∀ j : Shutter, j ≠ k → (s.shutter f j).active = false) →
    (x = .none ∧ i = .dropped f k raw ∧ s.measureShutter f k raw = 0 ∧
        t = s.setShutter f k { s.shutter f k with state := .off, measured := 0, peak := none, timer := none }) ∨
      (((x = .notDropped ∧ i = .notDropped f k raw ∧ 0 < s.measureShutter f k raw) ∨
          (x = .overcurrent ∧ i = .overcurrent f k raw ∧ 159 < s.measureShutter f k raw)) ∧
        t = (s.setShutter f k { s.shutter f k with
          measured := s.measureShutter f k raw, state := .blocked, lastFault := x, peak := none
          timer := none }).reportShutter f k x) →
    (x ≠ .none → t.latched .element = true ∧
      ((t.details f).shutter k).count = min 255 (((s.details f).shutter k).count + 1) ∧
      ((t.details f).shutter k).kinds = ((s.details f).shutter k).kinds ||| x.kindBit) ∧
    (x = .notDropped ∨ s.anyNotDropped f = true →
      exec i s = .next ((t.lampOff f).setFace f { s.face f with
        shown := .dark, state := .steady, env := ⟨0, 2⟩
        latch := if (s.face f).latch = .lamp then .lamp else .element
        pending := (s.face f).pending.map fun p => { p with reason := .fault } })) ∧
    (x ≠ .notDropped → s.anyNotDropped f = false →
      exec i s = .next ((t.setFace f { s.face f with
        shown := .closed, state := .steady, env := ⟨2, 2⟩
        pending := (s.face f).pending.map fun p =>
          if (s.face f).latch = .none then p else { p with reason := .fault } }).nodeTests))

/-- LIT on a RAMPING lamp whose current stands in the lamp window makes it LIT and completes the relight in progress:
the face is STEADY CLOSED. Until the move of a LIT lamp to a new current ends the lower of the two floors is in force,
and its end changes nothing else. (01_faces_aspects_and_ranks.md R14, R15; 02_element_outputs.md R35, R36.) -/
def Obligations.LitCompletesTheRelight : Prop :=
  (∀ (s : State) (f : Face) (raw : Nat),
      s.phase = .running → (s.lamp f).state = .ramping →
      (s.config f).lampCurrent - max 1 ((s.config f).lampCurrent / 8) ≤ s.measureLamp f raw →
      s.measureLamp f raw ≤ (s.config f).lampCurrent + max 1 ((s.config f).lampCurrent / 8) →
      (s.face f).relighting = true → (s.face f).pending = none →
      exec (.lit f raw) s = .next
        ((s.setLamp f { s.lamp f with state := .lit, measured := s.measureLamp f raw, timer := none }).setFace f
          { s.face f with shown := .closed, state := .steady, env := ⟨2, 2⟩, change := none }).nodeTests) ∧
  (∀ (s : State) (f : Face) (old : Nat),
      exec (.lampCurrentMoveEnd f) s = .next (s.setLamp f { s.lamp f with moveFrom := none }) ∧
      ((s.lamp f).moveFrom = some old →
        s.lampFloor f = min (max 1 (old / 2)) (max 1 ((s.config f).lampCurrent / 2))) ∧
      ((s.lamp f).moveFrom = none → s.lampFloor f = max 1 ((s.config f).lampCurrent / 2)))

/-- NOT_LIT, LAMP_OPEN and LAMP_OVERCURRENT each block the lamp, record the fault, set LAMP and leave the face STEADY
DARK with latch LAMP, its driven shutters released; a relight it awaited is no longer awaited
(notes/assumptions/27.md). (01_faces_aspects_and_ranks.md R19; 02_element_outputs.md R35, R36;
10_faults_alarms_and_roll_call.md R165; notes/assumptions/27.md.) -/
def Obligations.ALampFaultDarkensTheFace : Prop :=
  ∀ (s : State) (f : Face) (raw : Nat) (x : ChannelFault) (i : Instr),
    s.phase = .running →
    (x = .notLit ∧ i = .notLit f ∧ (s.lamp f).state = .ramping) ∨
      (x = .lampOpen ∧ i = .lampOpen f raw ∧ (s.lamp f).state = .lit ∧ s.measureLamp f raw < s.lampFloor f) ∨
      (x = .overcurrent ∧ i = .lampOvercurrent f raw ∧ ((s.lamp f).state = .ramping ∨ (s.lamp f).state = .lit) ∧
        159 < s.measureLamp f raw) →
    ∃ t, exec i s = .next t ∧
      (t.lamp f).state = .blocked ∧ (t.lamp f).lastFault = x ∧ t.latched .lamp = true ∧
      (t.details f).lamp.count = min 255 ((s.details f).lamp.count + 1) ∧
      t.face f = { s.face f with
        shown := .dark, state := .steady, env := ⟨0, 2⟩, change := none, latch := .lamp
        pending := (s.face f).pending.map fun p => { p with reason := .fault }
        mergeLost := (t.face f).mergeLost, relightAwaited := false, testedWait := false } ∧
      t.anyDriven f = false ∧ t.channels (otherFace f) = s.channels (otherFace f) ∧ t.line = s.line ∧ t.plan = s.plan ∧
      t.poss = s.poss ∧ t.sweep = s.sweep ∧ t.store = s.store ∧ t.phase = s.phase ∧
      t.node.address = s.node.address ∧ t.node.causes = s.node.causes

/-! ### Supervision -/

/-- T_HOLD's expiry takes SERVICE to HELD with T_CLOSE started; T_CLOSE's expiry in HELD raises the cause SILENCE; a
stopped timer has no expiry. The recency grows by the stage's interval (notes/assumptions/3.md).
(09_forced_closure_and_silence.md R154, R155, R156; notes/assumptions/3.md.) -/
def Obligations.SilenceHoldsThenCloses : Prop :=
  ∀ (s : State) (interval : Nat),
    (s.sup.timer = .holdStage interval → s.node.state = .service →
      exec .tHoldExpiry s = .next { s with
        node := { s.node with state := .held }
        sup := { s.sup with
          recency := s.sup.recency.map (fun a => a + interval)
          timer := .closeStage (if s.store.site.valid then s.store.site.fields.tClose else 8000) } }) ∧
    (s.sup.timer = .closeStage interval → s.node.state = .held →
      exec .tCloseExpiry s = .next ((s.setSup { s.sup with
        recency := s.sup.recency.map (fun a => a + interval) }).enterFailsafe .silence)) ∧
    (s.sup.timer = .stopped → exec .tHoldExpiry s = .next s ∧ exec .tCloseExpiry s = .next s)

/-- Loop current below 4 mA opens the monitor and raises LOOP once; current at or above it restores the monitor and
raises nothing. A supply below 21.0 V puts the monitor in LOW, sets SUPPLY and raises the cause once; NORMAL comes at
21.0 V for 50 ms from EVALUATING and at 21.5 V for 500 ms from LOW. (09_forced_closure_and_silence.md R157, R158.) -/
def Obligations.MonitorsRaiseTheirCausesOnce : Prop :=
  (∀ (s : State) (ua : Nat), s.phase ≠ .held →
      (ua < 4000 → s.sup.loop ≠ .opened →
        exec (.loopOpen ua) s = .next ((s.setSup { s.sup with loop := .opened }).arise .loop)) ∧
      (ua < 4000 → s.sup.loop = .opened → exec (.loopOpen ua) s = .next s) ∧
      (4000 ≤ ua → exec (.loopRestored ua) s = .next { s with sup := { s.sup with loop := .restored } })) ∧
  (∀ (s : State) (mv ms : Nat), s.phase ≠ .held →
      (mv < 21000 → s.sup.supply ≠ .low →
        exec (.supplyLow mv) s = .next (((s.setSup { s.sup with supply := .low }).latch .supply).arise .supply)) ∧
      (mv < 21000 → s.sup.supply = .low → exec (.supplyLow mv) s = .next s) ∧
      ((s.sup.supply = .evaluating ∧ 21000 ≤ mv ∧ 50 ≤ ms) ∨ (s.sup.supply = .low ∧ 21500 ≤ mv ∧ 500 ≤ ms) →
        exec (.supplyNormal mv ms) s = .next { s with sup := { s.sup with supply := .normal } }) ∧
      (s.sup.supply = .low → mv < 21500 ∨ ms < 500 → exec (.supplyNormal mv ms) s = .next s))

/-- In UNNUMBERED, NUMBERED and FAILSAFE a cause is recorded alone. In the other states the node enters FAILSAFE at
once: flags clear, timer STOPPED, release-all asserted, no shutter driven, no target pending and none counted; a
permissive or changing face that is not relighting is RETURNING with its floor kept, and a DARK face without a latch
relights. (04_node_states_and_commands.md R63; 09_forced_closure_and_silence.md R150, R151;
01_faces_aspects_and_ranks.md R18; 02_element_outputs.md R38.) -/
def Obligations.ForcedClosureIsOneEvent : Prop :=
  ∀ (s : State) (c : Cause) (f : Face),
    (s.node.state = .unnumbered ∨ s.node.state = .numbered ∨ s.node.state = .failsafe →
      s.arise c = { s with node := { s.node with
        causes := s.node.causes.add c
        firstCause := if s.node.causes.isEmpty then some c else s.node.firstCause } }) ∧
    (s.node.state = .standby ∨ s.node.state = .service ∨ s.node.state = .held ∨ s.node.state = .maintenance →
      (s.arise c).node = { s.node with
        state := .failsafe, leaving := false, ending := false, causes := s.node.causes.add c
        firstCause := if s.node.causes.isEmpty then some c else s.node.firstCause } ∧
      (s.arise c).sup = { s.sup with timer := .stopped, releaseAll := true } ∧
      (s.arise c).anyDriven f = false ∧ ((s.arise c).face f).pending = none ∧
      ((s.arise c).face f).target = (s.face f).target ∧ ((s.arise c).face f).mergeLost = (s.face f).mergeLost ∧
      (s.arise c).fault.superseded = s.fault.superseded ∧ (s.arise c).line = s.line ∧ (s.arise c).sweep = s.sweep ∧
      (s.arise c).plan = s.plan ∧ (s.arise c).poss = s.poss ∧ (s.arise c).store = s.store ∧
      (s.arise c).config f = s.config f ∧
      ((s.face f).steadyClosed = true → (s.arise c).face f = { s.face f with pending := none }) ∧
      ((s.face f).relighting = true → (s.arise c).face f = { s.face f with pending := none }) ∧
      (((s.face f).state = .steady ∧ (s.face f).shown.permissive = true ∨
          (s.face f).state = .changing ∧ (s.face f).relighting = false) → s.quiet f = false →
        (s.arise c).face f = { s.face f with
          state := .returning, change := none, pending := none
          env := ⟨if (s.face f).state = .steady then (s.face f).rank else (s.face f).env.floor, 2⟩ }) ∧
      ((s.face f).steadyDark = true → (s.face f).latch = .none → s.allOff f = true → (s.lamp f).state = .off →
        ((s.arise c).face f).relighting = true ∧ ((s.arise c).lamp f).state = .ramping))

/-! ### The sweep -/

/-- A malformed pass sets LINE and is forwarded unchanged. A pass at a node without a valid site record is taken by
the sweep record and forwarded unchanged. A pass with an order fault sets POSITION, makes the kept entries of the pass
absent, is taken by the sweep record and moves nothing else; a return pass still takes the node's summary. The tests
of R75 and R77 follow each pass. (05_the_sweep.md R83, R87, R91, R92, R99; 04_node_states_and_commands.md R75, R77.)
-/
def Obligations.APassThatIsNotValidDecidesNothing : Prop :=
  (∀ (s : State) (x : Payload) (b : SweepBody),
      s.phase = .running → x.wf = true → s.line.role = .through →
      (x.body.length ≠ 29 ∨ (SweepBody.ofWords x.body = some b ∧ (250 < b.plan ∨
          (64 < b.curGantry ∧ b.curGantry ≠ 255) ∨ (64 < b.prevGantry ∧ b.prevGantry ≠ 255))) →
        exec (.sweep .a x) s = .next (((s.received .a).latch .line).nodeTests.join .b .a (payloadFrame x kindSweep .a)) ∧
        exec (.sweep .b x) s = .next (((s.received .b).latch .line).nodeTests.join .a .b (payloadFrame x kindSweep .b)))) ∧
  (∀ (s : State) (x : Payload) (b : SweepBody), s.phase = .running → s.line.role = .through →
      s.store.site.valid = false →
      SweepBody.ofWords x.body = some b → b.plan ≤ 250 → b.curGantry ≤ 64 ∨ b.curGantry = 255 →
      b.prevGantry ≤ 64 ∨ b.prevGantry = 255 →
      exec (.sweep .a x) s = .next (({ s.received .a with
        sweep := { s.sweep with expected := .ret, seq := some b.seq } } : State).nodeTests.join .b .a (payloadFrame x kindSweep .a)) ∧
      (s.sweep.expected = .ret ∧ s.sweep.seq = some b.seq →
        exec (.sweep .b x) s = .next (({ s.received .b with
          sweep := { s.sweep with expected := .out } } : State).nodeTests.join .a .b (payloadFrame x kindSweep .b))) ∧
      (¬(s.sweep.expected = .ret ∧ s.sweep.seq = some b.seq) →
        exec (.sweep .b x) s = .next ((s.received .b).nodeTests.join .a .b (payloadFrame x kindSweep .b)))) ∧
  (∀ (s : State) (x : Payload) (b : SweepBody), s.phase = .running → s.line.role = .through →
      s.store.site.valid = true →
      sweepContent (payloadFrame x kindSweep .a) = some b →
      (rollOutcome .out s.gantry s.lane b = .orderFault →
        exec (.sweep .a x) s = .next ((({ s.received .a with sweep := { s.sweep with
          expected := .ret, seq := some b.seq, downW := none, lower := ⟨none, some b.seq⟩ } } : State).latch
            .position).nodeTests.join .b .a ((payloadFrame x kindSweep .a).withSweep b))) ∧
      (rollOutcome .ret s.gantry s.lane b = .orderFault →
        exec (.sweep .b x) s = .next ((({ s.received .b with sweep := { s.sweep with
          expected := if s.sweep.inStep .ret b.seq then .out else s.sweep.expected
          downE := none, upper := ⟨none, some b.seq⟩ } } : State).latch .position).nodeTests.join .a .b
            ((payloadFrame x kindSweep .b).withSweep (s.fold b)))))

/-- On an outbound pass a lower cur gantry rolls and a higher one is an order fault; on a return pass the reverse;
with the node's own gantry there is no roll, and an entry whose present bit is set, whether or not it is well formed
(notes/assumptions/11.md, the model's reading of R82 and R86), at the lane or on the side not yet passed is an order
fault. A roll moves cur to prev and empties cur. (05_the_sweep.md R82, R86; notes/assumptions/11.md.) -/
def Obligations.TheRollFollowsTheGantryOrder : Prop :=
  ∀ (g k : Nat) (b : SweepBody),
    (b.curGantry < g → rollOutcome .out g k b = .roll) ∧ (g < b.curGantry → rollOutcome .out g k b = .orderFault) ∧
    (b.curGantry = g → rollOutcome .out g k b =
      if (b.cur.drop (k - 1)).any (fun w => w.getLsbD 14) then .orderFault else .stay) ∧
    (g < b.curGantry → rollOutcome .ret g k b = .roll) ∧ (b.curGantry < g → rollOutcome .ret g k b = .orderFault) ∧
    (b.curGantry = g → rollOutcome .ret g k b =
      if (b.cur.take k).any (fun w => w.getLsbD 14) then .orderFault else .stay) ∧
    b.roll g = { b with
      prev := b.cur, prevGantry := b.curGantry, cur := [0, 0, 0, 0, 0, 0, 0, 0], curGantry := g }

/-- After the roll a valid outbound pass replaces face W's downstream entry and the lower merge entry, restarts the
recency, ends HELD and starts T_HOLD again, is taken by the sweep record and judged acting or passive, is worked on by
face E and then face W, and leaves with the node's own entry at its lane. A prev that is not adjacent sets POSITION.
The tests of R75 and R77 follow. (05_the_sweep.md R84, R88, R89, R90, R91, R93, R95, R96;
09_forced_closure_and_silence.md R153, R154; 04_node_states_and_commands.md R75, R77.) -/
def Obligations.AValidOutboundPassTakesTheStepsInOrder : Prop :=
  ∀ (s t : State) (x : Payload) (b : SweepBody) (v : PassView) (acting : Bool), s.phase = .running →
    s.line.role = .through → s.store.site.valid = true →
    (∃ c, sweepContent (payloadFrame x kindSweep .a) = some c ∧
      ((rollOutcome .out s.gantry s.lane c = .roll ∧ b = c.roll s.gantry) ∨
        (rollOutcome .out s.gantry s.lane c = .stay ∧ b = c))) →
    v = ⟨.out, b.seq, b.plan, if b.prevGantry + 1 = s.gantry then readEntry (laneWord b.prev s.lane) else none⟩ →
    acting = (s.sweep.expected == .out && (s.sweep.seq == none || s.sweep.seq == some (b.seq - 1)) &&
      !x.flags.getLsbD 0 && (s.node.state == .service || s.node.state == .held) && s.sweep.lastActing != some .out) →
    t = ({ s.received .a with
      sweep := { s.sweep with
        downW := v.half .w
        lower := ⟨if s.lane = 1 then none else readEntry (laneWord b.cur (s.lane - 1)), some b.seq⟩
        expected := .ret, seq := some b.seq
        lastActing := if acting then some .out else s.sweep.lastActing }
      node := { s.node with state := if s.node.state = .held then .service else s.node.state }
      sup := { s.sup with
        recency := some 0
        timer := if s.node.state = .service ∨ s.node.state = .held then .holdStage s.tHold else s.sup.timer } } :
          State).latchIf (b.prevGantry + 1 != s.gantry) .position →
    exec (.sweep .a x) s = .next (((t.faceWork .e v acting).faceWork .w v acting).nodeTests.join .b .a
      ((payloadFrame x kindSweep .a).withSweep { b with
        cur := b.cur.set (s.lane - 1)
          (writeEntry ((t.faceWork .e v acting).faceWork .w v acting).ownEntry) }))

/-- The same for a return pass on port B, with face E's downstream entry and the upper merge entry, and with the
summary folded: each count grows by the node's share up to 255, and the node's wait is written where it is strictly
greater. The upper merge entry is absent for the lane equal to the gantry width alone (notes/assumptions/21.md, the
model's reading). The tests of R75 and R77 follow. (05_the_sweep.md R84, R88, R89, R90, R92, R93, R95, R96, R99, R100;
09_forced_closure_and_silence.md R153, R154; notes/assumptions/21.md; 04_node_states_and_commands.md R75, R77.) -/
def Obligations.AValidReturnPassTakesTheStepsInOrder : Prop :=
  (∀ (s t : State) (x : Payload) (b : SweepBody) (v : PassView) (acting : Bool), s.phase = .running →
      s.line.role = .through → s.store.site.valid = true →
      (∃ c, sweepContent (payloadFrame x kindSweep .b) = some c ∧
        ((rollOutcome .ret s.gantry s.lane c = .roll ∧ b = c.roll s.gantry) ∨
          (rollOutcome .ret s.gantry s.lane c = .stay ∧ b = c))) →
      v = ⟨.ret, b.seq, b.plan,
        if b.prevGantry = s.gantry + 1 ∨ b.prevGantry = 255 then readEntry (laneWord b.prev s.lane) else none⟩ →
      acting = (s.sweep.expected == .ret && s.sweep.seq == some b.seq && !x.flags.getLsbD 0 &&
        (s.node.state == .service || s.node.state == .held) && s.sweep.lastActing == some .out) →
      t = ({ s.received .b with
        sweep := { s.sweep with
          downE := v.half .e
          upper := ⟨if s.lane = s.width then none else readEntry (laneWord b.cur (s.lane + 1)), some b.seq⟩
          expected := if s.sweep.expected = .ret ∧ s.sweep.seq = some b.seq then .out else s.sweep.expected
          lastActing := if acting then some .ret else s.sweep.lastActing }
        node := { s.node with state := if s.node.state = .held then .service else s.node.state }
        sup := { s.sup with
          recency := some 0
          timer := if s.node.state = .service ∨ s.node.state = .held then .holdStage s.tHold else s.sup.timer } } :
            State).latchIf (b.prevGantry != s.gantry + 1 && b.prevGantry != 255) .position →
      exec (.sweep .b x) s = .next (((t.faceWork .e v acting).faceWork .w v acting).nodeTests.join .a .b
        ((payloadFrame x kindSweep .b).withSweep (((t.faceWork .e v acting).faceWork .w v acting).fold { b with
          cur := b.cur.set (s.lane - 1)
            (writeEntry ((t.faceWork .e v acting).faceWork .w v acting).ownEntry) })))) ∧
  (∀ (s : State) (b : SweepBody), b.faulted ≤ 255 → b.pending ≤ 255 →
      (s.fold b).faulted =
        min 255 (b.faulted + (if s.faces.e.latch = .none then 0 else 1) + (if s.faces.w.latch = .none then 0 else 1)) ∧
      (s.fold b).pending =
        min 255 (b.pending + (if s.faces.e.pending = none then 0 else 1) + (if s.faces.w.pending = none then 0 else 1)) ∧
      (b.waitAge < s.longestWait → (s.fold b).waitAge = s.longestWait ∧ (s.fold b).waitAddr = s.node.address.toNat) ∧
      (s.longestWait ≤ b.waitAge → (s.fold b).waitAge = b.waitAge ∧ (s.fold b).waitAddr = b.waitAddr))

/-- At END (configured) the frame is seeded with the east boundary vector, at END (wrapped) with an empty vector and
the WRAP flag, both with gantry 255 and the node's address; its return pass is then taken at the node and leaves on
port A. The FLAGS bits beside WRAP stay as received (notes/assumptions/43.md, the model's choice). (05_the_sweep.md
R84, R97, R98; 03_the_chain_line.md R52; notes/assumptions/43.md.) -/
def Obligations.AnEndNodeSeedsTheReturnPass : Prop :=
  ∀ (s t : State) (x : Payload) (f : Frame) (b : SweepBody), s.phase = .running → s.line.role ≠ .through →
    x.wf = true →
    t = ((s.received .a).sweepPass (payloadFrame x kindSweep .a)).1 →
    f = ((s.received .a).sweepPass (payloadFrame x kindSweep .a)).2 → sweepContent f = some b →
    (s.line.role = .endConfigured →
      exec (.sweep .a x) s = .next ((t.sweepPass ({ f with
          pass := .ret
          body := ({ b with curGantry := 255, cur := b.east, endAddress := t.node.address.toNat } : SweepBody).toWords } :
            Frame)).1.join .a .a (t.sweepPass { f with
          pass := .ret
          body := ({ b with curGantry := 255, cur := b.east, endAddress := t.node.address.toNat } :
            SweepBody).toWords }).2)) ∧
    (s.line.role = .endWrapped →
      exec (.sweep .a x) s = .next ((t.sweepPass ({ f with
          pass := .ret, flags := f.flags ||| 2
          body := ({ b with curGantry := 255, cur := [0, 0, 0, 0, 0, 0, 0, 0], endAddress := t.node.address.toNat } :
            SweepBody).toWords } : Frame)).1.join .a .a (t.sweepPass { f with
          pass := .ret, flags := f.flags ||| 2
          body := ({ b with curGantry := 255, cur := [0, 0, 0, 0, 0, 0, 0, 0], endAddress := t.node.address.toNat } :
            SweepBody).toWords }).2))

/-! ### Gating -/

/-- LEAVING, a covering lock, a merge-lost latch, and an OPEN plan aspect above an unknown downstream give CLOSED with
LEAVE, POSSESSION, MERGE and the warning aspect with BOUNDARY, in that order; otherwise the plan aspect stands, which
is CLOSED for plan 0 and, with the PLAN latch, for a missing entry, a forbidden lane type and a diagonal that cannot
be shown. (R104; R105.) -/
def Obligations.TargetsComeFromTheFirstRow : Prop :=
  (∀ (s : State) (f : Face) (plan : Nat),
      s.resolve f plan =
        if s.node.leaving = true then (⟨.closed, .leave⟩, false)
        else if ∃ l ∈ s.poss.locks, l.faces = .both ∨ (f = .e ∧ l.faces = .e) ∨ (f = .w ∧ l.faces = .w) then
          (⟨.closed, .possession⟩, false)
        else if (s.face f).mergeLost ≠ none then (⟨.closed, .merge⟩, false)
        else if (s.planAspect f plan).1 = .opened ∧ halfEnv (s.sweep.down f) = ⟨0, 2⟩ then
          (if s.canShow f (s.config f).warning then (⟨(s.config f).warning, .boundary⟩, false)
            else (⟨.closed, .boundary⟩, true))
        else (⟨(s.planAspect f plan).1, .plan⟩, (s.planAspect f plan).2)) ∧
  (∀ (s : State) (f : Face) (plan : Nat) (y : PlanEntry),
      s.planAspect f 0 = (.closed, false) ∧
      (plan ≠ 0 → s.lookup plan = none → s.planAspect f plan = (.closed, true)) ∧
      (plan ≠ 0 → s.lookup plan = some y →
        (((y.aspect f).permissive = true ∧ s.laneType.allows f = false) ∨ s.canShow f (y.aspect f) = false →
          s.planAspect f plan = (.closed, true)) ∧
        (¬((y.aspect f).permissive = true ∧ s.laneType.allows f = false) → s.canShow f (y.aspect f) = true →
          s.planAspect f plan = (y.aspect f, false))))

/-- A raise is gated on the face's raise pass by the floor of the upstream entry; a lowering on its lower pass by
PAIR, LANE, POSSESSION, MERGE_TARGET and DOWNSTREAM in this order; a sideways change by POSSESSION and MERGE_TARGET. A
merge target passes where its kept entry is present, of this sequence or the one before, with the same-direction
ceiling 0. Absent evidence reads (0, 2). (R108; R109; R110; R111.) -/
def Obligations.GatesJudgeEachChange : Prop :=
  (∀ (s : State) (f : Face) (v : PassView) (a : Aspect) (r q : Nat), (s.face f).shown.rank = some r → a.rank = some q →
      r < q →
      (v.pass ≠ (if f = .e then .out else .ret) → s.gate f v a = .notNow) ∧
      (v.pass = (if f = .e then .out else .ret) →
        s.gate f v a = if q - 1 ≤ ((v.entry.map fun e => (e.half f).floor).getD 0) then .pass else .fail .upstream)) ∧
  (∀ (s : State) (f : Face) (v : PassView) (a : Aspect) (r q : Nat), (s.face f).shown.rank = some r → a.rank = some q →
      q < r →
      (v.pass = (if f = .e then .out else .ret) → s.gate f v a = .notNow) ∧
      (v.pass ≠ (if f = .e then .out else .ret) →
        s.gate f v a =
          if (s.face (otherFace f)).state ≠ .steady ∨ (s.face (otherFace f)).shown ≠ .closed then .fail .pair
          else if s.laneType.allows f = false then .fail .lane
          else if s.covered f = true then .fail .possession
          else if s.mergeGate f v.seq a = false then .fail .mergeTarget
          else if ((v.entry.map fun e => (e.half f).ceiling).getD 2) ≤ q + 1 then .pass
          else .fail .downstream)) ∧
  (∀ (s : State) (f : Face) (v : PassView) (d : Side) (seq : BitVec 16) (m : MergeEntry),
      m = (if (f = .e ∧ d = .left) ∨ (f = .w ∧ d = .right) then s.sweep.lower else s.sweep.upper) →
      (s.mergeGate f seq (if d = .left then .mergeL else .mergeR) = true ↔
        m.entry.any (fun e => (e.half f).ceiling == 0) = true ∧ (m.seq = some seq ∨ m.seq = some (seq - 1))) ∧
      s.mergeGate f seq .opened = true ∧
      ((s.face f).shown.rank = some 1 → v.pass ≠ (if f = .e then .out else .ret) →
        s.gate f v (if d = .left then .mergeL else .mergeR) =
          if s.covered f = true then .fail .possession
          else if s.mergeGate f v.seq (if d = .left then .mergeL else .mergeR) = false then .fail .mergeTarget
          else .pass))

/-- On a STEADY face a target is reached, held with FAULT by a latch or by DARK (on a DARK face with latch NONE too,
by R104: notes/assumptions/16.md, the model's reading), refused with a gate's name or on a pass that does not gate it
with that of R107, or its change starts and a pending target goes uncounted. On a CHANGING face a target other than
the change's own, and on a RETURNING face one other than CLOSED, waits with IN_CHANGE. A pending target of the same
aspect keeps its age, takes the new cause, and takes the new reason on a STEADY face's decision pass and keeps its own
on any other; one of another aspect is replaced and counted as superseded, as is one that the end of a change or
return overtakes. (01_faces_aspects_and_ranks.md R8; 06_gating_and_the_change_wave.md R104, R107, R113;
notes/assumptions/16.md.) -/
def Obligations.ATargetIsTakenByTheFaceState : Prop :=
  (∀ (s : State) (f : Face) (t : Target) (why : Reason), (s.face f).state = .steady →
      (t.aspect = (s.face f).shown → ∀ g ∈ [GateOutcome.notNow, .pass, .fail why],
        s.takeTarget f t g = s.setFace f { s.face f with target := t, pending := none }) ∧
      (t.aspect ≠ (s.face f).shown → (s.face f).latch = .none → (s.face f).shown ≠ .dark → s.sup.releaseAll = false →
        s.takeTarget f t .pass =
          (s.setFace f { s.face f with target := t, pending := none }).beginChange f t.aspect) ∧
      (t.aspect ≠ (s.face f).shown → (s.face f).pending = none →
        ((s.face f).latch ≠ .none ∨ (s.face f).shown = .dark → ∀ g ∈ [GateOutcome.notNow, .pass, .fail why],
          s.takeTarget f t g = s.setFace f { s.face f with
            target := t, pending := some ⟨t.aspect, t.cause, 0, .fault⟩ }) ∧
        ((s.face f).latch = .none → (s.face f).shown ≠ .dark →
          s.takeTarget f t (.fail why) = s.setFace f { s.face f with
            target := t, pending := some ⟨t.aspect, t.cause, 0, why⟩ }) ∧
        ((s.face f).latch = .none → (s.face f).shown ≠ .dark → t.aspect ≠ .dark →
          s.takeTarget f t .notNow = s.setFace f { s.face f with
            target := t
            pending := some ⟨t.aspect, t.cause, 0,
              if (s.face f).shown.rank.getD 0 < t.aspect.rank.getD 0 then .upstream else .downstream⟩ }))) ∧
  (∀ (s : State) (f : Face) (t : Target) (p : PendingTarget) (why : Reason) (g : GateOutcome),
      (s.face f).pending = some p →
      ((s.face f).state = .steady → (s.face f).latch = .none → (s.face f).shown ≠ .dark → t.aspect ≠ (s.face f).shown →
        (p.aspect = t.aspect →
          s.takeTarget f t (.fail why) = s.setFace f { s.face f with
            target := t, pending := some ⟨p.aspect, t.cause, p.age, why⟩ } ∧
          s.takeTarget f t .notNow = s.setFace f { s.face f with
            target := t, pending := some ⟨p.aspect, t.cause, p.age, p.reason⟩ }) ∧
        (p.aspect ≠ t.aspect →
          s.takeTarget f t (.fail why) = (s.setFace f { s.face f with
            target := t, pending := some ⟨t.aspect, t.cause, 0, why⟩ }).countSuperseded ∧
          (t.aspect ≠ .dark → s.takeTarget f t .notNow = (s.setFace f { s.face f with
            target := t
            pending := some ⟨t.aspect, t.cause, 0,
              if (s.face f).shown.rank.getD 0 < t.aspect.rank.getD 0 then .upstream else .downstream⟩ }).countSuperseded))) ∧
      ((s.face f).state = .steady → (s.face f).latch ≠ .none ∨ (s.face f).shown = .dark → t.aspect ≠ (s.face f).shown →
        (p.aspect = t.aspect →
          (g ≠ .notNow → s.takeTarget f t g = s.setFace f { s.face f with
            target := t, pending := some ⟨p.aspect, t.cause, p.age, .fault⟩ }) ∧
          s.takeTarget f t .notNow = s.setFace f { s.face f with
            target := t, pending := some ⟨p.aspect, t.cause, p.age, p.reason⟩ }) ∧
        (p.aspect ≠ t.aspect → s.takeTarget f t g = (s.setFace f { s.face f with
          target := t, pending := some ⟨t.aspect, t.cause, 0, .fault⟩ }).countSuperseded)) ∧
      ((s.face f).state = .changing →
        ((s.face f).changingTo t.aspect = true →
          s.takeTarget f t g = (s.setFace f { s.face f with target := t, pending := none }).countSuperseded) ∧
        ((s.face f).changingTo t.aspect = false → p.aspect = t.aspect →
          s.takeTarget f t g = s.setFace f { s.face f with
            target := t, pending := some ⟨p.aspect, t.cause, p.age, p.reason⟩ }) ∧
        ((s.face f).changingTo t.aspect = false → p.aspect ≠ t.aspect →
          s.takeTarget f t g = (s.setFace f { s.face f with
            target := t, pending := some ⟨t.aspect, t.cause, 0, .inChange⟩ }).countSuperseded)) ∧
      ((s.face f).state = .returning →
        (t.aspect = .closed →
          s.takeTarget f t g = (s.setFace f { s.face f with target := t, pending := none }).countSuperseded) ∧
        (t.aspect ≠ .closed → p.aspect = t.aspect →
          s.takeTarget f t g = s.setFace f { s.face f with
            target := t, pending := some ⟨p.aspect, t.cause, p.age, p.reason⟩ }) ∧
        (t.aspect ≠ .closed → p.aspect ≠ t.aspect →
          s.takeTarget f t g = (s.setFace f { s.face f with
            target := t, pending := some ⟨t.aspect, t.cause, 0, .inChange⟩ }).countSuperseded))) ∧
  (∀ (s : State) (f : Face) (t : Target) (g : GateOutcome), (s.face f).pending = none →
      ((s.face f).state = .changing →
        ((s.face f).changingTo t.aspect = true → s.takeTarget f t g = s.setFace f { s.face f with target := t }) ∧
        ((s.face f).changingTo t.aspect = false → s.takeTarget f t g = s.setFace f { s.face f with
          target := t, pending := some ⟨t.aspect, t.cause, 0, .inChange⟩ })) ∧
      ((s.face f).state = .returning →
        (t.aspect = .closed → s.takeTarget f t g = s.setFace f { s.face f with target := t }) ∧
        (t.aspect ≠ .closed → s.takeTarget f t g = s.setFace f { s.face f with
          target := t, pending := some ⟨t.aspect, t.cause, 0, .inChange⟩ })))

/-- On an acting pass a face's work is the age advance on a return, the merge-target check and the decision; on a
passive pass the check alone, which touches no more of the face than its merge-lost latch. The decision sets the PLAN
latch where the resolution says so and hands the resolved target to the face, with what the gates of the pass answer
for it. An age gains 1 up to 255 and sets STALL at the stall limit. A lost merge target is latched with the side of
the aspect shown or sought and sets MERGE, and a latch already set keeps its side. A latch whose own side is found
open is cleared, whatever aspect the face shows; the clear comes before the check, so that a target lost on another
side is then latched with that side (notes/assumptions/12.md, the model's choice). (06_gating_and_the_change_wave.md
R103, R104, R105, R107, R114, R115, R116, R117; 05_the_sweep.md R90; notes/assumptions/12.md.) -/
def Obligations.WaitsAgeAndMergesAreChecked : Prop :=
  (∀ (s : State) (f : Face) (v : PassView),
      s.faceWork f v true = ((if v.pass = .ret then s.advanceAge f else s).mergeCheck f).decide f v ∧
      s.faceWork f v false = s.mergeCheck f ∧
      (s.mergeCheck f).face f = { s.face f with mergeLost := ((s.mergeCheck f).face f).mergeLost } ∧
      (s.mergeCheck f).elem = s.elem ∧ (s.mergeCheck f).node = s.node ∧ (s.mergeCheck f).sweep = s.sweep ∧
      (s.mergeCheck f).face (otherFace f) = s.face (otherFace f)) ∧
  (∀ (s : State) (f : Face) (v : PassView) (t : Target) (b : Bool),
      s.resolve f v.plan = (t, b) →
      s.decide f v = (if b = true then s.latch .plan else s).takeTarget f t (s.gate f v t.aspect)) ∧
  (∀ (s : State) (f : Face) (p : PendingTarget),
      ((s.face f).pending = some p →
        s.advanceAge f = (if s.store.site.fields.stall ≤ min 255 (p.age + 1) then
          (s.setFace f { s.face f with pending := some { p with age := min 255 (p.age + 1) } }).latch .stall
          else s.setFace f { s.face f with pending := some { p with age := min 255 (p.age + 1) } })) ∧
      ((s.face f).pending = none → s.advanceAge f = s)) ∧
  (∀ (s : State) (f : Face) (d e : Side),
      ((s.face f).mergeLost = none →
        ((s.face f).mergeSide = none → s.mergeCheck f = s) ∧
        ((s.face f).mergeSide = some e →
          ((s.sweep.merge f e).openFor f = true → s.mergeCheck f = s) ∧
          ((s.sweep.merge f e).openFor f = false →
            s.mergeCheck f = (s.setFace f { s.face f with mergeLost := some e }).latch .merge))) ∧
      ((s.face f).mergeLost = some d → (s.sweep.merge f d).openFor f = true →
        ((s.face f).mergeSide = none ∨ ((s.face f).mergeSide = some e ∧ (s.sweep.merge f e).openFor f = true) →
          s.mergeCheck f = s.setFace f { s.face f with mergeLost := none }) ∧
        ((s.face f).mergeSide = some e → (s.sweep.merge f e).openFor f = false →
          s.mergeCheck f = (s.setFace f { s.face f with mergeLost := some e }).latch .merge)) ∧
      ((s.face f).mergeLost = some d → (s.sweep.merge f d).openFor f = false →
        ((s.face f).mergeSide = none ∨ ((s.face f).mergeSide = some e ∧ (s.sweep.merge f e).openFor f = true) →
          s.mergeCheck f = s) ∧
        ((s.face f).mergeSide = some e → (s.sweep.merge f e).openFor f = false →
          s.mergeCheck f = s.latch .merge)) ∧
      ((s.sweep.merge f d).openFor f = true ↔
        (s.sweep.merge f d).entry.any (fun x => (x.half f).ceiling == 0) = true) ∧
      ((s.face f).mergeSide = some d ↔
        ((s.face f).state = .steady ∧ (s.face f).shown = (if d = .left then .mergeL else .mergeR)) ∨
        ((s.face f).state = .changing ∧
          (s.face f).change.map Change.dst = some (if d = .left then .mergeL else .mergeR))))

/-! ### Encodings and invariants -/

/-- A lane entry with ordered ranks, and a sweep body whose fields fit their widths, read back from their words as
they were written. Every command is the command of its own code. A frame of 4-127 words, as the node sends it, passes
every check on the port of its pass. (12_frame_and_record_layouts.md R191, R192, R193; 03_the_chain_line.md R45.) -/
def Obligations.EncodingsReadBack : Prop :=
  ∀ (x : LaneEntry) (b : SweepBody) (c : Cmd) (p : Port) (f : Frame),
    (x.e.floor ≤ x.e.ceiling → x.e.ceiling ≤ 2 → x.w.floor ≤ x.w.ceiling → x.w.ceiling ≤ 2 →
      readEntry (writeEntry x) = some x) ∧
    (b.plan ≤ 255 → b.endAddress ≤ 255 → b.curGantry ≤ 255 → b.prevGantry ≤ 255 → b.cur.length = 8 →
      b.prev.length = 8 → b.east.length = 8 → b.faulted ≤ 255 → b.pending ≤ 255 → b.waitAge ≤ 255 → b.waitAddr ≤ 255 →
      SweepBody.ofWords b.toWords = some b) ∧
    Cmd.ofCode (BitVec.ofNat 8 c.row.code) = some c ∧
    (f.fits = true → f.pass = passOf p → frameError p f.wire = none)

/-- From every state with both face records sound, never both faces permissive or in a change to or from a permissive
aspect, and start-up as the spec gives it, every step leads to such a state. (01_faces_aspects_and_ranks.md R4, R5,
R9; 03_the_chain_line.md R58; 11_stored_records_and_start_up.md R186.) -/
def Obligations.FacesStaySoundAndOneWay : Prop :=
  ∀ s t : State, step s = .next t →
    s.facesSound = true → s.oneWay = true → s.startUpOk = true →
      t.facesSound = true ∧ t.oneWay = true ∧ t.startUpOk = true

/-- Every step keeps: the address 0 exactly in UNNUMBERED and in 1-250 elsewhere; LEAVING in SERVICE and HELD and the
ending flag in MAINTENANCE alone; the first cause a cause of the set; the timer stage of the node state; release-all
exactly in FAILSAFE with no shutter driven there. (04_node_states_and_commands.md R60;
09_forced_closure_and_silence.md R150, R154; 02_element_outputs.md R38.) -/
def Obligations.NodeRecordStaysSound : Prop :=
  ∀ s t : State, step s = .next t →
    s.node.addressOk = true → s.node.flagsOk = true → s.node.causesOk = true → s.timerOk = true →
    s.releaseOk = true →
      t.node.addressOk = true ∧ t.node.flagsOk = true ∧ t.node.causesOk = true ∧ t.timerOk = true ∧
      t.releaseOk = true

/-- Every step keeps: both banks of at most 48 entries in ascending plan numbers with their check values, an empty
STAGING never VALID, the session record; at most 4 locks with distinct ids of 1-15; the sequence record; at most 2
frames in each queue. (07_plan_tables.md R121, R123; 08_possessions.md R136, R141; 03_the_chain_line.md R49.) -/
def Obligations.TablesAndQueuesStaySound : Prop :=
  ∀ s t : State, step s = .next t →
    s.plan.sound = true → locksOk s.poss.locks = true → s.poss.seq.sound = true → s.line.queuesOk = true →
      t.plan.sound = true ∧ locksOk t.poss.locks = true ∧ t.poss.seq.sound = true ∧ t.line.queuesOk = true

/-- With start-up and the plan tables as the spec gives them, every step keeps: past NUMBERED the site record is valid
and ACTIVE holds an entry. (04_node_states_and_commands.md R73; 07_plan_tables.md R121, R130;
11_stored_records_and_start_up.md R178.) -/
def Obligations.ServedNodesKeepSiteAndTable : Prop :=
  ∀ s t : State, step s = .next t →
    s.startUpOk = true → s.plan.sound = true → s.siteOk = true → s.tableOk = true →
      t.startUpOk = true ∧ t.plan.sound = true ∧ t.siteOk = true ∧ t.tableOk = true

/-- With start-up as the spec gives it, every step keeps: pending targets in SERVICE and HELD alone, and no target
below CLOSED, current or pending, on a face that a possession lock covers. (08_possessions.md R142;
06_gating_and_the_change_wave.md R114.) -/
def Obligations.NoTargetBelowClosedUnderALock : Prop :=
  ∀ s t : State, step s = .next t →
    s.startUpOk = true → s.pendingOk = true → s.coverOk = true →
      t.startUpOk = true ∧ t.pendingOk = true ∧ t.coverOk = true

/-- Every condition that the invariants above keep holds of the state after reset. (01_faces_aspects_and_ranks.md R22;
04_node_states_and_commands.md R80; 11_stored_records_and_start_up.md R181.) -/
def Obligations.ResetMeetsEveryInvariant : Prop :=
  State.reset.facesSound = true ∧ State.reset.oneWay = true ∧ State.reset.startUpOk = true ∧
  State.reset.node.addressOk = true ∧ State.reset.node.flagsOk = true ∧ State.reset.node.causesOk = true ∧
  State.reset.timerOk = true ∧ State.reset.releaseOk = true ∧ State.reset.plan.sound = true ∧
  locksOk State.reset.poss.locks = true ∧ State.reset.poss.seq.sound = true ∧
  State.reset.line.queuesOk = true ∧ State.reset.siteOk = true ∧ State.reset.tableOk = true ∧
  State.reset.pendingOk = true ∧ State.reset.coverOk = true
end

