-- ==== Sys2Proof/Laws/State.lean ====
section
/-! SUPPORT. One lemma per field per update of State, and what the setters of a face's or channel's record leave: later
proofs read a field of an updated state by these and unfold no update. -/

namespace Sys2Proof.Machine

/-! ### State.setPhase -/

@[simp] theorem State.setPhase_phase (s : State) (x : Phase) : (s.setPhase x).phase = x := rfl
@[simp] theorem State.setPhase_line (s : State) (x : Phase) : (s.setPhase x).line = s.line := rfl
@[simp] theorem State.setPhase_node (s : State) (x : Phase) : (s.setPhase x).node = s.node := rfl
@[simp] theorem State.setPhase_sweep (s : State) (x : Phase) : (s.setPhase x).sweep = s.sweep := rfl
@[simp] theorem State.setPhase_faces (s : State) (x : Phase) : (s.setPhase x).faces = s.faces := rfl
@[simp] theorem State.setPhase_elem (s : State) (x : Phase) : (s.setPhase x).elem = s.elem := rfl
@[simp] theorem State.setPhase_plan (s : State) (x : Phase) : (s.setPhase x).plan = s.plan := rfl
@[simp] theorem State.setPhase_poss (s : State) (x : Phase) : (s.setPhase x).poss = s.poss := rfl
@[simp] theorem State.setPhase_sup (s : State) (x : Phase) : (s.setPhase x).sup = s.sup := rfl
@[simp] theorem State.setPhase_fault (s : State) (x : Phase) : (s.setPhase x).fault = s.fault := rfl
@[simp] theorem State.setPhase_store (s : State) (x : Phase) : (s.setPhase x).store = s.store := rfl
@[simp] theorem State.setPhase_pending (s : State) (x : Phase) : (s.setPhase x).pending = s.pending := rfl

/-! ### State.setLine -/

@[simp] theorem State.setLine_phase (s : State) (x : LineBlock) : (s.setLine x).phase = s.phase := rfl
@[simp] theorem State.setLine_line (s : State) (x : LineBlock) : (s.setLine x).line = x := rfl
@[simp] theorem State.setLine_node (s : State) (x : LineBlock) : (s.setLine x).node = s.node := rfl
@[simp] theorem State.setLine_sweep (s : State) (x : LineBlock) : (s.setLine x).sweep = s.sweep := rfl
@[simp] theorem State.setLine_faces (s : State) (x : LineBlock) : (s.setLine x).faces = s.faces := rfl
@[simp] theorem State.setLine_elem (s : State) (x : LineBlock) : (s.setLine x).elem = s.elem := rfl
@[simp] theorem State.setLine_plan (s : State) (x : LineBlock) : (s.setLine x).plan = s.plan := rfl
@[simp] theorem State.setLine_poss (s : State) (x : LineBlock) : (s.setLine x).poss = s.poss := rfl
@[simp] theorem State.setLine_sup (s : State) (x : LineBlock) : (s.setLine x).sup = s.sup := rfl
@[simp] theorem State.setLine_fault (s : State) (x : LineBlock) : (s.setLine x).fault = s.fault := rfl
@[simp] theorem State.setLine_store (s : State) (x : LineBlock) : (s.setLine x).store = s.store := rfl
@[simp] theorem State.setLine_pending (s : State) (x : LineBlock) : (s.setLine x).pending = s.pending := rfl

/-! ### State.setNode -/

@[simp] theorem State.setNode_phase (s : State) (x : NodeRecord) : (s.setNode x).phase = s.phase := rfl
@[simp] theorem State.setNode_line (s : State) (x : NodeRecord) : (s.setNode x).line = s.line := rfl
@[simp] theorem State.setNode_node (s : State) (x : NodeRecord) : (s.setNode x).node = x := rfl
@[simp] theorem State.setNode_sweep (s : State) (x : NodeRecord) : (s.setNode x).sweep = s.sweep := rfl
@[simp] theorem State.setNode_faces (s : State) (x : NodeRecord) : (s.setNode x).faces = s.faces := rfl
@[simp] theorem State.setNode_elem (s : State) (x : NodeRecord) : (s.setNode x).elem = s.elem := rfl
@[simp] theorem State.setNode_plan (s : State) (x : NodeRecord) : (s.setNode x).plan = s.plan := rfl
@[simp] theorem State.setNode_poss (s : State) (x : NodeRecord) : (s.setNode x).poss = s.poss := rfl
@[simp] theorem State.setNode_sup (s : State) (x : NodeRecord) : (s.setNode x).sup = s.sup := rfl
@[simp] theorem State.setNode_fault (s : State) (x : NodeRecord) : (s.setNode x).fault = s.fault := rfl
@[simp] theorem State.setNode_store (s : State) (x : NodeRecord) : (s.setNode x).store = s.store := rfl
@[simp] theorem State.setNode_pending (s : State) (x : NodeRecord) : (s.setNode x).pending = s.pending := rfl

/-! ### State.setSweep -/

@[simp] theorem State.setSweep_phase (s : State) (x : SweepBlock) : (s.setSweep x).phase = s.phase := rfl
@[simp] theorem State.setSweep_line (s : State) (x : SweepBlock) : (s.setSweep x).line = s.line := rfl
@[simp] theorem State.setSweep_node (s : State) (x : SweepBlock) : (s.setSweep x).node = s.node := rfl
@[simp] theorem State.setSweep_sweep (s : State) (x : SweepBlock) : (s.setSweep x).sweep = x := rfl
@[simp] theorem State.setSweep_faces (s : State) (x : SweepBlock) : (s.setSweep x).faces = s.faces := rfl
@[simp] theorem State.setSweep_elem (s : State) (x : SweepBlock) : (s.setSweep x).elem = s.elem := rfl
@[simp] theorem State.setSweep_plan (s : State) (x : SweepBlock) : (s.setSweep x).plan = s.plan := rfl
@[simp] theorem State.setSweep_poss (s : State) (x : SweepBlock) : (s.setSweep x).poss = s.poss := rfl
@[simp] theorem State.setSweep_sup (s : State) (x : SweepBlock) : (s.setSweep x).sup = s.sup := rfl
@[simp] theorem State.setSweep_fault (s : State) (x : SweepBlock) : (s.setSweep x).fault = s.fault := rfl
@[simp] theorem State.setSweep_store (s : State) (x : SweepBlock) : (s.setSweep x).store = s.store := rfl
@[simp] theorem State.setSweep_pending (s : State) (x : SweepBlock) : (s.setSweep x).pending = s.pending := rfl

/-! ### State.setFaces -/

@[simp] theorem State.setFaces_phase (s : State) (x : FacePair) : (s.setFaces x).phase = s.phase := rfl
@[simp] theorem State.setFaces_line (s : State) (x : FacePair) : (s.setFaces x).line = s.line := rfl
@[simp] theorem State.setFaces_node (s : State) (x : FacePair) : (s.setFaces x).node = s.node := rfl
@[simp] theorem State.setFaces_sweep (s : State) (x : FacePair) : (s.setFaces x).sweep = s.sweep := rfl
@[simp] theorem State.setFaces_faces (s : State) (x : FacePair) : (s.setFaces x).faces = x := rfl
@[simp] theorem State.setFaces_elem (s : State) (x : FacePair) : (s.setFaces x).elem = s.elem := rfl
@[simp] theorem State.setFaces_plan (s : State) (x : FacePair) : (s.setFaces x).plan = s.plan := rfl
@[simp] theorem State.setFaces_poss (s : State) (x : FacePair) : (s.setFaces x).poss = s.poss := rfl
@[simp] theorem State.setFaces_sup (s : State) (x : FacePair) : (s.setFaces x).sup = s.sup := rfl
@[simp] theorem State.setFaces_fault (s : State) (x : FacePair) : (s.setFaces x).fault = s.fault := rfl
@[simp] theorem State.setFaces_store (s : State) (x : FacePair) : (s.setFaces x).store = s.store := rfl
@[simp] theorem State.setFaces_pending (s : State) (x : FacePair) : (s.setFaces x).pending = s.pending := rfl

/-! ### State.setElem -/

@[simp] theorem State.setElem_phase (s : State) (x : ElementBlock) : (s.setElem x).phase = s.phase := rfl
@[simp] theorem State.setElem_line (s : State) (x : ElementBlock) : (s.setElem x).line = s.line := rfl
@[simp] theorem State.setElem_node (s : State) (x : ElementBlock) : (s.setElem x).node = s.node := rfl
@[simp] theorem State.setElem_sweep (s : State) (x : ElementBlock) : (s.setElem x).sweep = s.sweep := rfl
@[simp] theorem State.setElem_faces (s : State) (x : ElementBlock) : (s.setElem x).faces = s.faces := rfl
@[simp] theorem State.setElem_elem (s : State) (x : ElementBlock) : (s.setElem x).elem = x := rfl
@[simp] theorem State.setElem_plan (s : State) (x : ElementBlock) : (s.setElem x).plan = s.plan := rfl
@[simp] theorem State.setElem_poss (s : State) (x : ElementBlock) : (s.setElem x).poss = s.poss := rfl
@[simp] theorem State.setElem_sup (s : State) (x : ElementBlock) : (s.setElem x).sup = s.sup := rfl
@[simp] theorem State.setElem_fault (s : State) (x : ElementBlock) : (s.setElem x).fault = s.fault := rfl
@[simp] theorem State.setElem_store (s : State) (x : ElementBlock) : (s.setElem x).store = s.store := rfl
@[simp] theorem State.setElem_pending (s : State) (x : ElementBlock) : (s.setElem x).pending = s.pending := rfl

/-! ### State.setPlan -/

@[simp] theorem State.setPlan_phase (s : State) (x : PlanBlock) : (s.setPlan x).phase = s.phase := rfl
@[simp] theorem State.setPlan_line (s : State) (x : PlanBlock) : (s.setPlan x).line = s.line := rfl
@[simp] theorem State.setPlan_node (s : State) (x : PlanBlock) : (s.setPlan x).node = s.node := rfl
@[simp] theorem State.setPlan_sweep (s : State) (x : PlanBlock) : (s.setPlan x).sweep = s.sweep := rfl
@[simp] theorem State.setPlan_faces (s : State) (x : PlanBlock) : (s.setPlan x).faces = s.faces := rfl
@[simp] theorem State.setPlan_elem (s : State) (x : PlanBlock) : (s.setPlan x).elem = s.elem := rfl
@[simp] theorem State.setPlan_plan (s : State) (x : PlanBlock) : (s.setPlan x).plan = x := rfl
@[simp] theorem State.setPlan_poss (s : State) (x : PlanBlock) : (s.setPlan x).poss = s.poss := rfl
@[simp] theorem State.setPlan_sup (s : State) (x : PlanBlock) : (s.setPlan x).sup = s.sup := rfl
@[simp] theorem State.setPlan_fault (s : State) (x : PlanBlock) : (s.setPlan x).fault = s.fault := rfl
@[simp] theorem State.setPlan_store (s : State) (x : PlanBlock) : (s.setPlan x).store = s.store := rfl
@[simp] theorem State.setPlan_pending (s : State) (x : PlanBlock) : (s.setPlan x).pending = s.pending := rfl

/-! ### State.setPoss -/

@[simp] theorem State.setPoss_phase (s : State) (x : PossBlock) : (s.setPoss x).phase = s.phase := rfl
@[simp] theorem State.setPoss_line (s : State) (x : PossBlock) : (s.setPoss x).line = s.line := rfl
@[simp] theorem State.setPoss_node (s : State) (x : PossBlock) : (s.setPoss x).node = s.node := rfl
@[simp] theorem State.setPoss_sweep (s : State) (x : PossBlock) : (s.setPoss x).sweep = s.sweep := rfl
@[simp] theorem State.setPoss_faces (s : State) (x : PossBlock) : (s.setPoss x).faces = s.faces := rfl
@[simp] theorem State.setPoss_elem (s : State) (x : PossBlock) : (s.setPoss x).elem = s.elem := rfl
@[simp] theorem State.setPoss_plan (s : State) (x : PossBlock) : (s.setPoss x).plan = s.plan := rfl
@[simp] theorem State.setPoss_poss (s : State) (x : PossBlock) : (s.setPoss x).poss = x := rfl
@[simp] theorem State.setPoss_sup (s : State) (x : PossBlock) : (s.setPoss x).sup = s.sup := rfl
@[simp] theorem State.setPoss_fault (s : State) (x : PossBlock) : (s.setPoss x).fault = s.fault := rfl
@[simp] theorem State.setPoss_store (s : State) (x : PossBlock) : (s.setPoss x).store = s.store := rfl
@[simp] theorem State.setPoss_pending (s : State) (x : PossBlock) : (s.setPoss x).pending = s.pending := rfl

/-! ### State.setSup -/

@[simp] theorem State.setSup_phase (s : State) (x : SupBlock) : (s.setSup x).phase = s.phase := rfl
@[simp] theorem State.setSup_line (s : State) (x : SupBlock) : (s.setSup x).line = s.line := rfl
@[simp] theorem State.setSup_node (s : State) (x : SupBlock) : (s.setSup x).node = s.node := rfl
@[simp] theorem State.setSup_sweep (s : State) (x : SupBlock) : (s.setSup x).sweep = s.sweep := rfl
@[simp] theorem State.setSup_faces (s : State) (x : SupBlock) : (s.setSup x).faces = s.faces := rfl
@[simp] theorem State.setSup_elem (s : State) (x : SupBlock) : (s.setSup x).elem = s.elem := rfl
@[simp] theorem State.setSup_plan (s : State) (x : SupBlock) : (s.setSup x).plan = s.plan := rfl
@[simp] theorem State.setSup_poss (s : State) (x : SupBlock) : (s.setSup x).poss = s.poss := rfl
@[simp] theorem State.setSup_sup (s : State) (x : SupBlock) : (s.setSup x).sup = x := rfl
@[simp] theorem State.setSup_fault (s : State) (x : SupBlock) : (s.setSup x).fault = s.fault := rfl
@[simp] theorem State.setSup_store (s : State) (x : SupBlock) : (s.setSup x).store = s.store := rfl
@[simp] theorem State.setSup_pending (s : State) (x : SupBlock) : (s.setSup x).pending = s.pending := rfl

/-! ### State.setFault -/

@[simp] theorem State.setFault_phase (s : State) (x : FaultBlock) : (s.setFault x).phase = s.phase := rfl
@[simp] theorem State.setFault_line (s : State) (x : FaultBlock) : (s.setFault x).line = s.line := rfl
@[simp] theorem State.setFault_node (s : State) (x : FaultBlock) : (s.setFault x).node = s.node := rfl
@[simp] theorem State.setFault_sweep (s : State) (x : FaultBlock) : (s.setFault x).sweep = s.sweep := rfl
@[simp] theorem State.setFault_faces (s : State) (x : FaultBlock) : (s.setFault x).faces = s.faces := rfl
@[simp] theorem State.setFault_elem (s : State) (x : FaultBlock) : (s.setFault x).elem = s.elem := rfl
@[simp] theorem State.setFault_plan (s : State) (x : FaultBlock) : (s.setFault x).plan = s.plan := rfl
@[simp] theorem State.setFault_poss (s : State) (x : FaultBlock) : (s.setFault x).poss = s.poss := rfl
@[simp] theorem State.setFault_sup (s : State) (x : FaultBlock) : (s.setFault x).sup = s.sup := rfl
@[simp] theorem State.setFault_fault (s : State) (x : FaultBlock) : (s.setFault x).fault = x := rfl
@[simp] theorem State.setFault_store (s : State) (x : FaultBlock) : (s.setFault x).store = s.store := rfl
@[simp] theorem State.setFault_pending (s : State) (x : FaultBlock) : (s.setFault x).pending = s.pending := rfl

/-! ### State.setStore -/

@[simp] theorem State.setStore_phase (s : State) (x : StorageBlock) : (s.setStore x).phase = s.phase := rfl
@[simp] theorem State.setStore_line (s : State) (x : StorageBlock) : (s.setStore x).line = s.line := rfl
@[simp] theorem State.setStore_node (s : State) (x : StorageBlock) : (s.setStore x).node = s.node := rfl
@[simp] theorem State.setStore_sweep (s : State) (x : StorageBlock) : (s.setStore x).sweep = s.sweep := rfl
@[simp] theorem State.setStore_faces (s : State) (x : StorageBlock) : (s.setStore x).faces = s.faces := rfl
@[simp] theorem State.setStore_elem (s : State) (x : StorageBlock) : (s.setStore x).elem = s.elem := rfl
@[simp] theorem State.setStore_plan (s : State) (x : StorageBlock) : (s.setStore x).plan = s.plan := rfl
@[simp] theorem State.setStore_poss (s : State) (x : StorageBlock) : (s.setStore x).poss = s.poss := rfl
@[simp] theorem State.setStore_sup (s : State) (x : StorageBlock) : (s.setStore x).sup = s.sup := rfl
@[simp] theorem State.setStore_fault (s : State) (x : StorageBlock) : (s.setStore x).fault = s.fault := rfl
@[simp] theorem State.setStore_store (s : State) (x : StorageBlock) : (s.setStore x).store = x := rfl
@[simp] theorem State.setStore_pending (s : State) (x : StorageBlock) : (s.setStore x).pending = s.pending := rfl

/-! ### State.setPending -/

@[simp] theorem State.setPending_phase (s : State) (x : List Instr) : (s.setPending x).phase = s.phase := rfl
@[simp] theorem State.setPending_line (s : State) (x : List Instr) : (s.setPending x).line = s.line := rfl
@[simp] theorem State.setPending_node (s : State) (x : List Instr) : (s.setPending x).node = s.node := rfl
@[simp] theorem State.setPending_sweep (s : State) (x : List Instr) : (s.setPending x).sweep = s.sweep := rfl
@[simp] theorem State.setPending_faces (s : State) (x : List Instr) : (s.setPending x).faces = s.faces := rfl
@[simp] theorem State.setPending_elem (s : State) (x : List Instr) : (s.setPending x).elem = s.elem := rfl
@[simp] theorem State.setPending_plan (s : State) (x : List Instr) : (s.setPending x).plan = s.plan := rfl
@[simp] theorem State.setPending_poss (s : State) (x : List Instr) : (s.setPending x).poss = s.poss := rfl
@[simp] theorem State.setPending_sup (s : State) (x : List Instr) : (s.setPending x).sup = s.sup := rfl
@[simp] theorem State.setPending_fault (s : State) (x : List Instr) : (s.setPending x).fault = s.fault := rfl
@[simp] theorem State.setPending_store (s : State) (x : List Instr) : (s.setPending x).store = s.store := rfl
@[simp] theorem State.setPending_pending (s : State) (x : List Instr) : (s.setPending x).pending = x := rfl

/-! ### State.setFace -/

@[simp] theorem State.setFace_phase (s : State) (f : Face) (r : FaceRecord) : (s.setFace f r).phase = s.phase := by cases f <;> rfl
@[simp] theorem State.setFace_line (s : State) (f : Face) (r : FaceRecord) : (s.setFace f r).line = s.line := by cases f <;> rfl
@[simp] theorem State.setFace_node (s : State) (f : Face) (r : FaceRecord) : (s.setFace f r).node = s.node := by cases f <;> rfl
@[simp] theorem State.setFace_sweep (s : State) (f : Face) (r : FaceRecord) : (s.setFace f r).sweep = s.sweep := by cases f <;> rfl
@[simp] theorem State.setFace_elem (s : State) (f : Face) (r : FaceRecord) : (s.setFace f r).elem = s.elem := by cases f <;> rfl
@[simp] theorem State.setFace_plan (s : State) (f : Face) (r : FaceRecord) : (s.setFace f r).plan = s.plan := by cases f <;> rfl
@[simp] theorem State.setFace_poss (s : State) (f : Face) (r : FaceRecord) : (s.setFace f r).poss = s.poss := by cases f <;> rfl
@[simp] theorem State.setFace_sup (s : State) (f : Face) (r : FaceRecord) : (s.setFace f r).sup = s.sup := by cases f <;> rfl
@[simp] theorem State.setFace_fault (s : State) (f : Face) (r : FaceRecord) : (s.setFace f r).fault = s.fault := by cases f <;> rfl
@[simp] theorem State.setFace_store (s : State) (f : Face) (r : FaceRecord) : (s.setFace f r).store = s.store := by cases f <;> rfl
@[simp] theorem State.setFace_pending (s : State) (f : Face) (r : FaceRecord) : (s.setFace f r).pending = s.pending := by cases f <;> rfl

@[simp] theorem State.setFace_face (s : State) (f : Face) (r : FaceRecord) : (s.setFace f r).face f = r := by
  cases f <;> rfl
@[simp] theorem State.setFace_face_other (s : State) (f : Face) (r : FaceRecord) :
    (s.setFace f r).face (otherFace f) = s.face (otherFace f) := by cases f <;> rfl

/-! ### State.setChannels -/

@[simp] theorem State.setChannels_phase (s : State) (f : Face) (c : FaceChannels) : (s.setChannels f c).phase = s.phase := by cases f <;> rfl
@[simp] theorem State.setChannels_line (s : State) (f : Face) (c : FaceChannels) : (s.setChannels f c).line = s.line := by cases f <;> rfl
@[simp] theorem State.setChannels_node (s : State) (f : Face) (c : FaceChannels) : (s.setChannels f c).node = s.node := by cases f <;> rfl
@[simp] theorem State.setChannels_sweep (s : State) (f : Face) (c : FaceChannels) : (s.setChannels f c).sweep = s.sweep := by cases f <;> rfl
@[simp] theorem State.setChannels_faces (s : State) (f : Face) (c : FaceChannels) : (s.setChannels f c).faces = s.faces := by cases f <;> rfl
@[simp] theorem State.setChannels_plan (s : State) (f : Face) (c : FaceChannels) : (s.setChannels f c).plan = s.plan := by cases f <;> rfl
@[simp] theorem State.setChannels_poss (s : State) (f : Face) (c : FaceChannels) : (s.setChannels f c).poss = s.poss := by cases f <;> rfl
@[simp] theorem State.setChannels_sup (s : State) (f : Face) (c : FaceChannels) : (s.setChannels f c).sup = s.sup := by cases f <;> rfl
@[simp] theorem State.setChannels_fault (s : State) (f : Face) (c : FaceChannels) : (s.setChannels f c).fault = s.fault := by cases f <;> rfl
@[simp] theorem State.setChannels_store (s : State) (f : Face) (c : FaceChannels) : (s.setChannels f c).store = s.store := by cases f <;> rfl
@[simp] theorem State.setChannels_pending (s : State) (f : Face) (c : FaceChannels) : (s.setChannels f c).pending = s.pending := by cases f <;> rfl

@[simp] theorem State.setChannels_channels (s : State) (f : Face) (c : FaceChannels) :
    (s.setChannels f c).channels f = c := by cases f <;> rfl
@[simp] theorem State.setChannels_channels_other (s : State) (f : Face) (c : FaceChannels) :
    (s.setChannels f c).channels (otherFace f) = s.channels (otherFace f) := by cases f <;> rfl
@[simp] theorem State.setChannels_config (s : State) (f g : Face) (c : FaceChannels) :
    (s.setChannels f c).config g = s.config g := by cases f <;> cases g <;> rfl
@[simp] theorem State.setFace_channels (s : State) (f g : Face) (r : FaceRecord) :
    (s.setFace f r).channels g = s.channels g := by cases f <;> cases g <;> rfl
@[simp] theorem State.setChannels_face (s : State) (f g : Face) (c : FaceChannels) :
    (s.setChannels f c).face g = s.face g := by cases f <;> cases g <;> rfl

/-! ### State.setShutter -/

@[simp] theorem State.setShutter_phase (s : State) (f : Face) (k : Shutter) (c : ShutterChannel) : (s.setShutter f k c).phase = s.phase := by cases f <;> rfl
@[simp] theorem State.setShutter_line (s : State) (f : Face) (k : Shutter) (c : ShutterChannel) : (s.setShutter f k c).line = s.line := by cases f <;> rfl
@[simp] theorem State.setShutter_node (s : State) (f : Face) (k : Shutter) (c : ShutterChannel) : (s.setShutter f k c).node = s.node := by cases f <;> rfl
@[simp] theorem State.setShutter_sweep (s : State) (f : Face) (k : Shutter) (c : ShutterChannel) : (s.setShutter f k c).sweep = s.sweep := by cases f <;> rfl
@[simp] theorem State.setShutter_faces (s : State) (f : Face) (k : Shutter) (c : ShutterChannel) : (s.setShutter f k c).faces = s.faces := by cases f <;> rfl
@[simp] theorem State.setShutter_plan (s : State) (f : Face) (k : Shutter) (c : ShutterChannel) : (s.setShutter f k c).plan = s.plan := by cases f <;> rfl
@[simp] theorem State.setShutter_poss (s : State) (f : Face) (k : Shutter) (c : ShutterChannel) : (s.setShutter f k c).poss = s.poss := by cases f <;> rfl
@[simp] theorem State.setShutter_sup (s : State) (f : Face) (k : Shutter) (c : ShutterChannel) : (s.setShutter f k c).sup = s.sup := by cases f <;> rfl
@[simp] theorem State.setShutter_fault (s : State) (f : Face) (k : Shutter) (c : ShutterChannel) : (s.setShutter f k c).fault = s.fault := by cases f <;> rfl
@[simp] theorem State.setShutter_store (s : State) (f : Face) (k : Shutter) (c : ShutterChannel) : (s.setShutter f k c).store = s.store := by cases f <;> rfl
@[simp] theorem State.setShutter_pending (s : State) (f : Face) (k : Shutter) (c : ShutterChannel) : (s.setShutter f k c).pending = s.pending := by cases f <;> rfl

@[simp] theorem FaceChannels.setShutter_shutter (c : FaceChannels) (k : Shutter) (x : ShutterChannel) :
    (c.setShutter k x).shutter k = x := by cases k <;> rfl
@[simp] theorem FaceChannels.setShutter_lamp (c : FaceChannels) (k : Shutter) (x : ShutterChannel) :
    (c.setShutter k x).lamp = c.lamp := by cases k <;> rfl
@[simp] theorem State.setShutter_shutter (s : State) (f : Face) (k : Shutter) (c : ShutterChannel) :
    (s.setShutter f k c).shutter f k = c := by cases f <;> cases k <;> rfl
@[simp] theorem State.setShutter_lamp (s : State) (f g : Face) (k : Shutter) (c : ShutterChannel) :
    (s.setShutter f k c).lamp g = s.lamp g := by cases f <;> cases g <;> cases k <;> rfl
@[simp] theorem State.setShutter_face (s : State) (f g : Face) (k : Shutter) (c : ShutterChannel) :
    (s.setShutter f k c).face g = s.face g := by cases f <;> cases g <;> rfl
@[simp] theorem State.setShutter_config (s : State) (f g : Face) (k : Shutter) (c : ShutterChannel) :
    (s.setShutter f k c).config g = s.config g := by cases f <;> cases g <;> rfl

/-! ### State.setLamp -/

@[simp] theorem State.setLamp_phase (s : State) (f : Face) (c : LampChannel) : (s.setLamp f c).phase = s.phase := by cases f <;> rfl
@[simp] theorem State.setLamp_line (s : State) (f : Face) (c : LampChannel) : (s.setLamp f c).line = s.line := by cases f <;> rfl
@[simp] theorem State.setLamp_node (s : State) (f : Face) (c : LampChannel) : (s.setLamp f c).node = s.node := by cases f <;> rfl
@[simp] theorem State.setLamp_sweep (s : State) (f : Face) (c : LampChannel) : (s.setLamp f c).sweep = s.sweep := by cases f <;> rfl
@[simp] theorem State.setLamp_faces (s : State) (f : Face) (c : LampChannel) : (s.setLamp f c).faces = s.faces := by cases f <;> rfl
@[simp] theorem State.setLamp_plan (s : State) (f : Face) (c : LampChannel) : (s.setLamp f c).plan = s.plan := by cases f <;> rfl
@[simp] theorem State.setLamp_poss (s : State) (f : Face) (c : LampChannel) : (s.setLamp f c).poss = s.poss := by cases f <;> rfl
@[simp] theorem State.setLamp_sup (s : State) (f : Face) (c : LampChannel) : (s.setLamp f c).sup = s.sup := by cases f <;> rfl
@[simp] theorem State.setLamp_fault (s : State) (f : Face) (c : LampChannel) : (s.setLamp f c).fault = s.fault := by cases f <;> rfl
@[simp] theorem State.setLamp_store (s : State) (f : Face) (c : LampChannel) : (s.setLamp f c).store = s.store := by cases f <;> rfl
@[simp] theorem State.setLamp_pending (s : State) (f : Face) (c : LampChannel) : (s.setLamp f c).pending = s.pending := by cases f <;> rfl

@[simp] theorem State.setLamp_lamp (s : State) (f : Face) (c : LampChannel) : (s.setLamp f c).lamp f = c := by
  cases f <;> rfl
@[simp] theorem State.setLamp_shutter (s : State) (f g : Face) (k : Shutter) (c : LampChannel) :
    (s.setLamp f c).shutter g k = s.shutter g k := by cases f <;> cases g <;> cases k <;> rfl
@[simp] theorem State.setLamp_face (s : State) (f g : Face) (c : LampChannel) :
    (s.setLamp f c).face g = s.face g := by cases f <;> cases g <;> rfl
@[simp] theorem State.setLamp_config (s : State) (f g : Face) (c : LampChannel) :
    (s.setLamp f c).config g = s.config g := by cases f <;> cases g <;> rfl
@[simp] theorem State.setFace_shutter (s : State) (f g : Face) (k : Shutter) (r : FaceRecord) :
    (s.setFace f r).shutter g k = s.shutter g k := by cases f <;> cases g <;> rfl
@[simp] theorem State.setFace_lamp (s : State) (f g : Face) (r : FaceRecord) :
    (s.setFace f r).lamp g = s.lamp g := by cases f <;> cases g <;> rfl
@[simp] theorem State.setFace_config (s : State) (f g : Face) (r : FaceRecord) :
    (s.setFace f r).config g = s.config g := by cases f <;> cases g <;> rfl

/-! ### State.setConfig -/

@[simp] theorem State.setConfig_phase (s : State) (f : Face) (c : FaceConfig) : (s.setConfig f c).phase = s.phase := by cases f <;> rfl
@[simp] theorem State.setConfig_line (s : State) (f : Face) (c : FaceConfig) : (s.setConfig f c).line = s.line := by cases f <;> rfl
@[simp] theorem State.setConfig_node (s : State) (f : Face) (c : FaceConfig) : (s.setConfig f c).node = s.node := by cases f <;> rfl
@[simp] theorem State.setConfig_sweep (s : State) (f : Face) (c : FaceConfig) : (s.setConfig f c).sweep = s.sweep := by cases f <;> rfl
@[simp] theorem State.setConfig_faces (s : State) (f : Face) (c : FaceConfig) : (s.setConfig f c).faces = s.faces := by cases f <;> rfl
@[simp] theorem State.setConfig_plan (s : State) (f : Face) (c : FaceConfig) : (s.setConfig f c).plan = s.plan := by cases f <;> rfl
@[simp] theorem State.setConfig_poss (s : State) (f : Face) (c : FaceConfig) : (s.setConfig f c).poss = s.poss := by cases f <;> rfl
@[simp] theorem State.setConfig_sup (s : State) (f : Face) (c : FaceConfig) : (s.setConfig f c).sup = s.sup := by cases f <;> rfl
@[simp] theorem State.setConfig_fault (s : State) (f : Face) (c : FaceConfig) : (s.setConfig f c).fault = s.fault := by cases f <;> rfl
@[simp] theorem State.setConfig_store (s : State) (f : Face) (c : FaceConfig) : (s.setConfig f c).store = s.store := by cases f <;> rfl
@[simp] theorem State.setConfig_pending (s : State) (f : Face) (c : FaceConfig) : (s.setConfig f c).pending = s.pending := by cases f <;> rfl

@[simp] theorem State.setConfig_config (s : State) (f : Face) (c : FaceConfig) :
    (s.setConfig f c).config f = c := by cases f <;> rfl
@[simp] theorem State.setConfig_channels (s : State) (f g : Face) (c : FaceConfig) :
    (s.setConfig f c).channels g = s.channels g := by cases f <;> cases g <;> rfl

/-! ### State.setDetails -/

@[simp] theorem State.setDetails_phase (s : State) (f : Face) (d : FaceDetails) : (s.setDetails f d).phase = s.phase := by cases f <;> rfl
@[simp] theorem State.setDetails_line (s : State) (f : Face) (d : FaceDetails) : (s.setDetails f d).line = s.line := by cases f <;> rfl
@[simp] theorem State.setDetails_node (s : State) (f : Face) (d : FaceDetails) : (s.setDetails f d).node = s.node := by cases f <;> rfl
@[simp] theorem State.setDetails_sweep (s : State) (f : Face) (d : FaceDetails) : (s.setDetails f d).sweep = s.sweep := by cases f <;> rfl
@[simp] theorem State.setDetails_faces (s : State) (f : Face) (d : FaceDetails) : (s.setDetails f d).faces = s.faces := by cases f <;> rfl
@[simp] theorem State.setDetails_elem (s : State) (f : Face) (d : FaceDetails) : (s.setDetails f d).elem = s.elem := by cases f <;> rfl
@[simp] theorem State.setDetails_plan (s : State) (f : Face) (d : FaceDetails) : (s.setDetails f d).plan = s.plan := by cases f <;> rfl
@[simp] theorem State.setDetails_poss (s : State) (f : Face) (d : FaceDetails) : (s.setDetails f d).poss = s.poss := by cases f <;> rfl
@[simp] theorem State.setDetails_sup (s : State) (f : Face) (d : FaceDetails) : (s.setDetails f d).sup = s.sup := by cases f <;> rfl
@[simp] theorem State.setDetails_store (s : State) (f : Face) (d : FaceDetails) : (s.setDetails f d).store = s.store := by cases f <;> rfl
@[simp] theorem State.setDetails_pending (s : State) (f : Face) (d : FaceDetails) : (s.setDetails f d).pending = s.pending := by cases f <;> rfl

@[simp] theorem State.setDetails_latches (s : State) (f : Face) (d : FaceDetails) :
    (s.setDetails f d).fault.latches = s.fault.latches := by cases f <;> rfl
@[simp] theorem State.setDetails_masks (s : State) (f : Face) (d : FaceDetails) :
    (s.setDetails f d).fault.masks = s.fault.masks := by cases f <;> rfl

/-! ### State.latch -/

@[simp] theorem State.latch_phase (s : State) (c : FaultClass) : (s.latch c).phase = s.phase := rfl
@[simp] theorem State.latch_line (s : State) (c : FaultClass) : (s.latch c).line = s.line := rfl
@[simp] theorem State.latch_node (s : State) (c : FaultClass) : (s.latch c).node = s.node := rfl
@[simp] theorem State.latch_sweep (s : State) (c : FaultClass) : (s.latch c).sweep = s.sweep := rfl
@[simp] theorem State.latch_faces (s : State) (c : FaultClass) : (s.latch c).faces = s.faces := rfl
@[simp] theorem State.latch_elem (s : State) (c : FaultClass) : (s.latch c).elem = s.elem := rfl
@[simp] theorem State.latch_plan (s : State) (c : FaultClass) : (s.latch c).plan = s.plan := rfl
@[simp] theorem State.latch_poss (s : State) (c : FaultClass) : (s.latch c).poss = s.poss := rfl
@[simp] theorem State.latch_sup (s : State) (c : FaultClass) : (s.latch c).sup = s.sup := rfl
@[simp] theorem State.latch_store (s : State) (c : FaultClass) : (s.latch c).store = s.store := rfl
@[simp] theorem State.latch_pending (s : State) (c : FaultClass) : (s.latch c).pending = s.pending := rfl

/-! ### State.latchIf -/

@[simp] theorem State.latchIf_phase (s : State) (b : Bool) (c : FaultClass) : (s.latchIf b c).phase = s.phase := by cases b <;> rfl
@[simp] theorem State.latchIf_line (s : State) (b : Bool) (c : FaultClass) : (s.latchIf b c).line = s.line := by cases b <;> rfl
@[simp] theorem State.latchIf_node (s : State) (b : Bool) (c : FaultClass) : (s.latchIf b c).node = s.node := by cases b <;> rfl
@[simp] theorem State.latchIf_sweep (s : State) (b : Bool) (c : FaultClass) : (s.latchIf b c).sweep = s.sweep := by cases b <;> rfl
@[simp] theorem State.latchIf_faces (s : State) (b : Bool) (c : FaultClass) : (s.latchIf b c).faces = s.faces := by cases b <;> rfl
@[simp] theorem State.latchIf_elem (s : State) (b : Bool) (c : FaultClass) : (s.latchIf b c).elem = s.elem := by cases b <;> rfl
@[simp] theorem State.latchIf_plan (s : State) (b : Bool) (c : FaultClass) : (s.latchIf b c).plan = s.plan := by cases b <;> rfl
@[simp] theorem State.latchIf_poss (s : State) (b : Bool) (c : FaultClass) : (s.latchIf b c).poss = s.poss := by cases b <;> rfl
@[simp] theorem State.latchIf_sup (s : State) (b : Bool) (c : FaultClass) : (s.latchIf b c).sup = s.sup := by cases b <;> rfl
@[simp] theorem State.latchIf_store (s : State) (b : Bool) (c : FaultClass) : (s.latchIf b c).store = s.store := by cases b <;> rfl
@[simp] theorem State.latchIf_pending (s : State) (b : Bool) (c : FaultClass) : (s.latchIf b c).pending = s.pending := by cases b <;> rfl

/-! ### State.countSuperseded -/

@[simp] theorem State.countSuperseded_phase (s : State)  : (s.countSuperseded).phase = s.phase := rfl
@[simp] theorem State.countSuperseded_line (s : State)  : (s.countSuperseded).line = s.line := rfl
@[simp] theorem State.countSuperseded_node (s : State)  : (s.countSuperseded).node = s.node := rfl
@[simp] theorem State.countSuperseded_sweep (s : State)  : (s.countSuperseded).sweep = s.sweep := rfl
@[simp] theorem State.countSuperseded_faces (s : State)  : (s.countSuperseded).faces = s.faces := rfl
@[simp] theorem State.countSuperseded_elem (s : State)  : (s.countSuperseded).elem = s.elem := rfl
@[simp] theorem State.countSuperseded_plan (s : State)  : (s.countSuperseded).plan = s.plan := rfl
@[simp] theorem State.countSuperseded_poss (s : State)  : (s.countSuperseded).poss = s.poss := rfl
@[simp] theorem State.countSuperseded_sup (s : State)  : (s.countSuperseded).sup = s.sup := rfl
@[simp] theorem State.countSuperseded_store (s : State)  : (s.countSuperseded).store = s.store := rfl
@[simp] theorem State.countSuperseded_pending (s : State)  : (s.countSuperseded).pending = s.pending := rfl

@[simp] theorem State.latch_latches (s : State) (c : FaultClass) :
    (s.latch c).fault.latches = s.fault.latches ||| c.bit := rfl
@[simp] theorem State.latch_masks (s : State) (c : FaultClass) : (s.latch c).fault.masks = s.fault.masks := rfl

/-- A latch once set reads as set. -/
theorem State.latch_latched (s : State) (c : FaultClass) : (s.latch c).latched c = true := by
  cases c <;> simp [State.latched, hasClass, FaultClass.bit, FaultClass.index]

/-- Setting a latch leaves every other latch. -/
theorem State.latch_latched_other (s : State) (c d : FaultClass) (h : c ≠ d) :
    (s.latch c).latched d = s.latched d := by
  cases c <;> cases d <;> simp_all [State.latched, hasClass, FaultClass.bit, FaultClass.index]

end Sys2Proof.Machine
end

