-- ==== Sys2Proof/Laws/Faces.lean ====
section
/-! SUPPORT. Frames: what the counters', the element block's, the face controller's and the gates' operations leave unchanged, one lemma per
operation and block. Later proofs read a block after an operation by these and unfold no operation. -/

namespace Sys2Proof.Machine

/-! ### countGood -/

@[simp] theorem State.countGood_phase (s : State) (p : Port) : (s.countGood p).phase = s.phase := rfl
@[simp] theorem State.countGood_node (s : State) (p : Port) : (s.countGood p).node = s.node := rfl
@[simp] theorem State.countGood_sweep (s : State) (p : Port) : (s.countGood p).sweep = s.sweep := rfl
@[simp] theorem State.countGood_faces (s : State) (p : Port) : (s.countGood p).faces = s.faces := rfl
@[simp] theorem State.countGood_elem (s : State) (p : Port) : (s.countGood p).elem = s.elem := rfl
@[simp] theorem State.countGood_plan (s : State) (p : Port) : (s.countGood p).plan = s.plan := rfl
@[simp] theorem State.countGood_poss (s : State) (p : Port) : (s.countGood p).poss = s.poss := rfl
@[simp] theorem State.countGood_sup (s : State) (p : Port) : (s.countGood p).sup = s.sup := rfl
@[simp] theorem State.countGood_fault (s : State) (p : Port) : (s.countGood p).fault = s.fault := rfl
@[simp] theorem State.countGood_store (s : State) (p : Port) : (s.countGood p).store = s.store := rfl
@[simp] theorem State.countGood_pending (s : State) (p : Port) : (s.countGood p).pending = s.pending := rfl

/-! ### countFraming -/

@[simp] theorem State.countFraming_phase (s : State) (p : Port) : (s.countFraming p).phase = s.phase := rfl
@[simp] theorem State.countFraming_node (s : State) (p : Port) : (s.countFraming p).node = s.node := rfl
@[simp] theorem State.countFraming_sweep (s : State) (p : Port) : (s.countFraming p).sweep = s.sweep := rfl
@[simp] theorem State.countFraming_faces (s : State) (p : Port) : (s.countFraming p).faces = s.faces := rfl
@[simp] theorem State.countFraming_elem (s : State) (p : Port) : (s.countFraming p).elem = s.elem := rfl
@[simp] theorem State.countFraming_plan (s : State) (p : Port) : (s.countFraming p).plan = s.plan := rfl
@[simp] theorem State.countFraming_poss (s : State) (p : Port) : (s.countFraming p).poss = s.poss := rfl
@[simp] theorem State.countFraming_sup (s : State) (p : Port) : (s.countFraming p).sup = s.sup := rfl
@[simp] theorem State.countFraming_store (s : State) (p : Port) : (s.countFraming p).store = s.store := rfl
@[simp] theorem State.countFraming_pending (s : State) (p : Port) : (s.countFraming p).pending = s.pending := rfl

/-! ### countCrc -/

@[simp] theorem State.countCrc_phase (s : State) (p : Port) : (s.countCrc p).phase = s.phase := rfl
@[simp] theorem State.countCrc_node (s : State) (p : Port) : (s.countCrc p).node = s.node := rfl
@[simp] theorem State.countCrc_sweep (s : State) (p : Port) : (s.countCrc p).sweep = s.sweep := rfl
@[simp] theorem State.countCrc_faces (s : State) (p : Port) : (s.countCrc p).faces = s.faces := rfl
@[simp] theorem State.countCrc_elem (s : State) (p : Port) : (s.countCrc p).elem = s.elem := rfl
@[simp] theorem State.countCrc_plan (s : State) (p : Port) : (s.countCrc p).plan = s.plan := rfl
@[simp] theorem State.countCrc_poss (s : State) (p : Port) : (s.countCrc p).poss = s.poss := rfl
@[simp] theorem State.countCrc_sup (s : State) (p : Port) : (s.countCrc p).sup = s.sup := rfl
@[simp] theorem State.countCrc_store (s : State) (p : Port) : (s.countCrc p).store = s.store := rfl
@[simp] theorem State.countCrc_pending (s : State) (p : Port) : (s.countCrc p).pending = s.pending := rfl

/-! ### countDirection -/

@[simp] theorem State.countDirection_phase (s : State) (p : Port) : (s.countDirection p).phase = s.phase := rfl
@[simp] theorem State.countDirection_node (s : State) (p : Port) : (s.countDirection p).node = s.node := rfl
@[simp] theorem State.countDirection_sweep (s : State) (p : Port) : (s.countDirection p).sweep = s.sweep := rfl
@[simp] theorem State.countDirection_faces (s : State) (p : Port) : (s.countDirection p).faces = s.faces := rfl
@[simp] theorem State.countDirection_elem (s : State) (p : Port) : (s.countDirection p).elem = s.elem := rfl
@[simp] theorem State.countDirection_plan (s : State) (p : Port) : (s.countDirection p).plan = s.plan := rfl
@[simp] theorem State.countDirection_poss (s : State) (p : Port) : (s.countDirection p).poss = s.poss := rfl
@[simp] theorem State.countDirection_sup (s : State) (p : Port) : (s.countDirection p).sup = s.sup := rfl
@[simp] theorem State.countDirection_store (s : State) (p : Port) : (s.countDirection p).store = s.store := rfl
@[simp] theorem State.countDirection_pending (s : State) (p : Port) : (s.countDirection p).pending = s.pending := rfl

/-! ### countOverrun -/

@[simp] theorem State.countOverrun_phase (s : State) (p : Port) : (s.countOverrun p).phase = s.phase := rfl
@[simp] theorem State.countOverrun_node (s : State) (p : Port) : (s.countOverrun p).node = s.node := rfl
@[simp] theorem State.countOverrun_sweep (s : State) (p : Port) : (s.countOverrun p).sweep = s.sweep := rfl
@[simp] theorem State.countOverrun_faces (s : State) (p : Port) : (s.countOverrun p).faces = s.faces := rfl
@[simp] theorem State.countOverrun_elem (s : State) (p : Port) : (s.countOverrun p).elem = s.elem := rfl
@[simp] theorem State.countOverrun_plan (s : State) (p : Port) : (s.countOverrun p).plan = s.plan := rfl
@[simp] theorem State.countOverrun_poss (s : State) (p : Port) : (s.countOverrun p).poss = s.poss := rfl
@[simp] theorem State.countOverrun_sup (s : State) (p : Port) : (s.countOverrun p).sup = s.sup := rfl
@[simp] theorem State.countOverrun_store (s : State) (p : Port) : (s.countOverrun p).store = s.store := rfl
@[simp] theorem State.countOverrun_pending (s : State) (p : Port) : (s.countOverrun p).pending = s.pending := rfl

/-! ### countUnknown -/

@[simp] theorem State.countUnknown_phase (s : State) (p : Port) : (s.countUnknown p).phase = s.phase := rfl
@[simp] theorem State.countUnknown_node (s : State) (p : Port) : (s.countUnknown p).node = s.node := rfl
@[simp] theorem State.countUnknown_sweep (s : State) (p : Port) : (s.countUnknown p).sweep = s.sweep := rfl
@[simp] theorem State.countUnknown_faces (s : State) (p : Port) : (s.countUnknown p).faces = s.faces := rfl
@[simp] theorem State.countUnknown_elem (s : State) (p : Port) : (s.countUnknown p).elem = s.elem := rfl
@[simp] theorem State.countUnknown_plan (s : State) (p : Port) : (s.countUnknown p).plan = s.plan := rfl
@[simp] theorem State.countUnknown_poss (s : State) (p : Port) : (s.countUnknown p).poss = s.poss := rfl
@[simp] theorem State.countUnknown_sup (s : State) (p : Port) : (s.countUnknown p).sup = s.sup := rfl
@[simp] theorem State.countUnknown_store (s : State) (p : Port) : (s.countUnknown p).store = s.store := rfl
@[simp] theorem State.countUnknown_pending (s : State) (p : Port) : (s.countUnknown p).pending = s.pending := rfl

/-! ### countError -/

@[simp] theorem State.countError_phase (s : State) (p : Port) (e : FrameError) : (s.countError p e).phase = s.phase := by
  unfold State.countError; split <;> simp
@[simp] theorem State.countError_node (s : State) (p : Port) (e : FrameError) : (s.countError p e).node = s.node := by
  unfold State.countError; split <;> simp
@[simp] theorem State.countError_sweep (s : State) (p : Port) (e : FrameError) : (s.countError p e).sweep = s.sweep := by
  unfold State.countError; split <;> simp
@[simp] theorem State.countError_faces (s : State) (p : Port) (e : FrameError) : (s.countError p e).faces = s.faces := by
  unfold State.countError; split <;> simp
@[simp] theorem State.countError_elem (s : State) (p : Port) (e : FrameError) : (s.countError p e).elem = s.elem := by
  unfold State.countError; split <;> simp
@[simp] theorem State.countError_plan (s : State) (p : Port) (e : FrameError) : (s.countError p e).plan = s.plan := by
  unfold State.countError; split <;> simp
@[simp] theorem State.countError_poss (s : State) (p : Port) (e : FrameError) : (s.countError p e).poss = s.poss := by
  unfold State.countError; split <;> simp
@[simp] theorem State.countError_sup (s : State) (p : Port) (e : FrameError) : (s.countError p e).sup = s.sup := by
  unfold State.countError; split <;> simp
@[simp] theorem State.countError_store (s : State) (p : Port) (e : FrameError) : (s.countError p e).store = s.store := by
  unfold State.countError; split <;> simp
@[simp] theorem State.countError_pending (s : State) (p : Port) (e : FrameError) : (s.countError p e).pending = s.pending := by
  unfold State.countError; split <;> simp

/-! ### reportShutter -/

@[simp] theorem State.reportShutter_phase (s : State) (f : Face) (k : Shutter) (x : ChannelFault) : (s.reportShutter f k x).phase = s.phase := by
  simp [State.reportShutter]
@[simp] theorem State.reportShutter_line (s : State) (f : Face) (k : Shutter) (x : ChannelFault) : (s.reportShutter f k x).line = s.line := by
  simp [State.reportShutter]
@[simp] theorem State.reportShutter_node (s : State) (f : Face) (k : Shutter) (x : ChannelFault) : (s.reportShutter f k x).node = s.node := by
  simp [State.reportShutter]
@[simp] theorem State.reportShutter_sweep (s : State) (f : Face) (k : Shutter) (x : ChannelFault) : (s.reportShutter f k x).sweep = s.sweep := by
  simp [State.reportShutter]
@[simp] theorem State.reportShutter_faces (s : State) (f : Face) (k : Shutter) (x : ChannelFault) : (s.reportShutter f k x).faces = s.faces := by
  simp [State.reportShutter]
@[simp] theorem State.reportShutter_plan (s : State) (f : Face) (k : Shutter) (x : ChannelFault) : (s.reportShutter f k x).plan = s.plan := by
  simp [State.reportShutter]
@[simp] theorem State.reportShutter_poss (s : State) (f : Face) (k : Shutter) (x : ChannelFault) : (s.reportShutter f k x).poss = s.poss := by
  simp [State.reportShutter]
@[simp] theorem State.reportShutter_sup (s : State) (f : Face) (k : Shutter) (x : ChannelFault) : (s.reportShutter f k x).sup = s.sup := by
  simp [State.reportShutter]
@[simp] theorem State.reportShutter_store (s : State) (f : Face) (k : Shutter) (x : ChannelFault) : (s.reportShutter f k x).store = s.store := by
  simp [State.reportShutter]
@[simp] theorem State.reportShutter_pending (s : State) (f : Face) (k : Shutter) (x : ChannelFault) : (s.reportShutter f k x).pending = s.pending := by
  simp [State.reportShutter]

/-! ### releaseShutter -/

@[simp] theorem State.releaseShutter_phase (s : State) (f : Face) (k : Shutter) : (s.releaseShutter f k).phase = s.phase := by
  simp [State.releaseShutter]
@[simp] theorem State.releaseShutter_line (s : State) (f : Face) (k : Shutter) : (s.releaseShutter f k).line = s.line := by
  simp [State.releaseShutter]
@[simp] theorem State.releaseShutter_node (s : State) (f : Face) (k : Shutter) : (s.releaseShutter f k).node = s.node := by
  simp [State.releaseShutter]
@[simp] theorem State.releaseShutter_sweep (s : State) (f : Face) (k : Shutter) : (s.releaseShutter f k).sweep = s.sweep := by
  simp [State.releaseShutter]
@[simp] theorem State.releaseShutter_faces (s : State) (f : Face) (k : Shutter) : (s.releaseShutter f k).faces = s.faces := by
  simp [State.releaseShutter]
@[simp] theorem State.releaseShutter_plan (s : State) (f : Face) (k : Shutter) : (s.releaseShutter f k).plan = s.plan := by
  simp [State.releaseShutter]
@[simp] theorem State.releaseShutter_poss (s : State) (f : Face) (k : Shutter) : (s.releaseShutter f k).poss = s.poss := by
  simp [State.releaseShutter]
@[simp] theorem State.releaseShutter_sup (s : State) (f : Face) (k : Shutter) : (s.releaseShutter f k).sup = s.sup := by
  simp [State.releaseShutter]
@[simp] theorem State.releaseShutter_fault (s : State) (f : Face) (k : Shutter) : (s.releaseShutter f k).fault = s.fault := by
  simp [State.releaseShutter]
@[simp] theorem State.releaseShutter_store (s : State) (f : Face) (k : Shutter) : (s.releaseShutter f k).store = s.store := by
  simp [State.releaseShutter]
@[simp] theorem State.releaseShutter_pending (s : State) (f : Face) (k : Shutter) : (s.releaseShutter f k).pending = s.pending := by
  simp [State.releaseShutter]

/-! ### releaseDriven -/

@[simp] theorem State.releaseDriven_phase (s : State) (f : Face) : (s.releaseDriven f).phase = s.phase := by
  simp [State.releaseDriven]
@[simp] theorem State.releaseDriven_line (s : State) (f : Face) : (s.releaseDriven f).line = s.line := by
  simp [State.releaseDriven]
@[simp] theorem State.releaseDriven_node (s : State) (f : Face) : (s.releaseDriven f).node = s.node := by
  simp [State.releaseDriven]
@[simp] theorem State.releaseDriven_sweep (s : State) (f : Face) : (s.releaseDriven f).sweep = s.sweep := by
  simp [State.releaseDriven]
@[simp] theorem State.releaseDriven_faces (s : State) (f : Face) : (s.releaseDriven f).faces = s.faces := by
  simp [State.releaseDriven]
@[simp] theorem State.releaseDriven_plan (s : State) (f : Face) : (s.releaseDriven f).plan = s.plan := by
  simp [State.releaseDriven]
@[simp] theorem State.releaseDriven_poss (s : State) (f : Face) : (s.releaseDriven f).poss = s.poss := by
  simp [State.releaseDriven]
@[simp] theorem State.releaseDriven_sup (s : State) (f : Face) : (s.releaseDriven f).sup = s.sup := by
  simp [State.releaseDriven]
@[simp] theorem State.releaseDriven_fault (s : State) (f : Face) : (s.releaseDriven f).fault = s.fault := by
  simp [State.releaseDriven]
@[simp] theorem State.releaseDriven_store (s : State) (f : Face) : (s.releaseDriven f).store = s.store := by
  simp [State.releaseDriven]
@[simp] theorem State.releaseDriven_pending (s : State) (f : Face) : (s.releaseDriven f).pending = s.pending := by
  simp [State.releaseDriven]

/-! ### assertReleaseAll -/

@[simp] theorem State.assertReleaseAll_phase (s : State) : (s.assertReleaseAll).phase = s.phase := rfl
@[simp] theorem State.assertReleaseAll_line (s : State) : (s.assertReleaseAll).line = s.line := rfl
@[simp] theorem State.assertReleaseAll_node (s : State) : (s.assertReleaseAll).node = s.node := rfl
@[simp] theorem State.assertReleaseAll_sweep (s : State) : (s.assertReleaseAll).sweep = s.sweep := rfl
@[simp] theorem State.assertReleaseAll_faces (s : State) : (s.assertReleaseAll).faces = s.faces := rfl
@[simp] theorem State.assertReleaseAll_plan (s : State) : (s.assertReleaseAll).plan = s.plan := rfl
@[simp] theorem State.assertReleaseAll_poss (s : State) : (s.assertReleaseAll).poss = s.poss := rfl
@[simp] theorem State.assertReleaseAll_fault (s : State) : (s.assertReleaseAll).fault = s.fault := rfl
@[simp] theorem State.assertReleaseAll_store (s : State) : (s.assertReleaseAll).store = s.store := rfl
@[simp] theorem State.assertReleaseAll_pending (s : State) : (s.assertReleaseAll).pending = s.pending := rfl

/-! ### pullChannel -/

@[simp] theorem State.pullChannel_phase (s : State) (f : Face) (k : Shutter) : (s.pullChannel f k).phase = s.phase := by
  unfold State.pullChannel; split <;> simp
@[simp] theorem State.pullChannel_line (s : State) (f : Face) (k : Shutter) : (s.pullChannel f k).line = s.line := by
  unfold State.pullChannel; split <;> simp
@[simp] theorem State.pullChannel_node (s : State) (f : Face) (k : Shutter) : (s.pullChannel f k).node = s.node := by
  unfold State.pullChannel; split <;> simp
@[simp] theorem State.pullChannel_sweep (s : State) (f : Face) (k : Shutter) : (s.pullChannel f k).sweep = s.sweep := by
  unfold State.pullChannel; split <;> simp
@[simp] theorem State.pullChannel_faces (s : State) (f : Face) (k : Shutter) : (s.pullChannel f k).faces = s.faces := by
  unfold State.pullChannel; split <;> simp
@[simp] theorem State.pullChannel_plan (s : State) (f : Face) (k : Shutter) : (s.pullChannel f k).plan = s.plan := by
  unfold State.pullChannel; split <;> simp
@[simp] theorem State.pullChannel_poss (s : State) (f : Face) (k : Shutter) : (s.pullChannel f k).poss = s.poss := by
  unfold State.pullChannel; split <;> simp
@[simp] theorem State.pullChannel_sup (s : State) (f : Face) (k : Shutter) : (s.pullChannel f k).sup = s.sup := by
  unfold State.pullChannel; split <;> simp
@[simp] theorem State.pullChannel_fault (s : State) (f : Face) (k : Shutter) : (s.pullChannel f k).fault = s.fault := by
  unfold State.pullChannel; split <;> simp
@[simp] theorem State.pullChannel_store (s : State) (f : Face) (k : Shutter) : (s.pullChannel f k).store = s.store := by
  unfold State.pullChannel; split <;> simp
@[simp] theorem State.pullChannel_pending (s : State) (f : Face) (k : Shutter) : (s.pullChannel f k).pending = s.pending := by
  unfold State.pullChannel; split <;> simp

/-! ### reportLamp -/

@[simp] theorem State.reportLamp_phase (s : State) (f : Face) (x : ChannelFault) : (s.reportLamp f x).phase = s.phase := by
  simp [State.reportLamp]
@[simp] theorem State.reportLamp_line (s : State) (f : Face) (x : ChannelFault) : (s.reportLamp f x).line = s.line := by
  simp [State.reportLamp]
@[simp] theorem State.reportLamp_node (s : State) (f : Face) (x : ChannelFault) : (s.reportLamp f x).node = s.node := by
  simp [State.reportLamp]
@[simp] theorem State.reportLamp_sweep (s : State) (f : Face) (x : ChannelFault) : (s.reportLamp f x).sweep = s.sweep := by
  simp [State.reportLamp]
@[simp] theorem State.reportLamp_faces (s : State) (f : Face) (x : ChannelFault) : (s.reportLamp f x).faces = s.faces := by
  simp [State.reportLamp]
@[simp] theorem State.reportLamp_plan (s : State) (f : Face) (x : ChannelFault) : (s.reportLamp f x).plan = s.plan := by
  simp [State.reportLamp]
@[simp] theorem State.reportLamp_poss (s : State) (f : Face) (x : ChannelFault) : (s.reportLamp f x).poss = s.poss := by
  simp [State.reportLamp]
@[simp] theorem State.reportLamp_sup (s : State) (f : Face) (x : ChannelFault) : (s.reportLamp f x).sup = s.sup := by
  simp [State.reportLamp]
@[simp] theorem State.reportLamp_store (s : State) (f : Face) (x : ChannelFault) : (s.reportLamp f x).store = s.store := by
  simp [State.reportLamp]
@[simp] theorem State.reportLamp_pending (s : State) (f : Face) (x : ChannelFault) : (s.reportLamp f x).pending = s.pending := by
  simp [State.reportLamp]

/-! ### lampOff -/

@[simp] theorem State.lampOff_phase (s : State) (f : Face) : (s.lampOff f).phase = s.phase := by
  simp [State.lampOff]
@[simp] theorem State.lampOff_line (s : State) (f : Face) : (s.lampOff f).line = s.line := by
  simp [State.lampOff]
@[simp] theorem State.lampOff_node (s : State) (f : Face) : (s.lampOff f).node = s.node := by
  simp [State.lampOff]
@[simp] theorem State.lampOff_sweep (s : State) (f : Face) : (s.lampOff f).sweep = s.sweep := by
  simp [State.lampOff]
@[simp] theorem State.lampOff_faces (s : State) (f : Face) : (s.lampOff f).faces = s.faces := by
  simp [State.lampOff]
@[simp] theorem State.lampOff_plan (s : State) (f : Face) : (s.lampOff f).plan = s.plan := by
  simp [State.lampOff]
@[simp] theorem State.lampOff_poss (s : State) (f : Face) : (s.lampOff f).poss = s.poss := by
  simp [State.lampOff]
@[simp] theorem State.lampOff_sup (s : State) (f : Face) : (s.lampOff f).sup = s.sup := by
  simp [State.lampOff]
@[simp] theorem State.lampOff_fault (s : State) (f : Face) : (s.lampOff f).fault = s.fault := by
  simp [State.lampOff]
@[simp] theorem State.lampOff_store (s : State) (f : Face) : (s.lampOff f).store = s.store := by
  simp [State.lampOff]
@[simp] theorem State.lampOff_pending (s : State) (f : Face) : (s.lampOff f).pending = s.pending := by
  simp [State.lampOff]

/-! ### clearShutters -/

@[simp] theorem State.clearShutters_phase (s : State) (f : Face) (x : FaceSense) : (s.clearShutters f x).phase = s.phase := by
  simp [State.clearShutters]
@[simp] theorem State.clearShutters_line (s : State) (f : Face) (x : FaceSense) : (s.clearShutters f x).line = s.line := by
  simp [State.clearShutters]
@[simp] theorem State.clearShutters_node (s : State) (f : Face) (x : FaceSense) : (s.clearShutters f x).node = s.node := by
  simp [State.clearShutters]
@[simp] theorem State.clearShutters_sweep (s : State) (f : Face) (x : FaceSense) : (s.clearShutters f x).sweep = s.sweep := by
  simp [State.clearShutters]
@[simp] theorem State.clearShutters_faces (s : State) (f : Face) (x : FaceSense) : (s.clearShutters f x).faces = s.faces := by
  simp [State.clearShutters]
@[simp] theorem State.clearShutters_plan (s : State) (f : Face) (x : FaceSense) : (s.clearShutters f x).plan = s.plan := by
  simp [State.clearShutters]
@[simp] theorem State.clearShutters_poss (s : State) (f : Face) (x : FaceSense) : (s.clearShutters f x).poss = s.poss := by
  simp [State.clearShutters]
@[simp] theorem State.clearShutters_sup (s : State) (f : Face) (x : FaceSense) : (s.clearShutters f x).sup = s.sup := by
  simp [State.clearShutters]
@[simp] theorem State.clearShutters_fault (s : State) (f : Face) (x : FaceSense) : (s.clearShutters f x).fault = s.fault := by
  simp [State.clearShutters]
@[simp] theorem State.clearShutters_store (s : State) (f : Face) (x : FaceSense) : (s.clearShutters f x).store = s.store := by
  simp [State.clearShutters]
@[simp] theorem State.clearShutters_pending (s : State) (f : Face) (x : FaceSense) : (s.clearShutters f x).pending = s.pending := by
  simp [State.clearShutters]

/-! ### clearLamp -/

@[simp] theorem State.clearLamp_phase (s : State) (f : Face) (x : FaceSense) : (s.clearLamp f x).phase = s.phase := by
  simp [State.clearLamp]
@[simp] theorem State.clearLamp_line (s : State) (f : Face) (x : FaceSense) : (s.clearLamp f x).line = s.line := by
  simp [State.clearLamp]
@[simp] theorem State.clearLamp_node (s : State) (f : Face) (x : FaceSense) : (s.clearLamp f x).node = s.node := by
  simp [State.clearLamp]
@[simp] theorem State.clearLamp_sweep (s : State) (f : Face) (x : FaceSense) : (s.clearLamp f x).sweep = s.sweep := by
  simp [State.clearLamp]
@[simp] theorem State.clearLamp_faces (s : State) (f : Face) (x : FaceSense) : (s.clearLamp f x).faces = s.faces := by
  simp [State.clearLamp]
@[simp] theorem State.clearLamp_plan (s : State) (f : Face) (x : FaceSense) : (s.clearLamp f x).plan = s.plan := by
  simp [State.clearLamp]
@[simp] theorem State.clearLamp_poss (s : State) (f : Face) (x : FaceSense) : (s.clearLamp f x).poss = s.poss := by
  simp [State.clearLamp]
@[simp] theorem State.clearLamp_sup (s : State) (f : Face) (x : FaceSense) : (s.clearLamp f x).sup = s.sup := by
  simp [State.clearLamp]
@[simp] theorem State.clearLamp_fault (s : State) (f : Face) (x : FaceSense) : (s.clearLamp f x).fault = s.fault := by
  simp [State.clearLamp]
@[simp] theorem State.clearLamp_store (s : State) (f : Face) (x : FaceSense) : (s.clearLamp f x).store = s.store := by
  simp [State.clearLamp]
@[simp] theorem State.clearLamp_pending (s : State) (f : Face) (x : FaceSense) : (s.clearLamp f x).pending = s.pending := by
  simp [State.clearLamp]

/-! ### endReturn -/

@[simp] theorem State.endReturn_phase (s : State) (f : Face) : (s.endReturn f).phase = s.phase := by
  unfold State.endReturn; split <;> simp
@[simp] theorem State.endReturn_line (s : State) (f : Face) : (s.endReturn f).line = s.line := by
  unfold State.endReturn; split <;> simp
@[simp] theorem State.endReturn_node (s : State) (f : Face) : (s.endReturn f).node = s.node := by
  unfold State.endReturn; split <;> simp
@[simp] theorem State.endReturn_sweep (s : State) (f : Face) : (s.endReturn f).sweep = s.sweep := by
  unfold State.endReturn; split <;> simp
@[simp] theorem State.endReturn_plan (s : State) (f : Face) : (s.endReturn f).plan = s.plan := by
  unfold State.endReturn; split <;> simp
@[simp] theorem State.endReturn_poss (s : State) (f : Face) : (s.endReturn f).poss = s.poss := by
  unfold State.endReturn; split <;> simp
@[simp] theorem State.endReturn_sup (s : State) (f : Face) : (s.endReturn f).sup = s.sup := by
  unfold State.endReturn; split <;> simp
@[simp] theorem State.endReturn_fault (s : State) (f : Face) : (s.endReturn f).fault = s.fault := by
  unfold State.endReturn; split <;> simp
@[simp] theorem State.endReturn_store (s : State) (f : Face) : (s.endReturn f).store = s.store := by
  unfold State.endReturn; split <;> simp
@[simp] theorem State.endReturn_pending (s : State) (f : Face) : (s.endReturn f).pending = s.pending := by
  unfold State.endReturn; split <;> simp

/-! ### returnTest -/

@[simp] theorem State.returnTest_phase (s : State) (f : Face) : (s.returnTest f).phase = s.phase := by
  unfold State.returnTest; split <;> simp
@[simp] theorem State.returnTest_line (s : State) (f : Face) : (s.returnTest f).line = s.line := by
  unfold State.returnTest; split <;> simp
@[simp] theorem State.returnTest_node (s : State) (f : Face) : (s.returnTest f).node = s.node := by
  unfold State.returnTest; split <;> simp
@[simp] theorem State.returnTest_sweep (s : State) (f : Face) : (s.returnTest f).sweep = s.sweep := by
  unfold State.returnTest; split <;> simp
@[simp] theorem State.returnTest_plan (s : State) (f : Face) : (s.returnTest f).plan = s.plan := by
  unfold State.returnTest; split <;> simp
@[simp] theorem State.returnTest_poss (s : State) (f : Face) : (s.returnTest f).poss = s.poss := by
  unfold State.returnTest; split <;> simp
@[simp] theorem State.returnTest_sup (s : State) (f : Face) : (s.returnTest f).sup = s.sup := by
  unfold State.returnTest; split <;> simp
@[simp] theorem State.returnTest_fault (s : State) (f : Face) : (s.returnTest f).fault = s.fault := by
  unfold State.returnTest; split <;> simp
@[simp] theorem State.returnTest_store (s : State) (f : Face) : (s.returnTest f).store = s.store := by
  unfold State.returnTest; split <;> simp
@[simp] theorem State.returnTest_pending (s : State) (f : Face) : (s.returnTest f).pending = s.pending := by
  unfold State.returnTest; split <;> simp

/-! ### startReturn -/

@[simp] theorem State.startReturn_phase (s : State) (f : Face) (n : Nat) : (s.startReturn f n).phase = s.phase := by
  simp [State.startReturn]
@[simp] theorem State.startReturn_line (s : State) (f : Face) (n : Nat) : (s.startReturn f n).line = s.line := by
  simp [State.startReturn]
@[simp] theorem State.startReturn_node (s : State) (f : Face) (n : Nat) : (s.startReturn f n).node = s.node := by
  simp [State.startReturn]
@[simp] theorem State.startReturn_sweep (s : State) (f : Face) (n : Nat) : (s.startReturn f n).sweep = s.sweep := by
  simp [State.startReturn]
@[simp] theorem State.startReturn_plan (s : State) (f : Face) (n : Nat) : (s.startReturn f n).plan = s.plan := by
  simp [State.startReturn]
@[simp] theorem State.startReturn_poss (s : State) (f : Face) (n : Nat) : (s.startReturn f n).poss = s.poss := by
  simp [State.startReturn]
@[simp] theorem State.startReturn_sup (s : State) (f : Face) (n : Nat) : (s.startReturn f n).sup = s.sup := by
  simp [State.startReturn]
@[simp] theorem State.startReturn_fault (s : State) (f : Face) (n : Nat) : (s.startReturn f n).fault = s.fault := by
  simp [State.startReturn]
@[simp] theorem State.startReturn_store (s : State) (f : Face) (n : Nat) : (s.startReturn f n).store = s.store := by
  simp [State.startReturn]
@[simp] theorem State.startReturn_pending (s : State) (f : Face) (n : Nat) : (s.startReturn f n).pending = s.pending := by
  simp [State.startReturn]

/-! ### elementFault -/

@[simp] theorem State.elementFault_phase (s : State) (f : Face) : (s.elementFault f).phase = s.phase := by
  unfold State.elementFault; (repeat' split) <;> simp
@[simp] theorem State.elementFault_line (s : State) (f : Face) : (s.elementFault f).line = s.line := by
  unfold State.elementFault; (repeat' split) <;> simp
@[simp] theorem State.elementFault_node (s : State) (f : Face) : (s.elementFault f).node = s.node := by
  unfold State.elementFault; (repeat' split) <;> simp
@[simp] theorem State.elementFault_sweep (s : State) (f : Face) : (s.elementFault f).sweep = s.sweep := by
  unfold State.elementFault; (repeat' split) <;> simp
@[simp] theorem State.elementFault_plan (s : State) (f : Face) : (s.elementFault f).plan = s.plan := by
  unfold State.elementFault; (repeat' split) <;> simp
@[simp] theorem State.elementFault_poss (s : State) (f : Face) : (s.elementFault f).poss = s.poss := by
  unfold State.elementFault; (repeat' split) <;> simp
@[simp] theorem State.elementFault_sup (s : State) (f : Face) : (s.elementFault f).sup = s.sup := by
  unfold State.elementFault; (repeat' split) <;> simp
@[simp] theorem State.elementFault_fault (s : State) (f : Face) : (s.elementFault f).fault = s.fault := by
  unfold State.elementFault; (repeat' split) <;> simp
@[simp] theorem State.elementFault_store (s : State) (f : Face) : (s.elementFault f).store = s.store := by
  unfold State.elementFault; (repeat' split) <;> simp
@[simp] theorem State.elementFault_pending (s : State) (f : Face) : (s.elementFault f).pending = s.pending := by
  unfold State.elementFault; (repeat' split) <;> simp

/-! ### lampFault -/

@[simp] theorem State.lampFault_phase (s : State) (f : Face) : (s.lampFault f).phase = s.phase := by
  simp [State.lampFault]
@[simp] theorem State.lampFault_line (s : State) (f : Face) : (s.lampFault f).line = s.line := by
  simp [State.lampFault]
@[simp] theorem State.lampFault_node (s : State) (f : Face) : (s.lampFault f).node = s.node := by
  simp [State.lampFault]
@[simp] theorem State.lampFault_sweep (s : State) (f : Face) : (s.lampFault f).sweep = s.sweep := by
  simp [State.lampFault]
@[simp] theorem State.lampFault_plan (s : State) (f : Face) : (s.lampFault f).plan = s.plan := by
  simp [State.lampFault]
@[simp] theorem State.lampFault_poss (s : State) (f : Face) : (s.lampFault f).poss = s.poss := by
  simp [State.lampFault]
@[simp] theorem State.lampFault_sup (s : State) (f : Face) : (s.lampFault f).sup = s.sup := by
  simp [State.lampFault]
@[simp] theorem State.lampFault_fault (s : State) (f : Face) : (s.lampFault f).fault = s.fault := by
  simp [State.lampFault]
@[simp] theorem State.lampFault_store (s : State) (f : Face) : (s.lampFault f).store = s.store := by
  simp [State.lampFault]
@[simp] theorem State.lampFault_pending (s : State) (f : Face) : (s.lampFault f).pending = s.pending := by
  simp [State.lampFault]

/-! ### requestPull -/

@[simp] theorem State.requestPull_phase (s : State) (f : Face) (k : Shutter) : (s.requestPull f k).phase = s.phase := by
  unfold State.requestPull; split <;> simp
@[simp] theorem State.requestPull_line (s : State) (f : Face) (k : Shutter) : (s.requestPull f k).line = s.line := by
  unfold State.requestPull; split <;> simp
@[simp] theorem State.requestPull_node (s : State) (f : Face) (k : Shutter) : (s.requestPull f k).node = s.node := by
  unfold State.requestPull; split <;> simp
@[simp] theorem State.requestPull_sweep (s : State) (f : Face) (k : Shutter) : (s.requestPull f k).sweep = s.sweep := by
  unfold State.requestPull; split <;> simp
@[simp] theorem State.requestPull_plan (s : State) (f : Face) (k : Shutter) : (s.requestPull f k).plan = s.plan := by
  unfold State.requestPull; split <;> simp
@[simp] theorem State.requestPull_poss (s : State) (f : Face) (k : Shutter) : (s.requestPull f k).poss = s.poss := by
  unfold State.requestPull; split <;> simp
@[simp] theorem State.requestPull_sup (s : State) (f : Face) (k : Shutter) : (s.requestPull f k).sup = s.sup := by
  unfold State.requestPull; split <;> simp
@[simp] theorem State.requestPull_store (s : State) (f : Face) (k : Shutter) : (s.requestPull f k).store = s.store := by
  unfold State.requestPull; split <;> simp
@[simp] theorem State.requestPull_pending (s : State) (f : Face) (k : Shutter) : (s.requestPull f k).pending = s.pending := by
  unfold State.requestPull; split <;> simp

/-! ### relight -/

@[simp] theorem State.relight_phase (s : State) (f : Face) : (s.relight f).phase = s.phase := by
  unfold State.relight; split <;> simp
@[simp] theorem State.relight_line (s : State) (f : Face) : (s.relight f).line = s.line := by
  unfold State.relight; split <;> simp
@[simp] theorem State.relight_node (s : State) (f : Face) : (s.relight f).node = s.node := by
  unfold State.relight; split <;> simp
@[simp] theorem State.relight_sweep (s : State) (f : Face) : (s.relight f).sweep = s.sweep := by
  unfold State.relight; split <;> simp
@[simp] theorem State.relight_plan (s : State) (f : Face) : (s.relight f).plan = s.plan := by
  unfold State.relight; split <;> simp
@[simp] theorem State.relight_poss (s : State) (f : Face) : (s.relight f).poss = s.poss := by
  unfold State.relight; split <;> simp
@[simp] theorem State.relight_sup (s : State) (f : Face) : (s.relight f).sup = s.sup := by
  unfold State.relight; split <;> simp
@[simp] theorem State.relight_store (s : State) (f : Face) : (s.relight f).store = s.store := by
  unfold State.relight; split <;> simp
@[simp] theorem State.relight_pending (s : State) (f : Face) : (s.relight f).pending = s.pending := by
  unfold State.relight; split <;> simp

/-! ### stayDark: the latch changes and the wait ends, nothing else -/

@[simp] theorem FaceRecord.stayDark_shown (r : FaceRecord) : r.stayDark.shown = r.shown := rfl
@[simp] theorem FaceRecord.stayDark_state (r : FaceRecord) : r.stayDark.state = r.state := rfl
@[simp] theorem FaceRecord.stayDark_env (r : FaceRecord) : r.stayDark.env = r.env := rfl
@[simp] theorem FaceRecord.stayDark_change (r : FaceRecord) : r.stayDark.change = r.change := rfl
@[simp] theorem FaceRecord.stayDark_pending (r : FaceRecord) : r.stayDark.pending = r.pending := rfl
@[simp] theorem FaceRecord.stayDark_mergeLost (r : FaceRecord) : r.stayDark.mergeLost = r.mergeLost := rfl
@[simp] theorem FaceRecord.stayDark_target (r : FaceRecord) : r.stayDark.target = r.target := rfl
@[simp] theorem FaceRecord.stayDark_relightAwaited (r : FaceRecord) : r.stayDark.relightAwaited = false := rfl
@[simp] theorem FaceRecord.stayDark_testedWait (r : FaceRecord) : r.stayDark.testedWait = false := rfl

/-- R19, R39: LAMP stays unless a tested shutter was released for the wait. -/
theorem FaceRecord.stayDark_latch (r : FaceRecord) :
    r.stayDark.latch = if r.latch = .lamp ∧ r.testedWait = false then .lamp else .element := by
  simp [FaceRecord.stayDark]

/-! ### relightTest -/

@[simp] theorem State.relightTest_phase (s : State) (f : Face) : (s.relightTest f).phase = s.phase := by
  unfold State.relightTest; (repeat' split) <;> simp
@[simp] theorem State.relightTest_line (s : State) (f : Face) : (s.relightTest f).line = s.line := by
  unfold State.relightTest; (repeat' split) <;> simp
@[simp] theorem State.relightTest_node (s : State) (f : Face) : (s.relightTest f).node = s.node := by
  unfold State.relightTest; (repeat' split) <;> simp
@[simp] theorem State.relightTest_sweep (s : State) (f : Face) : (s.relightTest f).sweep = s.sweep := by
  unfold State.relightTest; (repeat' split) <;> simp
@[simp] theorem State.relightTest_plan (s : State) (f : Face) : (s.relightTest f).plan = s.plan := by
  unfold State.relightTest; (repeat' split) <;> simp
@[simp] theorem State.relightTest_poss (s : State) (f : Face) : (s.relightTest f).poss = s.poss := by
  unfold State.relightTest; (repeat' split) <;> simp
@[simp] theorem State.relightTest_sup (s : State) (f : Face) : (s.relightTest f).sup = s.sup := by
  unfold State.relightTest; (repeat' split) <;> simp
@[simp] theorem State.relightTest_store (s : State) (f : Face) : (s.relightTest f).store = s.store := by
  unfold State.relightTest; (repeat' split) <;> simp
@[simp] theorem State.relightTest_pending (s : State) (f : Face) : (s.relightTest f).pending = s.pending := by
  unfold State.relightTest; (repeat' split) <;> simp

/-! ### awaitRelight -/

@[simp] theorem State.awaitRelight_phase (s : State) (f : Face) : (s.awaitRelight f).phase = s.phase := by
  simp [State.awaitRelight]
@[simp] theorem State.awaitRelight_line (s : State) (f : Face) : (s.awaitRelight f).line = s.line := by
  simp [State.awaitRelight]
@[simp] theorem State.awaitRelight_node (s : State) (f : Face) : (s.awaitRelight f).node = s.node := by
  simp [State.awaitRelight]
@[simp] theorem State.awaitRelight_sweep (s : State) (f : Face) : (s.awaitRelight f).sweep = s.sweep := by
  simp [State.awaitRelight]
@[simp] theorem State.awaitRelight_plan (s : State) (f : Face) : (s.awaitRelight f).plan = s.plan := by
  simp [State.awaitRelight]
@[simp] theorem State.awaitRelight_poss (s : State) (f : Face) : (s.awaitRelight f).poss = s.poss := by
  simp [State.awaitRelight]
@[simp] theorem State.awaitRelight_sup (s : State) (f : Face) : (s.awaitRelight f).sup = s.sup := by
  simp [State.awaitRelight]
@[simp] theorem State.awaitRelight_store (s : State) (f : Face) : (s.awaitRelight f).store = s.store := by
  simp [State.awaitRelight]
@[simp] theorem State.awaitRelight_pending (s : State) (f : Face) : (s.awaitRelight f).pending = s.pending := by
  simp [State.awaitRelight]

/-! ### beginClose -/

@[simp] theorem State.beginClose_phase (s : State) (f : Face) : (s.beginClose f).phase = s.phase := by
  simp [State.beginClose]
@[simp] theorem State.beginClose_line (s : State) (f : Face) : (s.beginClose f).line = s.line := by
  simp [State.beginClose]
@[simp] theorem State.beginClose_node (s : State) (f : Face) : (s.beginClose f).node = s.node := by
  simp [State.beginClose]
@[simp] theorem State.beginClose_sweep (s : State) (f : Face) : (s.beginClose f).sweep = s.sweep := by
  simp [State.beginClose]
@[simp] theorem State.beginClose_plan (s : State) (f : Face) : (s.beginClose f).plan = s.plan := by
  simp [State.beginClose]
@[simp] theorem State.beginClose_poss (s : State) (f : Face) : (s.beginClose f).poss = s.poss := by
  simp [State.beginClose]
@[simp] theorem State.beginClose_sup (s : State) (f : Face) : (s.beginClose f).sup = s.sup := by
  simp [State.beginClose]
@[simp] theorem State.beginClose_fault (s : State) (f : Face) : (s.beginClose f).fault = s.fault := by
  simp [State.beginClose]
@[simp] theorem State.beginClose_store (s : State) (f : Face) : (s.beginClose f).store = s.store := by
  simp [State.beginClose]
@[simp] theorem State.beginClose_pending (s : State) (f : Face) : (s.beginClose f).pending = s.pending := by
  simp [State.beginClose]

/-! ### askClose -/

@[simp] theorem State.askClose_phase (s : State) (f : Face) : (s.askClose f).phase = s.phase := by
  unfold State.askClose; split <;> simp
@[simp] theorem State.askClose_line (s : State) (f : Face) : (s.askClose f).line = s.line := by
  unfold State.askClose; split <;> simp
@[simp] theorem State.askClose_node (s : State) (f : Face) : (s.askClose f).node = s.node := by
  unfold State.askClose; split <;> simp
@[simp] theorem State.askClose_sweep (s : State) (f : Face) : (s.askClose f).sweep = s.sweep := by
  unfold State.askClose; split <;> simp
@[simp] theorem State.askClose_plan (s : State) (f : Face) : (s.askClose f).plan = s.plan := by
  unfold State.askClose; split <;> simp
@[simp] theorem State.askClose_poss (s : State) (f : Face) : (s.askClose f).poss = s.poss := by
  unfold State.askClose; split <;> simp
@[simp] theorem State.askClose_sup (s : State) (f : Face) : (s.askClose f).sup = s.sup := by
  unfold State.askClose; split <;> simp
@[simp] theorem State.askClose_store (s : State) (f : Face) : (s.askClose f).store = s.store := by
  unfold State.askClose; split <;> simp
@[simp] theorem State.askClose_pending (s : State) (f : Face) : (s.askClose f).pending = s.pending := by
  unfold State.askClose; split <;> simp

/-! ### endingClose -/

@[simp] theorem State.endingClose_phase (s : State) (f : Face) : (s.endingClose f).phase = s.phase := by
  unfold State.endingClose; split <;> simp
@[simp] theorem State.endingClose_line (s : State) (f : Face) : (s.endingClose f).line = s.line := by
  unfold State.endingClose; split <;> simp
@[simp] theorem State.endingClose_node (s : State) (f : Face) : (s.endingClose f).node = s.node := by
  unfold State.endingClose; split <;> simp
@[simp] theorem State.endingClose_sweep (s : State) (f : Face) : (s.endingClose f).sweep = s.sweep := by
  unfold State.endingClose; split <;> simp
@[simp] theorem State.endingClose_plan (s : State) (f : Face) : (s.endingClose f).plan = s.plan := by
  unfold State.endingClose; split <;> simp
@[simp] theorem State.endingClose_poss (s : State) (f : Face) : (s.endingClose f).poss = s.poss := by
  unfold State.endingClose; split <;> simp
@[simp] theorem State.endingClose_sup (s : State) (f : Face) : (s.endingClose f).sup = s.sup := by
  unfold State.endingClose; split <;> simp
@[simp] theorem State.endingClose_store (s : State) (f : Face) : (s.endingClose f).store = s.store := by
  unfold State.endingClose; split <;> simp
@[simp] theorem State.endingClose_pending (s : State) (f : Face) : (s.endingClose f).pending = s.pending := by
  unfold State.endingClose; split <;> simp

/-! ### completeChange -/

@[simp] theorem State.completeChange_phase (s : State) (f : Face) (a : Aspect) : (s.completeChange f a).phase = s.phase := by
  simp [State.completeChange]
@[simp] theorem State.completeChange_line (s : State) (f : Face) (a : Aspect) : (s.completeChange f a).line = s.line := by
  simp [State.completeChange]
@[simp] theorem State.completeChange_node (s : State) (f : Face) (a : Aspect) : (s.completeChange f a).node = s.node := by
  simp [State.completeChange]
@[simp] theorem State.completeChange_sweep (s : State) (f : Face) (a : Aspect) : (s.completeChange f a).sweep = s.sweep := by
  simp [State.completeChange]
@[simp] theorem State.completeChange_plan (s : State) (f : Face) (a : Aspect) : (s.completeChange f a).plan = s.plan := by
  simp [State.completeChange]
@[simp] theorem State.completeChange_poss (s : State) (f : Face) (a : Aspect) : (s.completeChange f a).poss = s.poss := by
  simp [State.completeChange]
@[simp] theorem State.completeChange_sup (s : State) (f : Face) (a : Aspect) : (s.completeChange f a).sup = s.sup := by
  simp [State.completeChange]
@[simp] theorem State.completeChange_store (s : State) (f : Face) (a : Aspect) : (s.completeChange f a).store = s.store := by
  simp [State.completeChange]
@[simp] theorem State.completeChange_pending (s : State) (f : Face) (a : Aspect) : (s.completeChange f a).pending = s.pending := by
  simp [State.completeChange]

/-! ### darkTest -/

@[simp] theorem State.darkTest_phase (s : State) (f : Face) : (s.darkTest f).phase = s.phase := by
  unfold State.darkTest; split <;> simp
@[simp] theorem State.darkTest_line (s : State) (f : Face) : (s.darkTest f).line = s.line := by
  unfold State.darkTest; split <;> simp
@[simp] theorem State.darkTest_node (s : State) (f : Face) : (s.darkTest f).node = s.node := by
  unfold State.darkTest; split <;> simp
@[simp] theorem State.darkTest_sweep (s : State) (f : Face) : (s.darkTest f).sweep = s.sweep := by
  unfold State.darkTest; split <;> simp
@[simp] theorem State.darkTest_plan (s : State) (f : Face) : (s.darkTest f).plan = s.plan := by
  unfold State.darkTest; split <;> simp
@[simp] theorem State.darkTest_poss (s : State) (f : Face) : (s.darkTest f).poss = s.poss := by
  unfold State.darkTest; split <;> simp
@[simp] theorem State.darkTest_sup (s : State) (f : Face) : (s.darkTest f).sup = s.sup := by
  unfold State.darkTest; split <;> simp
@[simp] theorem State.darkTest_store (s : State) (f : Face) : (s.darkTest f).store = s.store := by
  unfold State.darkTest; split <;> simp
@[simp] theorem State.darkTest_pending (s : State) (f : Face) : (s.darkTest f).pending = s.pending := by
  unfold State.darkTest; split <;> simp

/-! ### beginDark -/

@[simp] theorem State.beginDark_phase (s : State) (f : Face) : (s.beginDark f).phase = s.phase := by
  simp [State.beginDark]
@[simp] theorem State.beginDark_line (s : State) (f : Face) : (s.beginDark f).line = s.line := by
  simp [State.beginDark]
@[simp] theorem State.beginDark_node (s : State) (f : Face) : (s.beginDark f).node = s.node := by
  simp [State.beginDark]
@[simp] theorem State.beginDark_sweep (s : State) (f : Face) : (s.beginDark f).sweep = s.sweep := by
  simp [State.beginDark]
@[simp] theorem State.beginDark_plan (s : State) (f : Face) : (s.beginDark f).plan = s.plan := by
  simp [State.beginDark]
@[simp] theorem State.beginDark_poss (s : State) (f : Face) : (s.beginDark f).poss = s.poss := by
  simp [State.beginDark]
@[simp] theorem State.beginDark_sup (s : State) (f : Face) : (s.beginDark f).sup = s.sup := by
  simp [State.beginDark]
@[simp] theorem State.beginDark_store (s : State) (f : Face) : (s.beginDark f).store = s.store := by
  simp [State.beginDark]
@[simp] theorem State.beginDark_pending (s : State) (f : Face) : (s.beginDark f).pending = s.pending := by
  simp [State.beginDark]

/-! ### beginSymbol -/

@[simp] theorem State.beginSymbol_phase (s : State) (f : Face) (a : Aspect) (k : Shutter) : (s.beginSymbol f a k).phase = s.phase := by
  simp [State.beginSymbol]
@[simp] theorem State.beginSymbol_line (s : State) (f : Face) (a : Aspect) (k : Shutter) : (s.beginSymbol f a k).line = s.line := by
  simp [State.beginSymbol]
@[simp] theorem State.beginSymbol_node (s : State) (f : Face) (a : Aspect) (k : Shutter) : (s.beginSymbol f a k).node = s.node := by
  simp [State.beginSymbol]
@[simp] theorem State.beginSymbol_sweep (s : State) (f : Face) (a : Aspect) (k : Shutter) : (s.beginSymbol f a k).sweep = s.sweep := by
  simp [State.beginSymbol]
@[simp] theorem State.beginSymbol_plan (s : State) (f : Face) (a : Aspect) (k : Shutter) : (s.beginSymbol f a k).plan = s.plan := by
  simp [State.beginSymbol]
@[simp] theorem State.beginSymbol_poss (s : State) (f : Face) (a : Aspect) (k : Shutter) : (s.beginSymbol f a k).poss = s.poss := by
  simp [State.beginSymbol]
@[simp] theorem State.beginSymbol_sup (s : State) (f : Face) (a : Aspect) (k : Shutter) : (s.beginSymbol f a k).sup = s.sup := by
  simp [State.beginSymbol]
@[simp] theorem State.beginSymbol_store (s : State) (f : Face) (a : Aspect) (k : Shutter) : (s.beginSymbol f a k).store = s.store := by
  simp [State.beginSymbol]
@[simp] theorem State.beginSymbol_pending (s : State) (f : Face) (a : Aspect) (k : Shutter) : (s.beginSymbol f a k).pending = s.pending := by
  simp [State.beginSymbol]

/-! ### beginChange -/

@[simp] theorem State.beginChange_phase (s : State) (f : Face) (a : Aspect) : (s.beginChange f a).phase = s.phase := by
  unfold State.beginChange; (repeat' split) <;> simp
@[simp] theorem State.beginChange_line (s : State) (f : Face) (a : Aspect) : (s.beginChange f a).line = s.line := by
  unfold State.beginChange; (repeat' split) <;> simp
@[simp] theorem State.beginChange_node (s : State) (f : Face) (a : Aspect) : (s.beginChange f a).node = s.node := by
  unfold State.beginChange; (repeat' split) <;> simp
@[simp] theorem State.beginChange_sweep (s : State) (f : Face) (a : Aspect) : (s.beginChange f a).sweep = s.sweep := by
  unfold State.beginChange; (repeat' split) <;> simp
@[simp] theorem State.beginChange_plan (s : State) (f : Face) (a : Aspect) : (s.beginChange f a).plan = s.plan := by
  unfold State.beginChange; (repeat' split) <;> simp
@[simp] theorem State.beginChange_poss (s : State) (f : Face) (a : Aspect) : (s.beginChange f a).poss = s.poss := by
  unfold State.beginChange; (repeat' split) <;> simp
@[simp] theorem State.beginChange_sup (s : State) (f : Face) (a : Aspect) : (s.beginChange f a).sup = s.sup := by
  unfold State.beginChange; (repeat' split) <;> simp
@[simp] theorem State.beginChange_store (s : State) (f : Face) (a : Aspect) : (s.beginChange f a).store = s.store := by
  unfold State.beginChange; (repeat' split) <;> simp
@[simp] theorem State.beginChange_pending (s : State) (f : Face) (a : Aspect) : (s.beginChange f a).pending = s.pending := by
  unfold State.beginChange; (repeat' split) <;> simp

/-! ### movedStep -/

@[simp] theorem State.movedStep_phase (s : State) (f : Face) (k : Shutter) : (s.movedStep f k).phase = s.phase := by
  unfold State.movedStep; (repeat' split) <;> simp
@[simp] theorem State.movedStep_line (s : State) (f : Face) (k : Shutter) : (s.movedStep f k).line = s.line := by
  unfold State.movedStep; (repeat' split) <;> simp
@[simp] theorem State.movedStep_node (s : State) (f : Face) (k : Shutter) : (s.movedStep f k).node = s.node := by
  unfold State.movedStep; (repeat' split) <;> simp
@[simp] theorem State.movedStep_sweep (s : State) (f : Face) (k : Shutter) : (s.movedStep f k).sweep = s.sweep := by
  unfold State.movedStep; (repeat' split) <;> simp
@[simp] theorem State.movedStep_plan (s : State) (f : Face) (k : Shutter) : (s.movedStep f k).plan = s.plan := by
  unfold State.movedStep; (repeat' split) <;> simp
@[simp] theorem State.movedStep_poss (s : State) (f : Face) (k : Shutter) : (s.movedStep f k).poss = s.poss := by
  unfold State.movedStep; (repeat' split) <;> simp
@[simp] theorem State.movedStep_sup (s : State) (f : Face) (k : Shutter) : (s.movedStep f k).sup = s.sup := by
  unfold State.movedStep; (repeat' split) <;> simp
@[simp] theorem State.movedStep_store (s : State) (f : Face) (k : Shutter) : (s.movedStep f k).store = s.store := by
  unfold State.movedStep; (repeat' split) <;> simp
@[simp] theorem State.movedStep_pending (s : State) (f : Face) (k : Shutter) : (s.movedStep f k).pending = s.pending := by
  unfold State.movedStep; (repeat' split) <;> simp

/-! ### droppedStep -/

@[simp] theorem State.droppedStep_phase (s : State) (f : Face) (k : Shutter) : (s.droppedStep f k).phase = s.phase := by
  unfold State.droppedStep; (repeat' split) <;> simp
@[simp] theorem State.droppedStep_line (s : State) (f : Face) (k : Shutter) : (s.droppedStep f k).line = s.line := by
  unfold State.droppedStep; (repeat' split) <;> simp
@[simp] theorem State.droppedStep_node (s : State) (f : Face) (k : Shutter) : (s.droppedStep f k).node = s.node := by
  unfold State.droppedStep; (repeat' split) <;> simp
@[simp] theorem State.droppedStep_sweep (s : State) (f : Face) (k : Shutter) : (s.droppedStep f k).sweep = s.sweep := by
  unfold State.droppedStep; (repeat' split) <;> simp
@[simp] theorem State.droppedStep_plan (s : State) (f : Face) (k : Shutter) : (s.droppedStep f k).plan = s.plan := by
  unfold State.droppedStep; (repeat' split) <;> simp
@[simp] theorem State.droppedStep_poss (s : State) (f : Face) (k : Shutter) : (s.droppedStep f k).poss = s.poss := by
  unfold State.droppedStep; (repeat' split) <;> simp
@[simp] theorem State.droppedStep_sup (s : State) (f : Face) (k : Shutter) : (s.droppedStep f k).sup = s.sup := by
  unfold State.droppedStep; (repeat' split) <;> simp
@[simp] theorem State.droppedStep_store (s : State) (f : Face) (k : Shutter) : (s.droppedStep f k).store = s.store := by
  unfold State.droppedStep; (repeat' split) <;> simp
@[simp] theorem State.droppedStep_pending (s : State) (f : Face) (k : Shutter) : (s.droppedStep f k).pending = s.pending := by
  unfold State.droppedStep; (repeat' split) <;> simp

/-! ### channelTests -/

@[simp] theorem State.channelTests_phase (s : State) (f : Face) : (s.channelTests f).phase = s.phase := by
  simp [State.channelTests]
@[simp] theorem State.channelTests_line (s : State) (f : Face) : (s.channelTests f).line = s.line := by
  simp [State.channelTests]
@[simp] theorem State.channelTests_node (s : State) (f : Face) : (s.channelTests f).node = s.node := by
  simp [State.channelTests]
@[simp] theorem State.channelTests_sweep (s : State) (f : Face) : (s.channelTests f).sweep = s.sweep := by
  simp [State.channelTests]
@[simp] theorem State.channelTests_plan (s : State) (f : Face) : (s.channelTests f).plan = s.plan := by
  simp [State.channelTests]
@[simp] theorem State.channelTests_poss (s : State) (f : Face) : (s.channelTests f).poss = s.poss := by
  simp [State.channelTests]
@[simp] theorem State.channelTests_sup (s : State) (f : Face) : (s.channelTests f).sup = s.sup := by
  simp [State.channelTests]
@[simp] theorem State.channelTests_store (s : State) (f : Face) : (s.channelTests f).store = s.store := by
  simp [State.channelTests]
@[simp] theorem State.channelTests_pending (s : State) (f : Face) : (s.channelTests f).pending = s.pending := by
  simp [State.channelTests]

/-! ### clearMergeLost -/

@[simp] theorem State.clearMergeLost_phase (s : State) (f : Face) : (s.clearMergeLost f).phase = s.phase := by
  simp [State.clearMergeLost]
@[simp] theorem State.clearMergeLost_line (s : State) (f : Face) : (s.clearMergeLost f).line = s.line := by
  simp [State.clearMergeLost]
@[simp] theorem State.clearMergeLost_node (s : State) (f : Face) : (s.clearMergeLost f).node = s.node := by
  simp [State.clearMergeLost]
@[simp] theorem State.clearMergeLost_sweep (s : State) (f : Face) : (s.clearMergeLost f).sweep = s.sweep := by
  simp [State.clearMergeLost]
@[simp] theorem State.clearMergeLost_elem (s : State) (f : Face) : (s.clearMergeLost f).elem = s.elem := by
  simp [State.clearMergeLost]
@[simp] theorem State.clearMergeLost_plan (s : State) (f : Face) : (s.clearMergeLost f).plan = s.plan := by
  simp [State.clearMergeLost]
@[simp] theorem State.clearMergeLost_poss (s : State) (f : Face) : (s.clearMergeLost f).poss = s.poss := by
  simp [State.clearMergeLost]
@[simp] theorem State.clearMergeLost_sup (s : State) (f : Face) : (s.clearMergeLost f).sup = s.sup := by
  simp [State.clearMergeLost]
@[simp] theorem State.clearMergeLost_fault (s : State) (f : Face) : (s.clearMergeLost f).fault = s.fault := by
  simp [State.clearMergeLost]
@[simp] theorem State.clearMergeLost_store (s : State) (f : Face) : (s.clearMergeLost f).store = s.store := by
  simp [State.clearMergeLost]
@[simp] theorem State.clearMergeLost_pending (s : State) (f : Face) : (s.clearMergeLost f).pending = s.pending := by
  simp [State.clearMergeLost]

/-! ### enterStandby -/

@[simp] theorem State.enterStandby_phase (s : State) : (s.enterStandby).phase = s.phase := rfl
@[simp] theorem State.enterStandby_line (s : State) : (s.enterStandby).line = s.line := rfl
@[simp] theorem State.enterStandby_sweep (s : State) : (s.enterStandby).sweep = s.sweep := rfl
@[simp] theorem State.enterStandby_elem (s : State) : (s.enterStandby).elem = s.elem := rfl
@[simp] theorem State.enterStandby_plan (s : State) : (s.enterStandby).plan = s.plan := rfl
@[simp] theorem State.enterStandby_poss (s : State) : (s.enterStandby).poss = s.poss := rfl
@[simp] theorem State.enterStandby_fault (s : State) : (s.enterStandby).fault = s.fault := rfl
@[simp] theorem State.enterStandby_store (s : State) : (s.enterStandby).store = s.store := rfl
@[simp] theorem State.enterStandby_pending (s : State) : (s.enterStandby).pending = s.pending := rfl

/-! ### nodeTests -/

@[simp] theorem State.nodeTests_phase (s : State) : (s.nodeTests).phase = s.phase := by
  unfold State.nodeTests; (repeat' split) <;> simp
@[simp] theorem State.nodeTests_line (s : State) : (s.nodeTests).line = s.line := by
  unfold State.nodeTests; (repeat' split) <;> simp
@[simp] theorem State.nodeTests_sweep (s : State) : (s.nodeTests).sweep = s.sweep := by
  unfold State.nodeTests; (repeat' split) <;> simp
@[simp] theorem State.nodeTests_elem (s : State) : (s.nodeTests).elem = s.elem := by
  unfold State.nodeTests; (repeat' split) <;> simp
@[simp] theorem State.nodeTests_plan (s : State) : (s.nodeTests).plan = s.plan := by
  unfold State.nodeTests; (repeat' split) <;> simp
@[simp] theorem State.nodeTests_poss (s : State) : (s.nodeTests).poss = s.poss := by
  unfold State.nodeTests; (repeat' split) <;> simp
@[simp] theorem State.nodeTests_fault (s : State) : (s.nodeTests).fault = s.fault := by
  unfold State.nodeTests; (repeat' split) <;> simp
@[simp] theorem State.nodeTests_store (s : State) : (s.nodeTests).store = s.store := by
  unfold State.nodeTests; (repeat' split) <;> simp
@[simp] theorem State.nodeTests_pending (s : State) : (s.nodeTests).pending = s.pending := by
  unfold State.nodeTests; (repeat' split) <;> simp

/-! ### releaseAllFace -/

@[simp] theorem State.releaseAllFace_phase (s : State) (f : Face) : (s.releaseAllFace f).phase = s.phase := by
  unfold State.releaseAllFace; (repeat' split) <;> simp
@[simp] theorem State.releaseAllFace_line (s : State) (f : Face) : (s.releaseAllFace f).line = s.line := by
  unfold State.releaseAllFace; (repeat' split) <;> simp
@[simp] theorem State.releaseAllFace_node (s : State) (f : Face) : (s.releaseAllFace f).node = s.node := by
  unfold State.releaseAllFace; (repeat' split) <;> simp
@[simp] theorem State.releaseAllFace_sweep (s : State) (f : Face) : (s.releaseAllFace f).sweep = s.sweep := by
  unfold State.releaseAllFace; (repeat' split) <;> simp
@[simp] theorem State.releaseAllFace_plan (s : State) (f : Face) : (s.releaseAllFace f).plan = s.plan := by
  unfold State.releaseAllFace; (repeat' split) <;> simp
@[simp] theorem State.releaseAllFace_poss (s : State) (f : Face) : (s.releaseAllFace f).poss = s.poss := by
  unfold State.releaseAllFace; (repeat' split) <;> simp
@[simp] theorem State.releaseAllFace_sup (s : State) (f : Face) : (s.releaseAllFace f).sup = s.sup := by
  unfold State.releaseAllFace; (repeat' split) <;> simp
@[simp] theorem State.releaseAllFace_store (s : State) (f : Face) : (s.releaseAllFace f).store = s.store := by
  unfold State.releaseAllFace; (repeat' split) <;> simp
@[simp] theorem State.releaseAllFace_pending (s : State) (f : Face) : (s.releaseAllFace f).pending = s.pending := by
  unfold State.releaseAllFace; (repeat' split) <;> simp

/-! ### enterFailsafe -/

@[simp] theorem State.enterFailsafe_phase (s : State) (c : Cause) : (s.enterFailsafe c).phase = s.phase := by
  simp [State.enterFailsafe]
@[simp] theorem State.enterFailsafe_line (s : State) (c : Cause) : (s.enterFailsafe c).line = s.line := by
  simp [State.enterFailsafe]
@[simp] theorem State.enterFailsafe_sweep (s : State) (c : Cause) : (s.enterFailsafe c).sweep = s.sweep := by
  simp [State.enterFailsafe]
@[simp] theorem State.enterFailsafe_plan (s : State) (c : Cause) : (s.enterFailsafe c).plan = s.plan := by
  simp [State.enterFailsafe]
@[simp] theorem State.enterFailsafe_poss (s : State) (c : Cause) : (s.enterFailsafe c).poss = s.poss := by
  simp [State.enterFailsafe]
@[simp] theorem State.enterFailsafe_store (s : State) (c : Cause) : (s.enterFailsafe c).store = s.store := by
  simp [State.enterFailsafe]
@[simp] theorem State.enterFailsafe_pending (s : State) (c : Cause) : (s.enterFailsafe c).pending = s.pending := by
  simp [State.enterFailsafe]

/-! ### arise -/

@[simp] theorem State.arise_phase (s : State) (c : Cause) : (s.arise c).phase = s.phase := by
  unfold State.arise; split <;> simp
@[simp] theorem State.arise_line (s : State) (c : Cause) : (s.arise c).line = s.line := by
  unfold State.arise; split <;> simp
@[simp] theorem State.arise_sweep (s : State) (c : Cause) : (s.arise c).sweep = s.sweep := by
  unfold State.arise; split <;> simp
@[simp] theorem State.arise_plan (s : State) (c : Cause) : (s.arise c).plan = s.plan := by
  unfold State.arise; split <;> simp
@[simp] theorem State.arise_poss (s : State) (c : Cause) : (s.arise c).poss = s.poss := by
  unfold State.arise; split <;> simp
@[simp] theorem State.arise_store (s : State) (c : Cause) : (s.arise c).store = s.store := by
  unfold State.arise; split <;> simp
@[simp] theorem State.arise_pending (s : State) (c : Cause) : (s.arise c).pending = s.pending := by
  unfold State.arise; split <;> simp

/-! ### pend -/

@[simp] theorem State.pend_phase (s : State) (f : Face) (t : Target) (why : Reason) (keep : Bool) : (s.pend f t why keep).phase = s.phase := by
  unfold State.pend; dsimp only; (repeat' split) <;> simp
@[simp] theorem State.pend_line (s : State) (f : Face) (t : Target) (why : Reason) (keep : Bool) : (s.pend f t why keep).line = s.line := by
  unfold State.pend; dsimp only; (repeat' split) <;> simp
@[simp] theorem State.pend_node (s : State) (f : Face) (t : Target) (why : Reason) (keep : Bool) : (s.pend f t why keep).node = s.node := by
  unfold State.pend; dsimp only; (repeat' split) <;> simp
@[simp] theorem State.pend_sweep (s : State) (f : Face) (t : Target) (why : Reason) (keep : Bool) : (s.pend f t why keep).sweep = s.sweep := by
  unfold State.pend; dsimp only; (repeat' split) <;> simp
@[simp] theorem State.pend_elem (s : State) (f : Face) (t : Target) (why : Reason) (keep : Bool) : (s.pend f t why keep).elem = s.elem := by
  unfold State.pend; dsimp only; (repeat' split) <;> simp
@[simp] theorem State.pend_plan (s : State) (f : Face) (t : Target) (why : Reason) (keep : Bool) : (s.pend f t why keep).plan = s.plan := by
  unfold State.pend; dsimp only; (repeat' split) <;> simp
@[simp] theorem State.pend_poss (s : State) (f : Face) (t : Target) (why : Reason) (keep : Bool) : (s.pend f t why keep).poss = s.poss := by
  unfold State.pend; dsimp only; (repeat' split) <;> simp
@[simp] theorem State.pend_sup (s : State) (f : Face) (t : Target) (why : Reason) (keep : Bool) : (s.pend f t why keep).sup = s.sup := by
  unfold State.pend; dsimp only; (repeat' split) <;> simp
@[simp] theorem State.pend_store (s : State) (f : Face) (t : Target) (why : Reason) (keep : Bool) : (s.pend f t why keep).store = s.store := by
  unfold State.pend; dsimp only; (repeat' split) <;> simp
@[simp] theorem State.pend_pending (s : State) (f : Face) (t : Target) (why : Reason) (keep : Bool) : (s.pend f t why keep).pending = s.pending := by
  unfold State.pend; dsimp only; (repeat' split) <;> simp

/-! ### unpend -/

@[simp] theorem State.unpend_phase (s : State) (f : Face) : (s.unpend f).phase = s.phase := by
  simp [State.unpend]
@[simp] theorem State.unpend_line (s : State) (f : Face) : (s.unpend f).line = s.line := by
  simp [State.unpend]
@[simp] theorem State.unpend_node (s : State) (f : Face) : (s.unpend f).node = s.node := by
  simp [State.unpend]
@[simp] theorem State.unpend_sweep (s : State) (f : Face) : (s.unpend f).sweep = s.sweep := by
  simp [State.unpend]
@[simp] theorem State.unpend_elem (s : State) (f : Face) : (s.unpend f).elem = s.elem := by
  simp [State.unpend]
@[simp] theorem State.unpend_plan (s : State) (f : Face) : (s.unpend f).plan = s.plan := by
  simp [State.unpend]
@[simp] theorem State.unpend_poss (s : State) (f : Face) : (s.unpend f).poss = s.poss := by
  simp [State.unpend]
@[simp] theorem State.unpend_sup (s : State) (f : Face) : (s.unpend f).sup = s.sup := by
  simp [State.unpend]
@[simp] theorem State.unpend_fault (s : State) (f : Face) : (s.unpend f).fault = s.fault := by
  simp [State.unpend]
@[simp] theorem State.unpend_store (s : State) (f : Face) : (s.unpend f).store = s.store := by
  simp [State.unpend]
@[simp] theorem State.unpend_pending (s : State) (f : Face) : (s.unpend f).pending = s.pending := by
  simp [State.unpend]

/-! ### supersede -/

@[simp] theorem State.supersede_phase (s : State) (f : Face) : (s.supersede f).phase = s.phase := by
  unfold State.supersede; split <;> simp
@[simp] theorem State.supersede_line (s : State) (f : Face) : (s.supersede f).line = s.line := by
  unfold State.supersede; split <;> simp
@[simp] theorem State.supersede_node (s : State) (f : Face) : (s.supersede f).node = s.node := by
  unfold State.supersede; split <;> simp
@[simp] theorem State.supersede_sweep (s : State) (f : Face) : (s.supersede f).sweep = s.sweep := by
  unfold State.supersede; split <;> simp
@[simp] theorem State.supersede_elem (s : State) (f : Face) : (s.supersede f).elem = s.elem := by
  unfold State.supersede; split <;> simp
@[simp] theorem State.supersede_plan (s : State) (f : Face) : (s.supersede f).plan = s.plan := by
  unfold State.supersede; split <;> simp
@[simp] theorem State.supersede_poss (s : State) (f : Face) : (s.supersede f).poss = s.poss := by
  unfold State.supersede; split <;> simp
@[simp] theorem State.supersede_sup (s : State) (f : Face) : (s.supersede f).sup = s.sup := by
  unfold State.supersede; split <;> simp
@[simp] theorem State.supersede_store (s : State) (f : Face) : (s.supersede f).store = s.store := by
  unfold State.supersede; split <;> simp
@[simp] theorem State.supersede_pending (s : State) (f : Face) : (s.supersede f).pending = s.pending := by
  unfold State.supersede; split <;> simp

/-! ### takeTarget -/

@[simp] theorem State.takeTarget_phase (s : State) (f : Face) (t : Target) (g : GateOutcome) : (s.takeTarget f t g).phase = s.phase := by
  unfold State.takeTarget; dsimp only; (repeat' split) <;> simp
@[simp] theorem State.takeTarget_line (s : State) (f : Face) (t : Target) (g : GateOutcome) : (s.takeTarget f t g).line = s.line := by
  unfold State.takeTarget; dsimp only; (repeat' split) <;> simp
@[simp] theorem State.takeTarget_node (s : State) (f : Face) (t : Target) (g : GateOutcome) : (s.takeTarget f t g).node = s.node := by
  unfold State.takeTarget; dsimp only; (repeat' split) <;> simp
@[simp] theorem State.takeTarget_sweep (s : State) (f : Face) (t : Target) (g : GateOutcome) : (s.takeTarget f t g).sweep = s.sweep := by
  unfold State.takeTarget; dsimp only; (repeat' split) <;> simp
@[simp] theorem State.takeTarget_plan (s : State) (f : Face) (t : Target) (g : GateOutcome) : (s.takeTarget f t g).plan = s.plan := by
  unfold State.takeTarget; dsimp only; (repeat' split) <;> simp
@[simp] theorem State.takeTarget_poss (s : State) (f : Face) (t : Target) (g : GateOutcome) : (s.takeTarget f t g).poss = s.poss := by
  unfold State.takeTarget; dsimp only; (repeat' split) <;> simp
@[simp] theorem State.takeTarget_sup (s : State) (f : Face) (t : Target) (g : GateOutcome) : (s.takeTarget f t g).sup = s.sup := by
  unfold State.takeTarget; dsimp only; (repeat' split) <;> simp
@[simp] theorem State.takeTarget_store (s : State) (f : Face) (t : Target) (g : GateOutcome) : (s.takeTarget f t g).store = s.store := by
  unfold State.takeTarget; dsimp only; (repeat' split) <;> simp
@[simp] theorem State.takeTarget_pending (s : State) (f : Face) (t : Target) (g : GateOutcome) : (s.takeTarget f t g).pending = s.pending := by
  unfold State.takeTarget; dsimp only; (repeat' split) <;> simp

/-! ### decide -/

@[simp] theorem State.decide_phase (s : State) (f : Face) (v : PassView) : (s.decide f v).phase = s.phase := by
  simp [State.decide]
@[simp] theorem State.decide_line (s : State) (f : Face) (v : PassView) : (s.decide f v).line = s.line := by
  simp [State.decide]
@[simp] theorem State.decide_node (s : State) (f : Face) (v : PassView) : (s.decide f v).node = s.node := by
  simp [State.decide]
@[simp] theorem State.decide_sweep (s : State) (f : Face) (v : PassView) : (s.decide f v).sweep = s.sweep := by
  simp [State.decide]
@[simp] theorem State.decide_plan (s : State) (f : Face) (v : PassView) : (s.decide f v).plan = s.plan := by
  simp [State.decide]
@[simp] theorem State.decide_poss (s : State) (f : Face) (v : PassView) : (s.decide f v).poss = s.poss := by
  simp [State.decide]
@[simp] theorem State.decide_sup (s : State) (f : Face) (v : PassView) : (s.decide f v).sup = s.sup := by
  simp [State.decide]
@[simp] theorem State.decide_store (s : State) (f : Face) (v : PassView) : (s.decide f v).store = s.store := by
  simp [State.decide]
@[simp] theorem State.decide_pending (s : State) (f : Face) (v : PassView) : (s.decide f v).pending = s.pending := by
  simp [State.decide]

/-! ### advanceAge -/

@[simp] theorem State.advanceAge_phase (s : State) (f : Face) : (s.advanceAge f).phase = s.phase := by
  simp [State.advanceAge]
@[simp] theorem State.advanceAge_line (s : State) (f : Face) : (s.advanceAge f).line = s.line := by
  simp [State.advanceAge]
@[simp] theorem State.advanceAge_node (s : State) (f : Face) : (s.advanceAge f).node = s.node := by
  simp [State.advanceAge]
@[simp] theorem State.advanceAge_sweep (s : State) (f : Face) : (s.advanceAge f).sweep = s.sweep := by
  simp [State.advanceAge]
@[simp] theorem State.advanceAge_elem (s : State) (f : Face) : (s.advanceAge f).elem = s.elem := by
  simp [State.advanceAge]
@[simp] theorem State.advanceAge_plan (s : State) (f : Face) : (s.advanceAge f).plan = s.plan := by
  simp [State.advanceAge]
@[simp] theorem State.advanceAge_poss (s : State) (f : Face) : (s.advanceAge f).poss = s.poss := by
  simp [State.advanceAge]
@[simp] theorem State.advanceAge_sup (s : State) (f : Face) : (s.advanceAge f).sup = s.sup := by
  simp [State.advanceAge]
@[simp] theorem State.advanceAge_store (s : State) (f : Face) : (s.advanceAge f).store = s.store := by
  simp [State.advanceAge]
@[simp] theorem State.advanceAge_pending (s : State) (f : Face) : (s.advanceAge f).pending = s.pending := by
  simp [State.advanceAge]

/-! ### mergeFound -/

@[simp] theorem State.mergeFound_phase (s : State) (f : Face) : (s.mergeFound f).phase = s.phase := by
  unfold State.mergeFound; (repeat' split) <;> simp
@[simp] theorem State.mergeFound_line (s : State) (f : Face) : (s.mergeFound f).line = s.line := by
  unfold State.mergeFound; (repeat' split) <;> simp
@[simp] theorem State.mergeFound_node (s : State) (f : Face) : (s.mergeFound f).node = s.node := by
  unfold State.mergeFound; (repeat' split) <;> simp
@[simp] theorem State.mergeFound_sweep (s : State) (f : Face) : (s.mergeFound f).sweep = s.sweep := by
  unfold State.mergeFound; (repeat' split) <;> simp
@[simp] theorem State.mergeFound_elem (s : State) (f : Face) : (s.mergeFound f).elem = s.elem := by
  unfold State.mergeFound; (repeat' split) <;> simp
@[simp] theorem State.mergeFound_plan (s : State) (f : Face) : (s.mergeFound f).plan = s.plan := by
  unfold State.mergeFound; (repeat' split) <;> simp
@[simp] theorem State.mergeFound_poss (s : State) (f : Face) : (s.mergeFound f).poss = s.poss := by
  unfold State.mergeFound; (repeat' split) <;> simp
@[simp] theorem State.mergeFound_sup (s : State) (f : Face) : (s.mergeFound f).sup = s.sup := by
  unfold State.mergeFound; (repeat' split) <;> simp
@[simp] theorem State.mergeFound_fault (s : State) (f : Face) : (s.mergeFound f).fault = s.fault := by
  unfold State.mergeFound; (repeat' split) <;> simp
@[simp] theorem State.mergeFound_store (s : State) (f : Face) : (s.mergeFound f).store = s.store := by
  unfold State.mergeFound; (repeat' split) <;> simp
@[simp] theorem State.mergeFound_pending (s : State) (f : Face) : (s.mergeFound f).pending = s.pending := by
  unfold State.mergeFound; (repeat' split) <;> simp

/-! ### mergeTest -/

@[simp] theorem State.mergeTest_phase (s : State) (f : Face) : (s.mergeTest f).phase = s.phase := by
  unfold State.mergeTest; (repeat' split) <;> simp
@[simp] theorem State.mergeTest_line (s : State) (f : Face) : (s.mergeTest f).line = s.line := by
  unfold State.mergeTest; (repeat' split) <;> simp
@[simp] theorem State.mergeTest_node (s : State) (f : Face) : (s.mergeTest f).node = s.node := by
  unfold State.mergeTest; (repeat' split) <;> simp
@[simp] theorem State.mergeTest_sweep (s : State) (f : Face) : (s.mergeTest f).sweep = s.sweep := by
  unfold State.mergeTest; (repeat' split) <;> simp
@[simp] theorem State.mergeTest_elem (s : State) (f : Face) : (s.mergeTest f).elem = s.elem := by
  unfold State.mergeTest; (repeat' split) <;> simp
@[simp] theorem State.mergeTest_plan (s : State) (f : Face) : (s.mergeTest f).plan = s.plan := by
  unfold State.mergeTest; (repeat' split) <;> simp
@[simp] theorem State.mergeTest_poss (s : State) (f : Face) : (s.mergeTest f).poss = s.poss := by
  unfold State.mergeTest; (repeat' split) <;> simp
@[simp] theorem State.mergeTest_sup (s : State) (f : Face) : (s.mergeTest f).sup = s.sup := by
  unfold State.mergeTest; (repeat' split) <;> simp
@[simp] theorem State.mergeTest_store (s : State) (f : Face) : (s.mergeTest f).store = s.store := by
  unfold State.mergeTest; (repeat' split) <;> simp
@[simp] theorem State.mergeTest_pending (s : State) (f : Face) : (s.mergeTest f).pending = s.pending := by
  unfold State.mergeTest; (repeat' split) <;> simp

/-! ### mergeCheck -/

@[simp] theorem State.mergeCheck_phase (s : State) (f : Face) : (s.mergeCheck f).phase = s.phase := by
  simp [State.mergeCheck]
@[simp] theorem State.mergeCheck_line (s : State) (f : Face) : (s.mergeCheck f).line = s.line := by
  simp [State.mergeCheck]
@[simp] theorem State.mergeCheck_node (s : State) (f : Face) : (s.mergeCheck f).node = s.node := by
  simp [State.mergeCheck]
@[simp] theorem State.mergeCheck_sweep (s : State) (f : Face) : (s.mergeCheck f).sweep = s.sweep := by
  simp [State.mergeCheck]
@[simp] theorem State.mergeCheck_elem (s : State) (f : Face) : (s.mergeCheck f).elem = s.elem := by
  simp [State.mergeCheck]
@[simp] theorem State.mergeCheck_plan (s : State) (f : Face) : (s.mergeCheck f).plan = s.plan := by
  simp [State.mergeCheck]
@[simp] theorem State.mergeCheck_poss (s : State) (f : Face) : (s.mergeCheck f).poss = s.poss := by
  simp [State.mergeCheck]
@[simp] theorem State.mergeCheck_sup (s : State) (f : Face) : (s.mergeCheck f).sup = s.sup := by
  simp [State.mergeCheck]
@[simp] theorem State.mergeCheck_store (s : State) (f : Face) : (s.mergeCheck f).store = s.store := by
  simp [State.mergeCheck]
@[simp] theorem State.mergeCheck_pending (s : State) (f : Face) : (s.mergeCheck f).pending = s.pending := by
  simp [State.mergeCheck]

end Sys2Proof.Machine
end

