-- ==== Sys2Proof/Laws/Ops.lean ====
section
/-! SUPPORT. Frames: what the operations on the line, the storage writer and the node, and the work of a pass or a command, leave unchanged, one lemma per
operation and block. Later proofs read a block after an operation by these and unfold no operation. -/

namespace Sys2Proof.Machine

/-! ### endConfigure -/

@[simp] theorem State.endConfigure_phase (s : State) : (s.endConfigure).phase = s.phase := rfl
@[simp] theorem State.endConfigure_node (s : State) : (s.endConfigure).node = s.node := rfl
@[simp] theorem State.endConfigure_sweep (s : State) : (s.endConfigure).sweep = s.sweep := rfl
@[simp] theorem State.endConfigure_faces (s : State) : (s.endConfigure).faces = s.faces := rfl
@[simp] theorem State.endConfigure_elem (s : State) : (s.endConfigure).elem = s.elem := rfl
@[simp] theorem State.endConfigure_plan (s : State) : (s.endConfigure).plan = s.plan := rfl
@[simp] theorem State.endConfigure_poss (s : State) : (s.endConfigure).poss = s.poss := rfl
@[simp] theorem State.endConfigure_sup (s : State) : (s.endConfigure).sup = s.sup := rfl
@[simp] theorem State.endConfigure_fault (s : State) : (s.endConfigure).fault = s.fault := rfl
@[simp] theorem State.endConfigure_store (s : State) : (s.endConfigure).store = s.store := rfl
@[simp] theorem State.endConfigure_pending (s : State) : (s.endConfigure).pending = s.pending := rfl

/-! ### through -/

@[simp] theorem State.through_phase (s : State) (b : Bool) : (s.through b).phase = s.phase := rfl
@[simp] theorem State.through_node (s : State) (b : Bool) : (s.through b).node = s.node := rfl
@[simp] theorem State.through_sweep (s : State) (b : Bool) : (s.through b).sweep = s.sweep := rfl
@[simp] theorem State.through_faces (s : State) (b : Bool) : (s.through b).faces = s.faces := rfl
@[simp] theorem State.through_elem (s : State) (b : Bool) : (s.through b).elem = s.elem := rfl
@[simp] theorem State.through_plan (s : State) (b : Bool) : (s.through b).plan = s.plan := rfl
@[simp] theorem State.through_poss (s : State) (b : Bool) : (s.through b).poss = s.poss := rfl
@[simp] theorem State.through_sup (s : State) (b : Bool) : (s.through b).sup = s.sup := rfl
@[simp] theorem State.through_fault (s : State) (b : Bool) : (s.through b).fault = s.fault := rfl
@[simp] theorem State.through_store (s : State) (b : Bool) : (s.through b).store = s.store := rfl
@[simp] theorem State.through_pending (s : State) (b : Bool) : (s.through b).pending = s.pending := rfl

/-! ### received -/

@[simp] theorem State.received_phase (s : State) (p : Port) : (s.received p).phase = s.phase := rfl
@[simp] theorem State.received_node (s : State) (p : Port) : (s.received p).node = s.node := rfl
@[simp] theorem State.received_sweep (s : State) (p : Port) : (s.received p).sweep = s.sweep := rfl
@[simp] theorem State.received_faces (s : State) (p : Port) : (s.received p).faces = s.faces := rfl
@[simp] theorem State.received_elem (s : State) (p : Port) : (s.received p).elem = s.elem := rfl
@[simp] theorem State.received_plan (s : State) (p : Port) : (s.received p).plan = s.plan := rfl
@[simp] theorem State.received_poss (s : State) (p : Port) : (s.received p).poss = s.poss := rfl
@[simp] theorem State.received_sup (s : State) (p : Port) : (s.received p).sup = s.sup := rfl
@[simp] theorem State.received_fault (s : State) (p : Port) : (s.received p).fault = s.fault := rfl
@[simp] theorem State.received_store (s : State) (p : Port) : (s.received p).store = s.store := rfl
@[simp] theorem State.received_pending (s : State) (p : Port) : (s.received p).pending = s.pending := rfl

/-! ### lockWriteBegin -/

@[simp] theorem State.lockWriteBegin_phase (s : State) : (s.lockWriteBegin).phase = s.phase := by
  unfold State.lockWriteBegin; split <;> simp
@[simp] theorem State.lockWriteBegin_line (s : State) : (s.lockWriteBegin).line = s.line := by
  unfold State.lockWriteBegin; split <;> simp
@[simp] theorem State.lockWriteBegin_node (s : State) : (s.lockWriteBegin).node = s.node := by
  unfold State.lockWriteBegin; split <;> simp
@[simp] theorem State.lockWriteBegin_sweep (s : State) : (s.lockWriteBegin).sweep = s.sweep := by
  unfold State.lockWriteBegin; split <;> simp
@[simp] theorem State.lockWriteBegin_faces (s : State) : (s.lockWriteBegin).faces = s.faces := by
  unfold State.lockWriteBegin; split <;> simp
@[simp] theorem State.lockWriteBegin_elem (s : State) : (s.lockWriteBegin).elem = s.elem := by
  unfold State.lockWriteBegin; split <;> simp
@[simp] theorem State.lockWriteBegin_plan (s : State) : (s.lockWriteBegin).plan = s.plan := by
  unfold State.lockWriteBegin; split <;> simp
@[simp] theorem State.lockWriteBegin_sup (s : State) : (s.lockWriteBegin).sup = s.sup := by
  unfold State.lockWriteBegin; split <;> simp
@[simp] theorem State.lockWriteBegin_fault (s : State) : (s.lockWriteBegin).fault = s.fault := by
  unfold State.lockWriteBegin; split <;> simp
@[simp] theorem State.lockWriteBegin_pending (s : State) : (s.lockWriteBegin).pending = s.pending := by
  unfold State.lockWriteBegin; split <;> simp

/-! ### writerIdle -/

@[simp] theorem State.writerIdle_phase (s : State) : (s.writerIdle).phase = s.phase := by
  simp [State.writerIdle]
@[simp] theorem State.writerIdle_line (s : State) : (s.writerIdle).line = s.line := by
  simp [State.writerIdle]
@[simp] theorem State.writerIdle_node (s : State) : (s.writerIdle).node = s.node := by
  simp [State.writerIdle]
@[simp] theorem State.writerIdle_sweep (s : State) : (s.writerIdle).sweep = s.sweep := by
  simp [State.writerIdle]
@[simp] theorem State.writerIdle_faces (s : State) : (s.writerIdle).faces = s.faces := by
  simp [State.writerIdle]
@[simp] theorem State.writerIdle_elem (s : State) : (s.writerIdle).elem = s.elem := by
  simp [State.writerIdle]
@[simp] theorem State.writerIdle_plan (s : State) : (s.writerIdle).plan = s.plan := by
  simp [State.writerIdle]
@[simp] theorem State.writerIdle_sup (s : State) : (s.writerIdle).sup = s.sup := by
  simp [State.writerIdle]
@[simp] theorem State.writerIdle_fault (s : State) : (s.writerIdle).fault = s.fault := by
  simp [State.writerIdle]
@[simp] theorem State.writerIdle_pending (s : State) : (s.writerIdle).pending = s.pending := by
  simp [State.writerIdle]

/-! ### storeFaces -/

@[simp] theorem State.storeFaces_phase (s : State) (c : StoreCopy) : (s.storeFaces c).phase = s.phase := rfl
@[simp] theorem State.storeFaces_line (s : State) (c : StoreCopy) : (s.storeFaces c).line = s.line := rfl
@[simp] theorem State.storeFaces_node (s : State) (c : StoreCopy) : (s.storeFaces c).node = s.node := rfl
@[simp] theorem State.storeFaces_sweep (s : State) (c : StoreCopy) : (s.storeFaces c).sweep = s.sweep := rfl
@[simp] theorem State.storeFaces_faces (s : State) (c : StoreCopy) : (s.storeFaces c).faces = s.faces := rfl
@[simp] theorem State.storeFaces_elem (s : State) (c : StoreCopy) : (s.storeFaces c).elem = s.elem := rfl
@[simp] theorem State.storeFaces_plan (s : State) (c : StoreCopy) : (s.storeFaces c).plan = s.plan := rfl
@[simp] theorem State.storeFaces_poss (s : State) (c : StoreCopy) : (s.storeFaces c).poss = s.poss := rfl
@[simp] theorem State.storeFaces_sup (s : State) (c : StoreCopy) : (s.storeFaces c).sup = s.sup := rfl
@[simp] theorem State.storeFaces_fault (s : State) (c : StoreCopy) : (s.storeFaces c).fault = s.fault := rfl
@[simp] theorem State.storeFaces_pending (s : State) (c : StoreCopy) : (s.storeFaces c).pending = s.pending := rfl

/-! ### setMasks -/

@[simp] theorem State.setMasks_phase (s : State) (m : BitVec 12) : (s.setMasks m).phase = s.phase := rfl
@[simp] theorem State.setMasks_line (s : State) (m : BitVec 12) : (s.setMasks m).line = s.line := rfl
@[simp] theorem State.setMasks_node (s : State) (m : BitVec 12) : (s.setMasks m).node = s.node := rfl
@[simp] theorem State.setMasks_sweep (s : State) (m : BitVec 12) : (s.setMasks m).sweep = s.sweep := rfl
@[simp] theorem State.setMasks_faces (s : State) (m : BitVec 12) : (s.setMasks m).faces = s.faces := rfl
@[simp] theorem State.setMasks_elem (s : State) (m : BitVec 12) : (s.setMasks m).elem = s.elem := rfl
@[simp] theorem State.setMasks_plan (s : State) (m : BitVec 12) : (s.setMasks m).plan = s.plan := rfl
@[simp] theorem State.setMasks_poss (s : State) (m : BitVec 12) : (s.setMasks m).poss = s.poss := rfl
@[simp] theorem State.setMasks_sup (s : State) (m : BitVec 12) : (s.setMasks m).sup = s.sup := rfl
@[simp] theorem State.setMasks_store (s : State) (m : BitVec 12) : (s.setMasks m).store = s.store := rfl
@[simp] theorem State.setMasks_pending (s : State) (m : BitVec 12) : (s.setMasks m).pending = s.pending := rfl

/-! ### abandonSequence -/

@[simp] theorem State.abandonSequence_phase (s : State) (c : Cmd) : (s.abandonSequence c).phase = s.phase := by
  unfold State.abandonSequence; split <;> simp
@[simp] theorem State.abandonSequence_line (s : State) (c : Cmd) : (s.abandonSequence c).line = s.line := by
  unfold State.abandonSequence; split <;> simp
@[simp] theorem State.abandonSequence_node (s : State) (c : Cmd) : (s.abandonSequence c).node = s.node := by
  unfold State.abandonSequence; split <;> simp
@[simp] theorem State.abandonSequence_sweep (s : State) (c : Cmd) : (s.abandonSequence c).sweep = s.sweep := by
  unfold State.abandonSequence; split <;> simp
@[simp] theorem State.abandonSequence_faces (s : State) (c : Cmd) : (s.abandonSequence c).faces = s.faces := by
  unfold State.abandonSequence; split <;> simp
@[simp] theorem State.abandonSequence_elem (s : State) (c : Cmd) : (s.abandonSequence c).elem = s.elem := by
  unfold State.abandonSequence; split <;> simp
@[simp] theorem State.abandonSequence_plan (s : State) (c : Cmd) : (s.abandonSequence c).plan = s.plan := by
  unfold State.abandonSequence; split <;> simp
@[simp] theorem State.abandonSequence_sup (s : State) (c : Cmd) : (s.abandonSequence c).sup = s.sup := by
  unfold State.abandonSequence; split <;> simp
@[simp] theorem State.abandonSequence_store (s : State) (c : Cmd) : (s.abandonSequence c).store = s.store := by
  unfold State.abandonSequence; split <;> simp
@[simp] theorem State.abandonSequence_pending (s : State) (c : Cmd) : (s.abandonSequence c).pending = s.pending := by
  unfold State.abandonSequence; split <;> simp

/-! ### takePass -/

@[simp] theorem State.takePass_phase (s : State) (p : Pass) (q : BitVec 16) (b : Bool) : (s.takePass p q b).phase = s.phase := rfl
@[simp] theorem State.takePass_line (s : State) (p : Pass) (q : BitVec 16) (b : Bool) : (s.takePass p q b).line = s.line := rfl
@[simp] theorem State.takePass_node (s : State) (p : Pass) (q : BitVec 16) (b : Bool) : (s.takePass p q b).node = s.node := rfl
@[simp] theorem State.takePass_faces (s : State) (p : Pass) (q : BitVec 16) (b : Bool) : (s.takePass p q b).faces = s.faces := rfl
@[simp] theorem State.takePass_elem (s : State) (p : Pass) (q : BitVec 16) (b : Bool) : (s.takePass p q b).elem = s.elem := rfl
@[simp] theorem State.takePass_plan (s : State) (p : Pass) (q : BitVec 16) (b : Bool) : (s.takePass p q b).plan = s.plan := rfl
@[simp] theorem State.takePass_poss (s : State) (p : Pass) (q : BitVec 16) (b : Bool) : (s.takePass p q b).poss = s.poss := rfl
@[simp] theorem State.takePass_sup (s : State) (p : Pass) (q : BitVec 16) (b : Bool) : (s.takePass p q b).sup = s.sup := rfl
@[simp] theorem State.takePass_fault (s : State) (p : Pass) (q : BitVec 16) (b : Bool) : (s.takePass p q b).fault = s.fault := rfl
@[simp] theorem State.takePass_store (s : State) (p : Pass) (q : BitVec 16) (b : Bool) : (s.takePass p q b).store = s.store := rfl
@[simp] theorem State.takePass_pending (s : State) (p : Pass) (q : BitVec 16) (b : Bool) : (s.takePass p q b).pending = s.pending := rfl

/-! ### heard -/

@[simp] theorem State.heard_phase (s : State) : (s.heard).phase = s.phase := by
  unfold State.heard; split <;> simp
@[simp] theorem State.heard_line (s : State) : (s.heard).line = s.line := by
  unfold State.heard; split <;> simp
@[simp] theorem State.heard_sweep (s : State) : (s.heard).sweep = s.sweep := by
  unfold State.heard; split <;> simp
@[simp] theorem State.heard_faces (s : State) : (s.heard).faces = s.faces := by
  unfold State.heard; split <;> simp
@[simp] theorem State.heard_elem (s : State) : (s.heard).elem = s.elem := by
  unfold State.heard; split <;> simp
@[simp] theorem State.heard_plan (s : State) : (s.heard).plan = s.plan := by
  unfold State.heard; split <;> simp
@[simp] theorem State.heard_poss (s : State) : (s.heard).poss = s.poss := by
  unfold State.heard; split <;> simp
@[simp] theorem State.heard_fault (s : State) : (s.heard).fault = s.fault := by
  unfold State.heard; split <;> simp
@[simp] theorem State.heard_store (s : State) : (s.heard).store = s.store := by
  unfold State.heard; split <;> simp
@[simp] theorem State.heard_pending (s : State) : (s.heard).pending = s.pending := by
  unfold State.heard; split <;> simp

/-! ### faceWork -/

@[simp] theorem State.faceWork_phase (s : State) (f : Face) (v : PassView) (b : Bool) : (s.faceWork f v b).phase = s.phase := by
  unfold State.faceWork; (repeat' split) <;> simp
@[simp] theorem State.faceWork_line (s : State) (f : Face) (v : PassView) (b : Bool) : (s.faceWork f v b).line = s.line := by
  unfold State.faceWork; (repeat' split) <;> simp
@[simp] theorem State.faceWork_node (s : State) (f : Face) (v : PassView) (b : Bool) : (s.faceWork f v b).node = s.node := by
  unfold State.faceWork; (repeat' split) <;> simp
@[simp] theorem State.faceWork_sweep (s : State) (f : Face) (v : PassView) (b : Bool) : (s.faceWork f v b).sweep = s.sweep := by
  unfold State.faceWork; (repeat' split) <;> simp
@[simp] theorem State.faceWork_plan (s : State) (f : Face) (v : PassView) (b : Bool) : (s.faceWork f v b).plan = s.plan := by
  unfold State.faceWork; (repeat' split) <;> simp
@[simp] theorem State.faceWork_poss (s : State) (f : Face) (v : PassView) (b : Bool) : (s.faceWork f v b).poss = s.poss := by
  unfold State.faceWork; (repeat' split) <;> simp
@[simp] theorem State.faceWork_sup (s : State) (f : Face) (v : PassView) (b : Bool) : (s.faceWork f v b).sup = s.sup := by
  unfold State.faceWork; (repeat' split) <;> simp
@[simp] theorem State.faceWork_store (s : State) (f : Face) (v : PassView) (b : Bool) : (s.faceWork f v b).store = s.store := by
  unfold State.faceWork; (repeat' split) <;> simp
@[simp] theorem State.faceWork_pending (s : State) (f : Face) (v : PassView) (b : Bool) : (s.faceWork f v b).pending = s.pending := by
  unfold State.faceWork; (repeat' split) <;> simp

/-! ### faultyPass -/

@[simp] theorem State.faultyPass_phase (s : State) (f : Frame) (b : SweepBody) : (s.faultyPass f b).1.phase = s.phase := rfl
@[simp] theorem State.faultyPass_line (s : State) (f : Frame) (b : SweepBody) : (s.faultyPass f b).1.line = s.line := rfl
@[simp] theorem State.faultyPass_node (s : State) (f : Frame) (b : SweepBody) : (s.faultyPass f b).1.node = s.node := rfl
@[simp] theorem State.faultyPass_faces (s : State) (f : Frame) (b : SweepBody) : (s.faultyPass f b).1.faces = s.faces := rfl
@[simp] theorem State.faultyPass_elem (s : State) (f : Frame) (b : SweepBody) : (s.faultyPass f b).1.elem = s.elem := rfl
@[simp] theorem State.faultyPass_plan (s : State) (f : Frame) (b : SweepBody) : (s.faultyPass f b).1.plan = s.plan := rfl
@[simp] theorem State.faultyPass_poss (s : State) (f : Frame) (b : SweepBody) : (s.faultyPass f b).1.poss = s.poss := rfl
@[simp] theorem State.faultyPass_sup (s : State) (f : Frame) (b : SweepBody) : (s.faultyPass f b).1.sup = s.sup := rfl
@[simp] theorem State.faultyPass_store (s : State) (f : Frame) (b : SweepBody) : (s.faultyPass f b).1.store = s.store := rfl
@[simp] theorem State.faultyPass_pending (s : State) (f : Frame) (b : SweepBody) : (s.faultyPass f b).1.pending = s.pending := rfl

/-! ### arrive -/

@[simp] theorem State.arrive_phase (s : State) (p : Pass) (b : SweepBody) : (s.arrive p b).phase = s.phase := by
  simp [State.arrive]
@[simp] theorem State.arrive_line (s : State) (p : Pass) (b : SweepBody) : (s.arrive p b).line = s.line := by
  simp [State.arrive]
@[simp] theorem State.arrive_faces (s : State) (p : Pass) (b : SweepBody) : (s.arrive p b).faces = s.faces := by
  simp [State.arrive]
@[simp] theorem State.arrive_elem (s : State) (p : Pass) (b : SweepBody) : (s.arrive p b).elem = s.elem := by
  simp [State.arrive]
@[simp] theorem State.arrive_plan (s : State) (p : Pass) (b : SweepBody) : (s.arrive p b).plan = s.plan := by
  simp [State.arrive]
@[simp] theorem State.arrive_poss (s : State) (p : Pass) (b : SweepBody) : (s.arrive p b).poss = s.poss := by
  simp [State.arrive]
@[simp] theorem State.arrive_store (s : State) (p : Pass) (b : SweepBody) : (s.arrive p b).store = s.store := by
  simp [State.arrive]
@[simp] theorem State.arrive_pending (s : State) (p : Pass) (b : SweepBody) : (s.arrive p b).pending = s.pending := by
  simp [State.arrive]

/-! ### validPass -/

@[simp] theorem State.validPass_phase (s : State) (f : Frame) (b : SweepBody) : (s.validPass f b).1.phase = s.phase := by
  simp [State.validPass]
@[simp] theorem State.validPass_line (s : State) (f : Frame) (b : SweepBody) : (s.validPass f b).1.line = s.line := by
  simp [State.validPass]
@[simp] theorem State.validPass_plan (s : State) (f : Frame) (b : SweepBody) : (s.validPass f b).1.plan = s.plan := by
  simp [State.validPass]
@[simp] theorem State.validPass_poss (s : State) (f : Frame) (b : SweepBody) : (s.validPass f b).1.poss = s.poss := by
  simp [State.validPass]
@[simp] theorem State.validPass_store (s : State) (f : Frame) (b : SweepBody) : (s.validPass f b).1.store = s.store := by
  simp [State.validPass]
@[simp] theorem State.validPass_pending (s : State) (f : Frame) (b : SweepBody) : (s.validPass f b).1.pending = s.pending := by
  simp [State.validPass]

/-! ### sweepPass -/

@[simp] theorem State.sweepPass_phase (s : State) (f : Frame) : (s.sweepPass f).1.phase = s.phase := by
  unfold State.sweepPass; (repeat' split) <;> simp
@[simp] theorem State.sweepPass_line (s : State) (f : Frame) : (s.sweepPass f).1.line = s.line := by
  unfold State.sweepPass; (repeat' split) <;> simp
@[simp] theorem State.sweepPass_plan (s : State) (f : Frame) : (s.sweepPass f).1.plan = s.plan := by
  unfold State.sweepPass; (repeat' split) <;> simp
@[simp] theorem State.sweepPass_poss (s : State) (f : Frame) : (s.sweepPass f).1.poss = s.poss := by
  unfold State.sweepPass; (repeat' split) <;> simp
@[simp] theorem State.sweepPass_store (s : State) (f : Frame) : (s.sweepPass f).1.store = s.store := by
  unfold State.sweepPass; (repeat' split) <;> simp
@[simp] theorem State.sweepPass_pending (s : State) (f : Frame) : (s.sweepPass f).1.pending = s.pending := by
  unfold State.sweepPass; (repeat' split) <;> simp

/-! ### sweepReturn -/

@[simp] theorem State.sweepReturn_phase (s : State) (f : Frame) : (s.sweepReturn f).1.phase = s.phase := by
  simp [State.sweepReturn]
@[simp] theorem State.sweepReturn_line (s : State) (f : Frame) : (s.sweepReturn f).1.line = s.line := by
  simp [State.sweepReturn]
@[simp] theorem State.sweepReturn_plan (s : State) (f : Frame) : (s.sweepReturn f).1.plan = s.plan := by
  simp [State.sweepReturn]
@[simp] theorem State.sweepReturn_poss (s : State) (f : Frame) : (s.sweepReturn f).1.poss = s.poss := by
  simp [State.sweepReturn]
@[simp] theorem State.sweepReturn_store (s : State) (f : Frame) : (s.sweepReturn f).1.store = s.store := by
  simp [State.sweepReturn]
@[simp] theorem State.sweepReturn_pending (s : State) (f : Frame) : (s.sweepReturn f).1.pending = s.pending := by
  simp [State.sweepReturn]

/-! ### rollcall -/

@[simp] theorem State.rollcall_phase (s : State) (f : Frame) : (s.rollcall f).1.phase = s.phase := by
  unfold State.rollcall; (repeat' split) <;> simp
@[simp] theorem State.rollcall_line (s : State) (f : Frame) : (s.rollcall f).1.line = s.line := by
  unfold State.rollcall; (repeat' split) <;> simp
@[simp] theorem State.rollcall_node (s : State) (f : Frame) : (s.rollcall f).1.node = s.node := by
  unfold State.rollcall; (repeat' split) <;> simp
@[simp] theorem State.rollcall_sweep (s : State) (f : Frame) : (s.rollcall f).1.sweep = s.sweep := by
  unfold State.rollcall; (repeat' split) <;> simp
@[simp] theorem State.rollcall_faces (s : State) (f : Frame) : (s.rollcall f).1.faces = s.faces := by
  unfold State.rollcall; (repeat' split) <;> simp
@[simp] theorem State.rollcall_elem (s : State) (f : Frame) : (s.rollcall f).1.elem = s.elem := by
  unfold State.rollcall; (repeat' split) <;> simp
@[simp] theorem State.rollcall_plan (s : State) (f : Frame) : (s.rollcall f).1.plan = s.plan := by
  unfold State.rollcall; (repeat' split) <;> simp
@[simp] theorem State.rollcall_poss (s : State) (f : Frame) : (s.rollcall f).1.poss = s.poss := by
  unfold State.rollcall; (repeat' split) <;> simp
@[simp] theorem State.rollcall_sup (s : State) (f : Frame) : (s.rollcall f).1.sup = s.sup := by
  unfold State.rollcall; (repeat' split) <;> simp
@[simp] theorem State.rollcall_store (s : State) (f : Frame) : (s.rollcall f).1.store = s.store := by
  unfold State.rollcall; (repeat' split) <;> simp
@[simp] theorem State.rollcall_pending (s : State) (f : Frame) : (s.rollcall f).1.pending = s.pending := by
  unfold State.rollcall; (repeat' split) <;> simp

/-! ### misplaced -/

@[simp] theorem State.misplaced_phase (s : State) : (s.misplaced).phase = s.phase := by
  unfold State.misplaced; split <;> simp
@[simp] theorem State.misplaced_line (s : State) : (s.misplaced).line = s.line := by
  unfold State.misplaced; split <;> simp
@[simp] theorem State.misplaced_sweep (s : State) : (s.misplaced).sweep = s.sweep := by
  unfold State.misplaced; split <;> simp
@[simp] theorem State.misplaced_plan (s : State) : (s.misplaced).plan = s.plan := by
  unfold State.misplaced; split <;> simp
@[simp] theorem State.misplaced_poss (s : State) : (s.misplaced).poss = s.poss := by
  unfold State.misplaced; split <;> simp
@[simp] theorem State.misplaced_store (s : State) : (s.misplaced).store = s.store := by
  unfold State.misplaced; split <;> simp
@[simp] theorem State.misplaced_pending (s : State) : (s.misplaced).pending = s.pending := by
  unfold State.misplaced; split <;> simp

/-! ### enumerated -/

@[simp] theorem State.enumerated_phase (s : State) (c : Nat) : (s.enumerated c).phase = s.phase := by
  unfold State.enumerated; (repeat' split) <;> simp
@[simp] theorem State.enumerated_line (s : State) (c : Nat) : (s.enumerated c).line = s.line := by
  unfold State.enumerated; (repeat' split) <;> simp
@[simp] theorem State.enumerated_sweep (s : State) (c : Nat) : (s.enumerated c).sweep = s.sweep := by
  unfold State.enumerated; (repeat' split) <;> simp
@[simp] theorem State.enumerated_plan (s : State) (c : Nat) : (s.enumerated c).plan = s.plan := by
  unfold State.enumerated; (repeat' split) <;> simp
@[simp] theorem State.enumerated_poss (s : State) (c : Nat) : (s.enumerated c).poss = s.poss := by
  unfold State.enumerated; (repeat' split) <;> simp
@[simp] theorem State.enumerated_store (s : State) (c : Nat) : (s.enumerated c).store = s.store := by
  unfold State.enumerated; (repeat' split) <;> simp
@[simp] theorem State.enumerated_pending (s : State) (c : Nat) : (s.enumerated c).pending = s.pending := by
  unfold State.enumerated; (repeat' split) <;> simp

/-! ### enumerate -/

@[simp] theorem State.enumerate_phase (s : State) (f : Frame) : (s.enumerate f).1.phase = s.phase := by
  simp [State.enumerate]
@[simp] theorem State.enumerate_line (s : State) (f : Frame) : (s.enumerate f).1.line = s.line := by
  simp [State.enumerate]
@[simp] theorem State.enumerate_sweep (s : State) (f : Frame) : (s.enumerate f).1.sweep = s.sweep := by
  simp [State.enumerate]
@[simp] theorem State.enumerate_plan (s : State) (f : Frame) : (s.enumerate f).1.plan = s.plan := by
  simp [State.enumerate]
@[simp] theorem State.enumerate_poss (s : State) (f : Frame) : (s.enumerate f).1.poss = s.poss := by
  simp [State.enumerate]
@[simp] theorem State.enumerate_store (s : State) (f : Frame) : (s.enumerate f).1.store = s.store := by
  simp [State.enumerate]
@[simp] theorem State.enumerate_pending (s : State) (f : Frame) : (s.enumerate f).1.pending = s.pending := by
  simp [State.enumerate]

/-! ### closeAll -/

@[simp] theorem State.closeAll_phase (s : State) (f : Frame) : (s.closeAll f).1.phase = s.phase := by
  simp [State.closeAll]
@[simp] theorem State.closeAll_line (s : State) (f : Frame) : (s.closeAll f).1.line = s.line := by
  simp [State.closeAll]
@[simp] theorem State.closeAll_sweep (s : State) (f : Frame) : (s.closeAll f).1.sweep = s.sweep := by
  simp [State.closeAll]
@[simp] theorem State.closeAll_plan (s : State) (f : Frame) : (s.closeAll f).1.plan = s.plan := by
  simp [State.closeAll]
@[simp] theorem State.closeAll_poss (s : State) (f : Frame) : (s.closeAll f).1.poss = s.poss := by
  simp [State.closeAll]
@[simp] theorem State.closeAll_store (s : State) (f : Frame) : (s.closeAll f).1.store = s.store := by
  simp [State.closeAll]
@[simp] theorem State.closeAll_pending (s : State) (f : Frame) : (s.closeAll f).1.pending = s.pending := by
  simp [State.closeAll]

/-! ### judgeSilent -/

@[simp] theorem State.judgeSilent_phase (s : State) (t : BitVec 8) (f : Frame) : (s.judgeSilent t f).1.phase = s.phase := by
  unfold State.judgeSilent; (repeat' split) <;> simp
@[simp] theorem State.judgeSilent_line (s : State) (t : BitVec 8) (f : Frame) : (s.judgeSilent t f).1.line = s.line := by
  unfold State.judgeSilent; (repeat' split) <;> simp
@[simp] theorem State.judgeSilent_node (s : State) (t : BitVec 8) (f : Frame) : (s.judgeSilent t f).1.node = s.node := by
  unfold State.judgeSilent; (repeat' split) <;> simp
@[simp] theorem State.judgeSilent_sweep (s : State) (t : BitVec 8) (f : Frame) : (s.judgeSilent t f).1.sweep = s.sweep := by
  unfold State.judgeSilent; (repeat' split) <;> simp
@[simp] theorem State.judgeSilent_faces (s : State) (t : BitVec 8) (f : Frame) : (s.judgeSilent t f).1.faces = s.faces := by
  unfold State.judgeSilent; (repeat' split) <;> simp
@[simp] theorem State.judgeSilent_elem (s : State) (t : BitVec 8) (f : Frame) : (s.judgeSilent t f).1.elem = s.elem := by
  unfold State.judgeSilent; (repeat' split) <;> simp
@[simp] theorem State.judgeSilent_plan (s : State) (t : BitVec 8) (f : Frame) : (s.judgeSilent t f).1.plan = s.plan := by
  unfold State.judgeSilent; (repeat' split) <;> simp
@[simp] theorem State.judgeSilent_poss (s : State) (t : BitVec 8) (f : Frame) : (s.judgeSilent t f).1.poss = s.poss := by
  unfold State.judgeSilent; (repeat' split) <;> simp
@[simp] theorem State.judgeSilent_sup (s : State) (t : BitVec 8) (f : Frame) : (s.judgeSilent t f).1.sup = s.sup := by
  unfold State.judgeSilent; (repeat' split) <;> simp
@[simp] theorem State.judgeSilent_store (s : State) (t : BitVec 8) (f : Frame) : (s.judgeSilent t f).1.store = s.store := by
  unfold State.judgeSilent; (repeat' split) <;> simp
@[simp] theorem State.judgeSilent_pending (s : State) (t : BitVec 8) (f : Frame) : (s.judgeSilent t f).1.pending = s.pending := by
  unfold State.judgeSilent; (repeat' split) <;> simp

/-! ### takeSymbol, takeSymbols, listen -/

/-- What a symbol can do: it moves the port's receiver, and it may count one FRAMING error. -/
theorem State.takeSymbol_cases {s t : State} {p : Port} {x : Symbol} (h : s.takeSymbol p x = some t) :
    t = s.setLine (s.line.setRx p ((s.line.rx p).take x).1) ∨
      t = (s.setLine (s.line.setRx p ((s.line.rx p).take x).1)).countFraming p := by
  unfold State.takeSymbol at h
  split at h <;> simp_all

/-- A property that a symbol keeps is kept by a run of symbols. -/
theorem State.takeSymbols_induct {P : State → Prop} {p : Port}
    (keep : ∀ (s t : State) (x : Symbol), P s → s.takeSymbol p x = some t → P t) :
    ∀ (xs : List Symbol) (s t : State), P s → s.takeSymbols p xs = some t → P t
  | [], s, t, hs, h => by
    cases Option.some.inj h; exact hs
  | x :: xs, s, t, hs, h => by
    unfold State.takeSymbols at h
    split at h
    · cases h
    · rename_i u hu
      exact State.takeSymbols_induct keep xs u t (keep s u x hs hu) h

/-- A property that a symbol keeps is kept by listening. -/
theorem State.listen_induct {P : State → Prop} {s : State} {p : Port}
    (keep : ∀ (s t : State) (x : Symbol), P s → s.takeSymbol p x = some t → P t) (xs : List Symbol) (hs : P s) :
    P (s.listen p xs) := by
  unfold State.listen
  split
  · exact hs
  · cases h : s.takeSymbols p xs with
    | none => exact hs
    | some t => exact State.takeSymbols_induct keep xs s t hs h

@[simp] theorem State.listen_phase (s : State) (p : Port) (xs : List Symbol) : (s.listen p xs).phase = s.phase :=
  State.listen_induct (P := fun t => t.phase = s.phase)
    (fun _ _ _ h k => by rcases State.takeSymbol_cases k with rfl | rfl <;> simpa using h) xs rfl
@[simp] theorem State.listen_node (s : State) (p : Port) (xs : List Symbol) : (s.listen p xs).node = s.node :=
  State.listen_induct (P := fun t => t.node = s.node)
    (fun _ _ _ h k => by rcases State.takeSymbol_cases k with rfl | rfl <;> simpa using h) xs rfl
@[simp] theorem State.listen_sweep (s : State) (p : Port) (xs : List Symbol) : (s.listen p xs).sweep = s.sweep :=
  State.listen_induct (P := fun t => t.sweep = s.sweep)
    (fun _ _ _ h k => by rcases State.takeSymbol_cases k with rfl | rfl <;> simpa using h) xs rfl
@[simp] theorem State.listen_faces (s : State) (p : Port) (xs : List Symbol) : (s.listen p xs).faces = s.faces :=
  State.listen_induct (P := fun t => t.faces = s.faces)
    (fun _ _ _ h k => by rcases State.takeSymbol_cases k with rfl | rfl <;> simpa using h) xs rfl
@[simp] theorem State.listen_elem (s : State) (p : Port) (xs : List Symbol) : (s.listen p xs).elem = s.elem :=
  State.listen_induct (P := fun t => t.elem = s.elem)
    (fun _ _ _ h k => by rcases State.takeSymbol_cases k with rfl | rfl <;> simpa using h) xs rfl
@[simp] theorem State.listen_plan (s : State) (p : Port) (xs : List Symbol) : (s.listen p xs).plan = s.plan :=
  State.listen_induct (P := fun t => t.plan = s.plan)
    (fun _ _ _ h k => by rcases State.takeSymbol_cases k with rfl | rfl <;> simpa using h) xs rfl
@[simp] theorem State.listen_poss (s : State) (p : Port) (xs : List Symbol) : (s.listen p xs).poss = s.poss :=
  State.listen_induct (P := fun t => t.poss = s.poss)
    (fun _ _ _ h k => by rcases State.takeSymbol_cases k with rfl | rfl <;> simpa using h) xs rfl
@[simp] theorem State.listen_sup (s : State) (p : Port) (xs : List Symbol) : (s.listen p xs).sup = s.sup :=
  State.listen_induct (P := fun t => t.sup = s.sup)
    (fun _ _ _ h k => by rcases State.takeSymbol_cases k with rfl | rfl <;> simpa using h) xs rfl
@[simp] theorem State.listen_store (s : State) (p : Port) (xs : List Symbol) : (s.listen p xs).store = s.store :=
  State.listen_induct (P := fun t => t.store = s.store)
    (fun _ _ _ h k => by rcases State.takeSymbol_cases k with rfl | rfl <;> simpa using h) xs rfl
@[simp] theorem State.listen_pending (s : State) (p : Port) (xs : List Symbol) : (s.listen p xs).pending = s.pending :=
  State.listen_induct (P := fun t => t.pending = s.pending)
    (fun _ _ _ h k => by rcases State.takeSymbol_cases k with rfl | rfl <;> simpa using h) xs rfl

@[simp] theorem State.listen_role (s : State) (p : Port) (xs : List Symbol) : (s.listen p xs).line.role = s.line.role :=
  State.listen_induct (P := fun t => t.line.role = s.line.role)
    (fun _ _ _ h k => by rcases State.takeSymbol_cases k with rfl | rfl <;> cases p <;> exact h) xs rfl
@[simp] theorem State.listen_linkA (s : State) (p : Port) (xs : List Symbol) : (s.listen p xs).line.linkA = s.line.linkA :=
  State.listen_induct (P := fun t => t.line.linkA = s.line.linkA)
    (fun _ _ _ h k => by rcases State.takeSymbol_cases k with rfl | rfl <;> cases p <;> exact h) xs rfl
@[simp] theorem State.listen_linkB (s : State) (p : Port) (xs : List Symbol) : (s.listen p xs).line.linkB = s.line.linkB :=
  State.listen_induct (P := fun t => t.line.linkB = s.line.linkB)
    (fun _ _ _ h k => by rcases State.takeSymbol_cases k with rfl | rfl <;> cases p <;> exact h) xs rfl
@[simp] theorem State.listen_outboundQueue (s : State) (p : Port) (xs : List Symbol) : (s.listen p xs).line.outboundQueue = s.line.outboundQueue :=
  State.listen_induct (P := fun t => t.line.outboundQueue = s.line.outboundQueue)
    (fun _ _ _ h k => by rcases State.takeSymbol_cases k with rfl | rfl <;> cases p <;> exact h) xs rfl
@[simp] theorem State.listen_returnQueue (s : State) (p : Port) (xs : List Symbol) : (s.listen p xs).line.returnQueue = s.line.returnQueue :=
  State.listen_induct (P := fun t => t.line.returnQueue = s.line.returnQueue)
    (fun _ _ _ h k => by rcases State.takeSymbol_cases k with rfl | rfl <;> cases p <;> exact h) xs rfl
@[simp] theorem State.listen_masks (s : State) (p : Port) (xs : List Symbol) : (s.listen p xs).fault.masks = s.fault.masks :=
  State.listen_induct (P := fun t => t.fault.masks = s.fault.masks)
    (fun _ _ _ h k => by rcases State.takeSymbol_cases k with rfl | rfl <;> cases p <;> exact h) xs rfl
@[simp] theorem State.listen_superseded (s : State) (p : Port) (xs : List Symbol) : (s.listen p xs).fault.superseded = s.fault.superseded :=
  State.listen_induct (P := fun t => t.fault.superseded = s.fault.superseded)
    (fun _ _ _ h k => by rcases State.takeSymbol_cases k with rfl | rfl <;> cases p <;> exact h) xs rfl

/-! ### portLost, portBack -/

@[simp] theorem State.portLost_phase (s : State) (p : Port) (xs : List Symbol) : (s.portLost p xs).phase = s.phase := by
  simp only [State.portLost]; split <;> simp
@[simp] theorem State.portLost_node (s : State) (p : Port) (xs : List Symbol) : (s.portLost p xs).node = s.node := by
  simp only [State.portLost]; split <;> simp
@[simp] theorem State.portLost_sweep (s : State) (p : Port) (xs : List Symbol) : (s.portLost p xs).sweep = s.sweep := by
  simp only [State.portLost]; split <;> simp
@[simp] theorem State.portLost_faces (s : State) (p : Port) (xs : List Symbol) : (s.portLost p xs).faces = s.faces := by
  simp only [State.portLost]; split <;> simp
@[simp] theorem State.portLost_elem (s : State) (p : Port) (xs : List Symbol) : (s.portLost p xs).elem = s.elem := by
  simp only [State.portLost]; split <;> simp
@[simp] theorem State.portLost_plan (s : State) (p : Port) (xs : List Symbol) : (s.portLost p xs).plan = s.plan := by
  simp only [State.portLost]; split <;> simp
@[simp] theorem State.portLost_poss (s : State) (p : Port) (xs : List Symbol) : (s.portLost p xs).poss = s.poss := by
  simp only [State.portLost]; split <;> simp
@[simp] theorem State.portLost_sup (s : State) (p : Port) (xs : List Symbol) : (s.portLost p xs).sup = s.sup := by
  simp only [State.portLost]; split <;> simp
@[simp] theorem State.portLost_store (s : State) (p : Port) (xs : List Symbol) : (s.portLost p xs).store = s.store := by
  simp only [State.portLost]; split <;> simp
@[simp] theorem State.portLost_pending (s : State) (p : Port) (xs : List Symbol) : (s.portLost p xs).pending = s.pending := by
  simp only [State.portLost]; split <;> simp
@[simp] theorem State.portBack_phase (s : State) (p : Port) (xs : List Symbol) : (s.portBack p xs).phase = s.phase := by
  simp [State.portBack]
@[simp] theorem State.portBack_node (s : State) (p : Port) (xs : List Symbol) : (s.portBack p xs).node = s.node := by
  simp [State.portBack]
@[simp] theorem State.portBack_sweep (s : State) (p : Port) (xs : List Symbol) : (s.portBack p xs).sweep = s.sweep := by
  simp [State.portBack]
@[simp] theorem State.portBack_faces (s : State) (p : Port) (xs : List Symbol) : (s.portBack p xs).faces = s.faces := by
  simp [State.portBack]
@[simp] theorem State.portBack_elem (s : State) (p : Port) (xs : List Symbol) : (s.portBack p xs).elem = s.elem := by
  simp [State.portBack]
@[simp] theorem State.portBack_plan (s : State) (p : Port) (xs : List Symbol) : (s.portBack p xs).plan = s.plan := by
  simp [State.portBack]
@[simp] theorem State.portBack_poss (s : State) (p : Port) (xs : List Symbol) : (s.portBack p xs).poss = s.poss := by
  simp [State.portBack]
@[simp] theorem State.portBack_sup (s : State) (p : Port) (xs : List Symbol) : (s.portBack p xs).sup = s.sup := by
  simp [State.portBack]
@[simp] theorem State.portBack_store (s : State) (p : Port) (xs : List Symbol) : (s.portBack p xs).store = s.store := by
  simp [State.portBack]
@[simp] theorem State.portBack_pending (s : State) (p : Port) (xs : List Symbol) : (s.portBack p xs).pending = s.pending := by
  simp [State.portBack]

/-! ### movePlace -/

@[simp] theorem State.movePlace_phase (s : State) (x y : SiteRecord) : (s.movePlace x y).phase = s.phase := by
  unfold State.movePlace; split <;> simp
@[simp] theorem State.movePlace_line (s : State) (x y : SiteRecord) : (s.movePlace x y).line = s.line := by
  unfold State.movePlace; split <;> simp
@[simp] theorem State.movePlace_node (s : State) (x y : SiteRecord) : (s.movePlace x y).node = s.node := by
  unfold State.movePlace; split <;> simp
@[simp] theorem State.movePlace_faces (s : State) (x y : SiteRecord) : (s.movePlace x y).faces = s.faces := by
  unfold State.movePlace; split <;> simp
@[simp] theorem State.movePlace_elem (s : State) (x y : SiteRecord) : (s.movePlace x y).elem = s.elem := by
  unfold State.movePlace; split <;> simp
@[simp] theorem State.movePlace_plan (s : State) (x y : SiteRecord) : (s.movePlace x y).plan = s.plan := by
  unfold State.movePlace; split <;> simp
@[simp] theorem State.movePlace_poss (s : State) (x y : SiteRecord) : (s.movePlace x y).poss = s.poss := by
  unfold State.movePlace; split <;> simp
@[simp] theorem State.movePlace_sup (s : State) (x y : SiteRecord) : (s.movePlace x y).sup = s.sup := by
  unfold State.movePlace; split <;> simp
@[simp] theorem State.movePlace_fault (s : State) (x y : SiteRecord) : (s.movePlace x y).fault = s.fault := by
  unfold State.movePlace; split <;> simp
@[simp] theorem State.movePlace_store (s : State) (x y : SiteRecord) : (s.movePlace x y).store = s.store := by
  unfold State.movePlace; split <;> simp
@[simp] theorem State.movePlace_pending (s : State) (x y : SiteRecord) : (s.movePlace x y).pending = s.pending := by
  unfold State.movePlace; split <;> simp

/-! ### takeConfig -/

@[simp] theorem State.takeConfig_phase (s : State) (f : Face) (c : FaceConfig) : (s.takeConfig f c).phase = s.phase := by
  unfold State.takeConfig; dsimp only; (repeat' split) <;> simp
@[simp] theorem State.takeConfig_line (s : State) (f : Face) (c : FaceConfig) : (s.takeConfig f c).line = s.line := by
  unfold State.takeConfig; dsimp only; (repeat' split) <;> simp
@[simp] theorem State.takeConfig_node (s : State) (f : Face) (c : FaceConfig) : (s.takeConfig f c).node = s.node := by
  unfold State.takeConfig; dsimp only; (repeat' split) <;> simp
@[simp] theorem State.takeConfig_sweep (s : State) (f : Face) (c : FaceConfig) : (s.takeConfig f c).sweep = s.sweep := by
  unfold State.takeConfig; dsimp only; (repeat' split) <;> simp
@[simp] theorem State.takeConfig_faces (s : State) (f : Face) (c : FaceConfig) : (s.takeConfig f c).faces = s.faces := by
  unfold State.takeConfig; dsimp only; (repeat' split) <;> simp
@[simp] theorem State.takeConfig_plan (s : State) (f : Face) (c : FaceConfig) : (s.takeConfig f c).plan = s.plan := by
  unfold State.takeConfig; dsimp only; (repeat' split) <;> simp
@[simp] theorem State.takeConfig_poss (s : State) (f : Face) (c : FaceConfig) : (s.takeConfig f c).poss = s.poss := by
  unfold State.takeConfig; dsimp only; (repeat' split) <;> simp
@[simp] theorem State.takeConfig_sup (s : State) (f : Face) (c : FaceConfig) : (s.takeConfig f c).sup = s.sup := by
  unfold State.takeConfig; dsimp only; (repeat' split) <;> simp
@[simp] theorem State.takeConfig_fault (s : State) (f : Face) (c : FaceConfig) : (s.takeConfig f c).fault = s.fault := by
  unfold State.takeConfig; dsimp only; (repeat' split) <;> simp
@[simp] theorem State.takeConfig_store (s : State) (f : Face) (c : FaceConfig) : (s.takeConfig f c).store = s.store := by
  unfold State.takeConfig; dsimp only; (repeat' split) <;> simp
@[simp] theorem State.takeConfig_pending (s : State) (f : Face) (c : FaceConfig) : (s.takeConfig f c).pending = s.pending := by
  unfold State.takeConfig; dsimp only; (repeat' split) <;> simp

/-! ### clearFace -/

@[simp] theorem State.clearFace_phase (s : State) (f : Face) : (s.clearFace f).phase = s.phase := by
  unfold State.clearFace; (repeat' split) <;> simp
@[simp] theorem State.clearFace_line (s : State) (f : Face) : (s.clearFace f).line = s.line := by
  unfold State.clearFace; (repeat' split) <;> simp
@[simp] theorem State.clearFace_node (s : State) (f : Face) : (s.clearFace f).node = s.node := by
  unfold State.clearFace; (repeat' split) <;> simp
@[simp] theorem State.clearFace_sweep (s : State) (f : Face) : (s.clearFace f).sweep = s.sweep := by
  unfold State.clearFace; (repeat' split) <;> simp
@[simp] theorem State.clearFace_plan (s : State) (f : Face) : (s.clearFace f).plan = s.plan := by
  unfold State.clearFace; (repeat' split) <;> simp
@[simp] theorem State.clearFace_poss (s : State) (f : Face) : (s.clearFace f).poss = s.poss := by
  unfold State.clearFace; (repeat' split) <;> simp
@[simp] theorem State.clearFace_sup (s : State) (f : Face) : (s.clearFace f).sup = s.sup := by
  unfold State.clearFace; (repeat' split) <;> simp
@[simp] theorem State.clearFace_store (s : State) (f : Face) : (s.clearFace f).store = s.store := by
  unfold State.clearFace; (repeat' split) <;> simp
@[simp] theorem State.clearFace_pending (s : State) (f : Face) : (s.clearFace f).pending = s.pending := by
  unfold State.clearFace; (repeat' split) <;> simp

/-! ### clearChannels -/

@[simp] theorem State.clearChannels_phase (s : State) (m : BitVec 12) (x : Sensed) : (s.clearChannels m x).phase = s.phase := by
  unfold State.clearChannels; (repeat' split) <;> simp
@[simp] theorem State.clearChannels_line (s : State) (m : BitVec 12) (x : Sensed) : (s.clearChannels m x).line = s.line := by
  unfold State.clearChannels; (repeat' split) <;> simp
@[simp] theorem State.clearChannels_node (s : State) (m : BitVec 12) (x : Sensed) : (s.clearChannels m x).node = s.node := by
  unfold State.clearChannels; (repeat' split) <;> simp
@[simp] theorem State.clearChannels_sweep (s : State) (m : BitVec 12) (x : Sensed) : (s.clearChannels m x).sweep = s.sweep := by
  unfold State.clearChannels; (repeat' split) <;> simp
@[simp] theorem State.clearChannels_faces (s : State) (m : BitVec 12) (x : Sensed) : (s.clearChannels m x).faces = s.faces := by
  unfold State.clearChannels; (repeat' split) <;> simp
@[simp] theorem State.clearChannels_plan (s : State) (m : BitVec 12) (x : Sensed) : (s.clearChannels m x).plan = s.plan := by
  unfold State.clearChannels; (repeat' split) <;> simp
@[simp] theorem State.clearChannels_poss (s : State) (m : BitVec 12) (x : Sensed) : (s.clearChannels m x).poss = s.poss := by
  unfold State.clearChannels; (repeat' split) <;> simp
@[simp] theorem State.clearChannels_sup (s : State) (m : BitVec 12) (x : Sensed) : (s.clearChannels m x).sup = s.sup := by
  unfold State.clearChannels; (repeat' split) <;> simp
@[simp] theorem State.clearChannels_fault (s : State) (m : BitVec 12) (x : Sensed) : (s.clearChannels m x).fault = s.fault := by
  unfold State.clearChannels; (repeat' split) <;> simp
@[simp] theorem State.clearChannels_store (s : State) (m : BitVec 12) (x : Sensed) : (s.clearChannels m x).store = s.store := by
  unfold State.clearChannels; (repeat' split) <;> simp
@[simp] theorem State.clearChannels_pending (s : State) (m : BitVec 12) (x : Sensed) : (s.clearChannels m x).pending = s.pending := by
  unfold State.clearChannels; (repeat' split) <;> simp

/-! ### clearNamedFace -/

@[simp] theorem State.clearNamedFace_phase (s : State) (f : Face) (m : BitVec 12) : (s.clearNamedFace f m).phase = s.phase := by
  unfold State.clearNamedFace; split <;> simp
@[simp] theorem State.clearNamedFace_line (s : State) (f : Face) (m : BitVec 12) : (s.clearNamedFace f m).line = s.line := by
  unfold State.clearNamedFace; split <;> simp
@[simp] theorem State.clearNamedFace_node (s : State) (f : Face) (m : BitVec 12) : (s.clearNamedFace f m).node = s.node := by
  unfold State.clearNamedFace; split <;> simp
@[simp] theorem State.clearNamedFace_sweep (s : State) (f : Face) (m : BitVec 12) : (s.clearNamedFace f m).sweep = s.sweep := by
  unfold State.clearNamedFace; split <;> simp
@[simp] theorem State.clearNamedFace_plan (s : State) (f : Face) (m : BitVec 12) : (s.clearNamedFace f m).plan = s.plan := by
  unfold State.clearNamedFace; split <;> simp
@[simp] theorem State.clearNamedFace_poss (s : State) (f : Face) (m : BitVec 12) : (s.clearNamedFace f m).poss = s.poss := by
  unfold State.clearNamedFace; split <;> simp
@[simp] theorem State.clearNamedFace_sup (s : State) (f : Face) (m : BitVec 12) : (s.clearNamedFace f m).sup = s.sup := by
  unfold State.clearNamedFace; split <;> simp
@[simp] theorem State.clearNamedFace_store (s : State) (f : Face) (m : BitVec 12) : (s.clearNamedFace f m).store = s.store := by
  unfold State.clearNamedFace; split <;> simp
@[simp] theorem State.clearNamedFace_pending (s : State) (f : Face) (m : BitVec 12) : (s.clearNamedFace f m).pending = s.pending := by
  unfold State.clearNamedFace; split <;> simp

/-! ### clearLatches -/

@[simp] theorem State.clearLatches_phase (s : State) (m : BitVec 12) : (s.clearLatches m).phase = s.phase := rfl
@[simp] theorem State.clearLatches_line (s : State) (m : BitVec 12) : (s.clearLatches m).line = s.line := rfl
@[simp] theorem State.clearLatches_node (s : State) (m : BitVec 12) : (s.clearLatches m).node = s.node := rfl
@[simp] theorem State.clearLatches_sweep (s : State) (m : BitVec 12) : (s.clearLatches m).sweep = s.sweep := rfl
@[simp] theorem State.clearLatches_faces (s : State) (m : BitVec 12) : (s.clearLatches m).faces = s.faces := rfl
@[simp] theorem State.clearLatches_elem (s : State) (m : BitVec 12) : (s.clearLatches m).elem = s.elem := rfl
@[simp] theorem State.clearLatches_plan (s : State) (m : BitVec 12) : (s.clearLatches m).plan = s.plan := rfl
@[simp] theorem State.clearLatches_poss (s : State) (m : BitVec 12) : (s.clearLatches m).poss = s.poss := rfl
@[simp] theorem State.clearLatches_sup (s : State) (m : BitVec 12) : (s.clearLatches m).sup = s.sup := rfl
@[simp] theorem State.clearLatches_store (s : State) (m : BitVec 12) : (s.clearLatches m).store = s.store := rfl
@[simp] theorem State.clearLatches_pending (s : State) (m : BitVec 12) : (s.clearLatches m).pending = s.pending := rfl

/-! ### relatch -/

@[simp] theorem State.relatch_phase (s : State) (m : BitVec 12) (a b : FaceLatch) (c : FaultClass) : (s.relatch m a b c).phase = s.phase := by
  simp [State.relatch]
@[simp] theorem State.relatch_line (s : State) (m : BitVec 12) (a b : FaceLatch) (c : FaultClass) : (s.relatch m a b c).line = s.line := by
  simp [State.relatch]
@[simp] theorem State.relatch_node (s : State) (m : BitVec 12) (a b : FaceLatch) (c : FaultClass) : (s.relatch m a b c).node = s.node := by
  simp [State.relatch]
@[simp] theorem State.relatch_sweep (s : State) (m : BitVec 12) (a b : FaceLatch) (c : FaultClass) : (s.relatch m a b c).sweep = s.sweep := by
  simp [State.relatch]
@[simp] theorem State.relatch_faces (s : State) (m : BitVec 12) (a b : FaceLatch) (c : FaultClass) : (s.relatch m a b c).faces = s.faces := by
  simp [State.relatch]
@[simp] theorem State.relatch_elem (s : State) (m : BitVec 12) (a b : FaceLatch) (c : FaultClass) : (s.relatch m a b c).elem = s.elem := by
  simp [State.relatch]
@[simp] theorem State.relatch_plan (s : State) (m : BitVec 12) (a b : FaceLatch) (c : FaultClass) : (s.relatch m a b c).plan = s.plan := by
  simp [State.relatch]
@[simp] theorem State.relatch_poss (s : State) (m : BitVec 12) (a b : FaceLatch) (c : FaultClass) : (s.relatch m a b c).poss = s.poss := by
  simp [State.relatch]
@[simp] theorem State.relatch_sup (s : State) (m : BitVec 12) (a b : FaceLatch) (c : FaultClass) : (s.relatch m a b c).sup = s.sup := by
  simp [State.relatch]
@[simp] theorem State.relatch_store (s : State) (m : BitVec 12) (a b : FaceLatch) (c : FaultClass) : (s.relatch m a b c).store = s.store := by
  simp [State.relatch]
@[simp] theorem State.relatch_pending (s : State) (m : BitVec 12) (a b : FaceLatch) (c : FaultClass) : (s.relatch m a b c).pending = s.pending := by
  simp [State.relatch]

/-! ### relatchAll -/

@[simp] theorem State.relatchAll_phase (s : State) (m : BitVec 12) (a b : FaceLatch) : (s.relatchAll m a b).phase = s.phase := by
  simp [State.relatchAll]
@[simp] theorem State.relatchAll_line (s : State) (m : BitVec 12) (a b : FaceLatch) : (s.relatchAll m a b).line = s.line := by
  simp [State.relatchAll]
@[simp] theorem State.relatchAll_node (s : State) (m : BitVec 12) (a b : FaceLatch) : (s.relatchAll m a b).node = s.node := by
  simp [State.relatchAll]
@[simp] theorem State.relatchAll_sweep (s : State) (m : BitVec 12) (a b : FaceLatch) : (s.relatchAll m a b).sweep = s.sweep := by
  simp [State.relatchAll]
@[simp] theorem State.relatchAll_faces (s : State) (m : BitVec 12) (a b : FaceLatch) : (s.relatchAll m a b).faces = s.faces := by
  simp [State.relatchAll]
@[simp] theorem State.relatchAll_elem (s : State) (m : BitVec 12) (a b : FaceLatch) : (s.relatchAll m a b).elem = s.elem := by
  simp [State.relatchAll]
@[simp] theorem State.relatchAll_plan (s : State) (m : BitVec 12) (a b : FaceLatch) : (s.relatchAll m a b).plan = s.plan := by
  simp [State.relatchAll]
@[simp] theorem State.relatchAll_poss (s : State) (m : BitVec 12) (a b : FaceLatch) : (s.relatchAll m a b).poss = s.poss := by
  simp [State.relatchAll]
@[simp] theorem State.relatchAll_sup (s : State) (m : BitVec 12) (a b : FaceLatch) : (s.relatchAll m a b).sup = s.sup := by
  simp [State.relatchAll]
@[simp] theorem State.relatchAll_store (s : State) (m : BitVec 12) (a b : FaceLatch) : (s.relatchAll m a b).store = s.store := by
  simp [State.relatchAll]
@[simp] theorem State.relatchAll_pending (s : State) (m : BitVec 12) (a b : FaceLatch) : (s.relatchAll m a b).pending = s.pending := by
  simp [State.relatchAll]

/-! ### clearFaults -/

@[simp] theorem State.clearFaults_phase (s : State) (m : BitVec 12) (x : Sensed) : (s.clearFaults m x).phase = s.phase := by
  simp [State.clearFaults]
@[simp] theorem State.clearFaults_line (s : State) (m : BitVec 12) (x : Sensed) : (s.clearFaults m x).line = s.line := by
  simp [State.clearFaults]
@[simp] theorem State.clearFaults_sweep (s : State) (m : BitVec 12) (x : Sensed) : (s.clearFaults m x).sweep = s.sweep := by
  simp [State.clearFaults]
@[simp] theorem State.clearFaults_plan (s : State) (m : BitVec 12) (x : Sensed) : (s.clearFaults m x).plan = s.plan := by
  simp [State.clearFaults]
@[simp] theorem State.clearFaults_poss (s : State) (m : BitVec 12) (x : Sensed) : (s.clearFaults m x).poss = s.poss := by
  simp [State.clearFaults]
@[simp] theorem State.clearFaults_store (s : State) (m : BitVec 12) (x : Sensed) : (s.clearFaults m x).store = s.store := by
  simp [State.clearFaults]
@[simp] theorem State.clearFaults_pending (s : State) (m : BitVec 12) (x : Sensed) : (s.clearFaults m x).pending = s.pending := by
  simp [State.clearFaults]

/-! ### storeBegin -/

@[simp] theorem State.storeBegin_phase (s : State) : (s.storeBegin).phase = s.phase := by
  unfold State.storeBegin; split <;> simp
@[simp] theorem State.storeBegin_line (s : State) : (s.storeBegin).line = s.line := by
  unfold State.storeBegin; split <;> simp
@[simp] theorem State.storeBegin_node (s : State) : (s.storeBegin).node = s.node := by
  unfold State.storeBegin; split <;> simp
@[simp] theorem State.storeBegin_sweep (s : State) : (s.storeBegin).sweep = s.sweep := by
  unfold State.storeBegin; split <;> simp
@[simp] theorem State.storeBegin_faces (s : State) : (s.storeBegin).faces = s.faces := by
  unfold State.storeBegin; split <;> simp
@[simp] theorem State.storeBegin_elem (s : State) : (s.storeBegin).elem = s.elem := by
  unfold State.storeBegin; split <;> simp
@[simp] theorem State.storeBegin_plan (s : State) : (s.storeBegin).plan = s.plan := by
  unfold State.storeBegin; split <;> simp
@[simp] theorem State.storeBegin_poss (s : State) : (s.storeBegin).poss = s.poss := by
  unfold State.storeBegin; split <;> simp
@[simp] theorem State.storeBegin_sup (s : State) : (s.storeBegin).sup = s.sup := by
  unfold State.storeBegin; split <;> simp
@[simp] theorem State.storeBegin_fault (s : State) : (s.storeBegin).fault = s.fault := by
  unfold State.storeBegin; split <;> simp
@[simp] theorem State.storeBegin_pending (s : State) : (s.storeBegin).pending = s.pending := by
  unfold State.storeBegin; split <;> simp

/-! ### enterService -/

@[simp] theorem State.enterService_phase (s : State) : (s.enterService).phase = s.phase := rfl
@[simp] theorem State.enterService_line (s : State) : (s.enterService).line = s.line := rfl
@[simp] theorem State.enterService_sweep (s : State) : (s.enterService).sweep = s.sweep := rfl
@[simp] theorem State.enterService_faces (s : State) : (s.enterService).faces = s.faces := rfl
@[simp] theorem State.enterService_elem (s : State) : (s.enterService).elem = s.elem := rfl
@[simp] theorem State.enterService_plan (s : State) : (s.enterService).plan = s.plan := rfl
@[simp] theorem State.enterService_poss (s : State) : (s.enterService).poss = s.poss := rfl
@[simp] theorem State.enterService_fault (s : State) : (s.enterService).fault = s.fault := rfl
@[simp] theorem State.enterService_store (s : State) : (s.enterService).store = s.store := rfl
@[simp] theorem State.enterService_pending (s : State) : (s.enterService).pending = s.pending := rfl

/-! ### endFace -/

@[simp] theorem State.endFace_phase (s : State) (f : Face) : (s.endFace f).phase = s.phase := by
  unfold State.endFace; (repeat' split) <;> simp
@[simp] theorem State.endFace_line (s : State) (f : Face) : (s.endFace f).line = s.line := by
  unfold State.endFace; (repeat' split) <;> simp
@[simp] theorem State.endFace_node (s : State) (f : Face) : (s.endFace f).node = s.node := by
  unfold State.endFace; (repeat' split) <;> simp
@[simp] theorem State.endFace_sweep (s : State) (f : Face) : (s.endFace f).sweep = s.sweep := by
  unfold State.endFace; (repeat' split) <;> simp
@[simp] theorem State.endFace_plan (s : State) (f : Face) : (s.endFace f).plan = s.plan := by
  unfold State.endFace; (repeat' split) <;> simp
@[simp] theorem State.endFace_poss (s : State) (f : Face) : (s.endFace f).poss = s.poss := by
  unfold State.endFace; (repeat' split) <;> simp
@[simp] theorem State.endFace_sup (s : State) (f : Face) : (s.endFace f).sup = s.sup := by
  unfold State.endFace; (repeat' split) <;> simp
@[simp] theorem State.endFace_store (s : State) (f : Face) : (s.endFace f).store = s.store := by
  unfold State.endFace; (repeat' split) <;> simp
@[simp] theorem State.endFace_pending (s : State) (f : Face) : (s.endFace f).pending = s.pending := by
  unfold State.endFace; (repeat' split) <;> simp

/-! ### faceSet -/

@[simp] theorem State.faceSet_phase (s : State) (f : Face) (a : Aspect) : (s.faceSet f a).1.phase = s.phase := by
  unfold State.faceSet; split <;> simp
@[simp] theorem State.faceSet_line (s : State) (f : Face) (a : Aspect) : (s.faceSet f a).1.line = s.line := by
  unfold State.faceSet; split <;> simp
@[simp] theorem State.faceSet_node (s : State) (f : Face) (a : Aspect) : (s.faceSet f a).1.node = s.node := by
  unfold State.faceSet; split <;> simp
@[simp] theorem State.faceSet_sweep (s : State) (f : Face) (a : Aspect) : (s.faceSet f a).1.sweep = s.sweep := by
  unfold State.faceSet; split <;> simp
@[simp] theorem State.faceSet_plan (s : State) (f : Face) (a : Aspect) : (s.faceSet f a).1.plan = s.plan := by
  unfold State.faceSet; split <;> simp
@[simp] theorem State.faceSet_poss (s : State) (f : Face) (a : Aspect) : (s.faceSet f a).1.poss = s.poss := by
  unfold State.faceSet; split <;> simp
@[simp] theorem State.faceSet_sup (s : State) (f : Face) (a : Aspect) : (s.faceSet f a).1.sup = s.sup := by
  unfold State.faceSet; split <;> simp
@[simp] theorem State.faceSet_store (s : State) (f : Face) (a : Aspect) : (s.faceSet f a).1.store = s.store := by
  unfold State.faceSet; split <;> simp
@[simp] theorem State.faceSet_pending (s : State) (f : Face) (a : Aspect) : (s.faceSet f a).1.pending = s.pending := by
  unfold State.faceSet; split <;> simp

/-! ### testPull -/

@[simp] theorem State.testPull_phase (s : State) (c : Channel) : (s.testPull c).1.phase = s.phase := by
  unfold State.testPull; (repeat' split) <;> simp
@[simp] theorem State.testPull_line (s : State) (c : Channel) : (s.testPull c).1.line = s.line := by
  unfold State.testPull; (repeat' split) <;> simp
@[simp] theorem State.testPull_node (s : State) (c : Channel) : (s.testPull c).1.node = s.node := by
  unfold State.testPull; (repeat' split) <;> simp
@[simp] theorem State.testPull_sweep (s : State) (c : Channel) : (s.testPull c).1.sweep = s.sweep := by
  unfold State.testPull; (repeat' split) <;> simp
@[simp] theorem State.testPull_plan (s : State) (c : Channel) : (s.testPull c).1.plan = s.plan := by
  unfold State.testPull; (repeat' split) <;> simp
@[simp] theorem State.testPull_poss (s : State) (c : Channel) : (s.testPull c).1.poss = s.poss := by
  unfold State.testPull; (repeat' split) <;> simp
@[simp] theorem State.testPull_sup (s : State) (c : Channel) : (s.testPull c).1.sup = s.sup := by
  unfold State.testPull; (repeat' split) <;> simp
@[simp] theorem State.testPull_store (s : State) (c : Channel) : (s.testPull c).1.store = s.store := by
  unfold State.testPull; (repeat' split) <;> simp
@[simp] theorem State.testPull_pending (s : State) (c : Channel) : (s.testPull c).1.pending = s.pending := by
  unfold State.testPull; (repeat' split) <;> simp

/-! ### testRelease -/

@[simp] theorem State.testRelease_phase (s : State) (c : Channel) : (s.testRelease c).1.phase = s.phase := by
  unfold State.testRelease; split <;> simp
@[simp] theorem State.testRelease_line (s : State) (c : Channel) : (s.testRelease c).1.line = s.line := by
  unfold State.testRelease; split <;> simp
@[simp] theorem State.testRelease_node (s : State) (c : Channel) : (s.testRelease c).1.node = s.node := by
  unfold State.testRelease; split <;> simp
@[simp] theorem State.testRelease_sweep (s : State) (c : Channel) : (s.testRelease c).1.sweep = s.sweep := by
  unfold State.testRelease; split <;> simp
@[simp] theorem State.testRelease_faces (s : State) (c : Channel) : (s.testRelease c).1.faces = s.faces := by
  unfold State.testRelease; split <;> simp
@[simp] theorem State.testRelease_plan (s : State) (c : Channel) : (s.testRelease c).1.plan = s.plan := by
  unfold State.testRelease; split <;> simp
@[simp] theorem State.testRelease_poss (s : State) (c : Channel) : (s.testRelease c).1.poss = s.poss := by
  unfold State.testRelease; split <;> simp
@[simp] theorem State.testRelease_sup (s : State) (c : Channel) : (s.testRelease c).1.sup = s.sup := by
  unfold State.testRelease; split <;> simp
@[simp] theorem State.testRelease_fault (s : State) (c : Channel) : (s.testRelease c).1.fault = s.fault := by
  unfold State.testRelease; split <;> simp
@[simp] theorem State.testRelease_store (s : State) (c : Channel) : (s.testRelease c).1.store = s.store := by
  unfold State.testRelease; split <;> simp
@[simp] theorem State.testRelease_pending (s : State) (c : Channel) : (s.testRelease c).1.pending = s.pending := by
  unfold State.testRelease; split <;> simp

/-! ### elementTest -/

@[simp] theorem State.elementTest_phase (s : State) (c : Channel) (a : TestAction) : (s.elementTest c a).1.phase = s.phase := by
  unfold State.elementTest; (repeat' split) <;> simp
@[simp] theorem State.elementTest_line (s : State) (c : Channel) (a : TestAction) : (s.elementTest c a).1.line = s.line := by
  unfold State.elementTest; (repeat' split) <;> simp
@[simp] theorem State.elementTest_node (s : State) (c : Channel) (a : TestAction) : (s.elementTest c a).1.node = s.node := by
  unfold State.elementTest; (repeat' split) <;> simp
@[simp] theorem State.elementTest_sweep (s : State) (c : Channel) (a : TestAction) : (s.elementTest c a).1.sweep = s.sweep := by
  unfold State.elementTest; (repeat' split) <;> simp
@[simp] theorem State.elementTest_plan (s : State) (c : Channel) (a : TestAction) : (s.elementTest c a).1.plan = s.plan := by
  unfold State.elementTest; (repeat' split) <;> simp
@[simp] theorem State.elementTest_poss (s : State) (c : Channel) (a : TestAction) : (s.elementTest c a).1.poss = s.poss := by
  unfold State.elementTest; (repeat' split) <;> simp
@[simp] theorem State.elementTest_sup (s : State) (c : Channel) (a : TestAction) : (s.elementTest c a).1.sup = s.sup := by
  unfold State.elementTest; (repeat' split) <;> simp
@[simp] theorem State.elementTest_store (s : State) (c : Channel) (a : TestAction) : (s.elementTest c a).1.store = s.store := by
  unfold State.elementTest; (repeat' split) <;> simp
@[simp] theorem State.elementTest_pending (s : State) (c : Channel) (a : TestAction) : (s.elementTest c a).1.pending = s.pending := by
  unfold State.elementTest; (repeat' split) <;> simp

/-! ### sequenceError -/

@[simp] theorem State.sequenceError_phase (s : State) : (s.sequenceError).1.phase = s.phase := rfl
@[simp] theorem State.sequenceError_line (s : State) : (s.sequenceError).1.line = s.line := rfl
@[simp] theorem State.sequenceError_node (s : State) : (s.sequenceError).1.node = s.node := rfl
@[simp] theorem State.sequenceError_sweep (s : State) : (s.sequenceError).1.sweep = s.sweep := rfl
@[simp] theorem State.sequenceError_faces (s : State) : (s.sequenceError).1.faces = s.faces := rfl
@[simp] theorem State.sequenceError_elem (s : State) : (s.sequenceError).1.elem = s.elem := rfl
@[simp] theorem State.sequenceError_plan (s : State) : (s.sequenceError).1.plan = s.plan := rfl
@[simp] theorem State.sequenceError_sup (s : State) : (s.sequenceError).1.sup = s.sup := rfl
@[simp] theorem State.sequenceError_store (s : State) : (s.sequenceError).1.store = s.store := rfl
@[simp] theorem State.sequenceError_pending (s : State) : (s.sequenceError).1.pending = s.pending := rfl

/-! ### setSeq -/

@[simp] theorem State.setSeq_phase (s : State) (x : SeqRecord) : (s.setSeq x).phase = s.phase := rfl
@[simp] theorem State.setSeq_line (s : State) (x : SeqRecord) : (s.setSeq x).line = s.line := rfl
@[simp] theorem State.setSeq_node (s : State) (x : SeqRecord) : (s.setSeq x).node = s.node := rfl
@[simp] theorem State.setSeq_sweep (s : State) (x : SeqRecord) : (s.setSeq x).sweep = s.sweep := rfl
@[simp] theorem State.setSeq_faces (s : State) (x : SeqRecord) : (s.setSeq x).faces = s.faces := rfl
@[simp] theorem State.setSeq_elem (s : State) (x : SeqRecord) : (s.setSeq x).elem = s.elem := rfl
@[simp] theorem State.setSeq_plan (s : State) (x : SeqRecord) : (s.setSeq x).plan = s.plan := rfl
@[simp] theorem State.setSeq_sup (s : State) (x : SeqRecord) : (s.setSeq x).sup = s.sup := rfl
@[simp] theorem State.setSeq_fault (s : State) (x : SeqRecord) : (s.setSeq x).fault = s.fault := rfl
@[simp] theorem State.setSeq_store (s : State) (x : SeqRecord) : (s.setSeq x).store = s.store := rfl
@[simp] theorem State.setSeq_pending (s : State) (x : SeqRecord) : (s.setSeq x).pending = s.pending := rfl

/-! ### coverFace -/

@[simp] theorem State.coverFace_phase (s : State) (f : Face) : (s.coverFace f).phase = s.phase := by
  unfold State.coverFace; split <;> simp
@[simp] theorem State.coverFace_line (s : State) (f : Face) : (s.coverFace f).line = s.line := by
  unfold State.coverFace; split <;> simp
@[simp] theorem State.coverFace_node (s : State) (f : Face) : (s.coverFace f).node = s.node := by
  unfold State.coverFace; split <;> simp
@[simp] theorem State.coverFace_sweep (s : State) (f : Face) : (s.coverFace f).sweep = s.sweep := by
  unfold State.coverFace; split <;> simp
@[simp] theorem State.coverFace_plan (s : State) (f : Face) : (s.coverFace f).plan = s.plan := by
  unfold State.coverFace; split <;> simp
@[simp] theorem State.coverFace_poss (s : State) (f : Face) : (s.coverFace f).poss = s.poss := by
  unfold State.coverFace; split <;> simp
@[simp] theorem State.coverFace_sup (s : State) (f : Face) : (s.coverFace f).sup = s.sup := by
  unfold State.coverFace; split <;> simp
@[simp] theorem State.coverFace_store (s : State) (f : Face) : (s.coverFace f).store = s.store := by
  unfold State.coverFace; split <;> simp
@[simp] theorem State.coverFace_pending (s : State) (f : Face) : (s.coverFace f).pending = s.pending := by
  unfold State.coverFace; split <;> simp

/-! ### coverNew -/

@[simp] theorem State.coverNew_phase (s : State) (f : Face) (b : Bool) : (s.coverNew f b).phase = s.phase := by
  unfold State.coverNew; split <;> simp
@[simp] theorem State.coverNew_line (s : State) (f : Face) (b : Bool) : (s.coverNew f b).line = s.line := by
  unfold State.coverNew; split <;> simp
@[simp] theorem State.coverNew_node (s : State) (f : Face) (b : Bool) : (s.coverNew f b).node = s.node := by
  unfold State.coverNew; split <;> simp
@[simp] theorem State.coverNew_sweep (s : State) (f : Face) (b : Bool) : (s.coverNew f b).sweep = s.sweep := by
  unfold State.coverNew; split <;> simp
@[simp] theorem State.coverNew_plan (s : State) (f : Face) (b : Bool) : (s.coverNew f b).plan = s.plan := by
  unfold State.coverNew; split <;> simp
@[simp] theorem State.coverNew_poss (s : State) (f : Face) (b : Bool) : (s.coverNew f b).poss = s.poss := by
  unfold State.coverNew; split <;> simp
@[simp] theorem State.coverNew_sup (s : State) (f : Face) (b : Bool) : (s.coverNew f b).sup = s.sup := by
  unfold State.coverNew; split <;> simp
@[simp] theorem State.coverNew_store (s : State) (f : Face) (b : Bool) : (s.coverNew f b).store = s.store := by
  unfold State.coverNew; split <;> simp
@[simp] theorem State.coverNew_pending (s : State) (f : Face) (b : Bool) : (s.coverNew f b).pending = s.pending := by
  unfold State.coverNew; split <;> simp

/-! ### applyLock -/

@[simp] theorem State.applyLock_phase (s : State) (n : Nat) (fs : LockFaces) : (s.applyLock n fs).phase = s.phase := by
  simp [State.applyLock]
@[simp] theorem State.applyLock_line (s : State) (n : Nat) (fs : LockFaces) : (s.applyLock n fs).line = s.line := by
  simp [State.applyLock]
@[simp] theorem State.applyLock_sweep (s : State) (n : Nat) (fs : LockFaces) : (s.applyLock n fs).sweep = s.sweep := by
  simp [State.applyLock]
@[simp] theorem State.applyLock_plan (s : State) (n : Nat) (fs : LockFaces) : (s.applyLock n fs).plan = s.plan := by
  simp [State.applyLock]
@[simp] theorem State.applyLock_pending (s : State) (n : Nat) (fs : LockFaces) : (s.applyLock n fs).pending = s.pending := by
  simp [State.applyLock]

/-! ### liftLock -/

@[simp] theorem State.liftLock_phase (s : State) (n : Nat) : (s.liftLock n).phase = s.phase := by
  simp [State.liftLock]
@[simp] theorem State.liftLock_line (s : State) (n : Nat) : (s.liftLock n).line = s.line := by
  simp [State.liftLock]
@[simp] theorem State.liftLock_node (s : State) (n : Nat) : (s.liftLock n).node = s.node := by
  simp [State.liftLock]
@[simp] theorem State.liftLock_sweep (s : State) (n : Nat) : (s.liftLock n).sweep = s.sweep := by
  simp [State.liftLock]
@[simp] theorem State.liftLock_faces (s : State) (n : Nat) : (s.liftLock n).faces = s.faces := by
  simp [State.liftLock]
@[simp] theorem State.liftLock_elem (s : State) (n : Nat) : (s.liftLock n).elem = s.elem := by
  simp [State.liftLock]
@[simp] theorem State.liftLock_plan (s : State) (n : Nat) : (s.liftLock n).plan = s.plan := by
  simp [State.liftLock]
@[simp] theorem State.liftLock_sup (s : State) (n : Nat) : (s.liftLock n).sup = s.sup := by
  simp [State.liftLock]
@[simp] theorem State.liftLock_fault (s : State) (n : Nat) : (s.liftLock n).fault = s.fault := by
  simp [State.liftLock]
@[simp] theorem State.liftLock_pending (s : State) (n : Nat) : (s.liftLock n).pending = s.pending := by
  simp [State.liftLock]

/-! ### litStep -/

@[simp] theorem State.litStep_phase (s : State) (f : Face) : (s.litStep f).phase = s.phase := by
  unfold State.litStep; split <;> simp
@[simp] theorem State.litStep_line (s : State) (f : Face) : (s.litStep f).line = s.line := by
  unfold State.litStep; split <;> simp
@[simp] theorem State.litStep_node (s : State) (f : Face) : (s.litStep f).node = s.node := by
  unfold State.litStep; split <;> simp
@[simp] theorem State.litStep_sweep (s : State) (f : Face) : (s.litStep f).sweep = s.sweep := by
  unfold State.litStep; split <;> simp
@[simp] theorem State.litStep_plan (s : State) (f : Face) : (s.litStep f).plan = s.plan := by
  unfold State.litStep; split <;> simp
@[simp] theorem State.litStep_poss (s : State) (f : Face) : (s.litStep f).poss = s.poss := by
  unfold State.litStep; split <;> simp
@[simp] theorem State.litStep_sup (s : State) (f : Face) : (s.litStep f).sup = s.sup := by
  unfold State.litStep; split <;> simp
@[simp] theorem State.litStep_store (s : State) (f : Face) : (s.litStep f).store = s.store := by
  unfold State.litStep; split <;> simp
@[simp] theorem State.litStep_pending (s : State) (f : Face) : (s.litStep f).pending = s.pending := by
  unfold State.litStep; split <;> simp

/-! ### afterReport -/

@[simp] theorem State.afterReport_phase (s : State) (f : Face) : (s.afterReport f).phase = s.phase := by
  simp [State.afterReport]
@[simp] theorem State.afterReport_line (s : State) (f : Face) : (s.afterReport f).line = s.line := by
  simp [State.afterReport]
@[simp] theorem State.afterReport_sweep (s : State) (f : Face) : (s.afterReport f).sweep = s.sweep := by
  simp [State.afterReport]
@[simp] theorem State.afterReport_plan (s : State) (f : Face) : (s.afterReport f).plan = s.plan := by
  simp [State.afterReport]
@[simp] theorem State.afterReport_poss (s : State) (f : Face) : (s.afterReport f).poss = s.poss := by
  simp [State.afterReport]
@[simp] theorem State.afterReport_store (s : State) (f : Face) : (s.afterReport f).store = s.store := by
  simp [State.afterReport]
@[simp] theorem State.afterReport_pending (s : State) (f : Face) : (s.afterReport f).pending = s.pending := by
  simp [State.afterReport]

/-! ### loadIdentity -/

@[simp] theorem State.loadIdentity_phase (s : State) : (s.loadIdentity).phase = s.phase := by
  simp [State.loadIdentity]
@[simp] theorem State.loadIdentity_line (s : State) : (s.loadIdentity).line = s.line := by
  simp [State.loadIdentity]
@[simp] theorem State.loadIdentity_node (s : State) : (s.loadIdentity).node = s.node := by
  simp [State.loadIdentity]
@[simp] theorem State.loadIdentity_sweep (s : State) : (s.loadIdentity).sweep = s.sweep := by
  simp [State.loadIdentity]
@[simp] theorem State.loadIdentity_faces (s : State) : (s.loadIdentity).faces = s.faces := by
  simp [State.loadIdentity]
@[simp] theorem State.loadIdentity_elem (s : State) : (s.loadIdentity).elem = s.elem := by
  simp [State.loadIdentity]
@[simp] theorem State.loadIdentity_plan (s : State) : (s.loadIdentity).plan = s.plan := by
  simp [State.loadIdentity]
@[simp] theorem State.loadIdentity_poss (s : State) : (s.loadIdentity).poss = s.poss := by
  simp [State.loadIdentity]
@[simp] theorem State.loadIdentity_sup (s : State) : (s.loadIdentity).sup = s.sup := by
  simp [State.loadIdentity]
@[simp] theorem State.loadIdentity_pending (s : State) : (s.loadIdentity).pending = s.pending := by
  simp [State.loadIdentity]

/-! ### loadCalibration -/

@[simp] theorem State.loadCalibration_phase (s : State) : (s.loadCalibration).phase = s.phase := by
  simp [State.loadCalibration]
@[simp] theorem State.loadCalibration_line (s : State) : (s.loadCalibration).line = s.line := by
  simp [State.loadCalibration]
@[simp] theorem State.loadCalibration_node (s : State) : (s.loadCalibration).node = s.node := by
  simp [State.loadCalibration]
@[simp] theorem State.loadCalibration_sweep (s : State) : (s.loadCalibration).sweep = s.sweep := by
  simp [State.loadCalibration]
@[simp] theorem State.loadCalibration_faces (s : State) : (s.loadCalibration).faces = s.faces := by
  simp [State.loadCalibration]
@[simp] theorem State.loadCalibration_elem (s : State) : (s.loadCalibration).elem = s.elem := by
  simp [State.loadCalibration]
@[simp] theorem State.loadCalibration_plan (s : State) : (s.loadCalibration).plan = s.plan := by
  simp [State.loadCalibration]
@[simp] theorem State.loadCalibration_poss (s : State) : (s.loadCalibration).poss = s.poss := by
  simp [State.loadCalibration]
@[simp] theorem State.loadCalibration_sup (s : State) : (s.loadCalibration).sup = s.sup := by
  simp [State.loadCalibration]
@[simp] theorem State.loadCalibration_pending (s : State) : (s.loadCalibration).pending = s.pending := by
  simp [State.loadCalibration]

/-! ### loadSite -/

@[simp] theorem State.loadSite_phase (s : State) : (s.loadSite).phase = s.phase := by
  unfold State.loadSite; split <;> simp
@[simp] theorem State.loadSite_line (s : State) : (s.loadSite).line = s.line := by
  unfold State.loadSite; split <;> simp
@[simp] theorem State.loadSite_node (s : State) : (s.loadSite).node = s.node := by
  unfold State.loadSite; split <;> simp
@[simp] theorem State.loadSite_sweep (s : State) : (s.loadSite).sweep = s.sweep := by
  unfold State.loadSite; split <;> simp
@[simp] theorem State.loadSite_faces (s : State) : (s.loadSite).faces = s.faces := by
  unfold State.loadSite; split <;> simp
@[simp] theorem State.loadSite_elem (s : State) : (s.loadSite).elem = s.elem := by
  unfold State.loadSite; split <;> simp
@[simp] theorem State.loadSite_plan (s : State) : (s.loadSite).plan = s.plan := by
  unfold State.loadSite; split <;> simp
@[simp] theorem State.loadSite_poss (s : State) : (s.loadSite).poss = s.poss := by
  unfold State.loadSite; split <;> simp
@[simp] theorem State.loadSite_sup (s : State) : (s.loadSite).sup = s.sup := by
  unfold State.loadSite; split <;> simp
@[simp] theorem State.loadSite_pending (s : State) : (s.loadSite).pending = s.pending := by
  unfold State.loadSite; split <;> simp

/-! ### loadConfigs -/

@[simp] theorem State.loadConfigs_phase (s : State) : (s.loadConfigs).phase = s.phase := by
  unfold State.loadConfigs; split <;> simp
@[simp] theorem State.loadConfigs_line (s : State) : (s.loadConfigs).line = s.line := by
  unfold State.loadConfigs; split <;> simp
@[simp] theorem State.loadConfigs_node (s : State) : (s.loadConfigs).node = s.node := by
  unfold State.loadConfigs; split <;> simp
@[simp] theorem State.loadConfigs_sweep (s : State) : (s.loadConfigs).sweep = s.sweep := by
  unfold State.loadConfigs; split <;> simp
@[simp] theorem State.loadConfigs_faces (s : State) : (s.loadConfigs).faces = s.faces := by
  unfold State.loadConfigs; split <;> simp
@[simp] theorem State.loadConfigs_plan (s : State) : (s.loadConfigs).plan = s.plan := by
  unfold State.loadConfigs; split <;> simp
@[simp] theorem State.loadConfigs_poss (s : State) : (s.loadConfigs).poss = s.poss := by
  unfold State.loadConfigs; split <;> simp
@[simp] theorem State.loadConfigs_sup (s : State) : (s.loadConfigs).sup = s.sup := by
  unfold State.loadConfigs; split <;> simp
@[simp] theorem State.loadConfigs_pending (s : State) : (s.loadConfigs).pending = s.pending := by
  unfold State.loadConfigs; split <;> simp

/-! ### loadPlan -/

@[simp] theorem State.loadPlan_phase (s : State) : (s.loadPlan).phase = s.phase := by
  unfold State.loadPlan; split <;> simp
@[simp] theorem State.loadPlan_line (s : State) : (s.loadPlan).line = s.line := by
  unfold State.loadPlan; split <;> simp
@[simp] theorem State.loadPlan_node (s : State) : (s.loadPlan).node = s.node := by
  unfold State.loadPlan; split <;> simp
@[simp] theorem State.loadPlan_sweep (s : State) : (s.loadPlan).sweep = s.sweep := by
  unfold State.loadPlan; split <;> simp
@[simp] theorem State.loadPlan_faces (s : State) : (s.loadPlan).faces = s.faces := by
  unfold State.loadPlan; split <;> simp
@[simp] theorem State.loadPlan_elem (s : State) : (s.loadPlan).elem = s.elem := by
  unfold State.loadPlan; split <;> simp
@[simp] theorem State.loadPlan_poss (s : State) : (s.loadPlan).poss = s.poss := by
  unfold State.loadPlan; split <;> simp
@[simp] theorem State.loadPlan_sup (s : State) : (s.loadPlan).sup = s.sup := by
  unfold State.loadPlan; split <;> simp
@[simp] theorem State.loadPlan_pending (s : State) : (s.loadPlan).pending = s.pending := by
  unfold State.loadPlan; split <;> simp

/-! ### loadLocks -/

@[simp] theorem State.loadLocks_phase (s : State) : (s.loadLocks).phase = s.phase := by
  unfold State.loadLocks; split <;> simp
@[simp] theorem State.loadLocks_line (s : State) : (s.loadLocks).line = s.line := by
  unfold State.loadLocks; split <;> simp
@[simp] theorem State.loadLocks_node (s : State) : (s.loadLocks).node = s.node := by
  unfold State.loadLocks; split <;> simp
@[simp] theorem State.loadLocks_sweep (s : State) : (s.loadLocks).sweep = s.sweep := by
  unfold State.loadLocks; split <;> simp
@[simp] theorem State.loadLocks_faces (s : State) : (s.loadLocks).faces = s.faces := by
  unfold State.loadLocks; split <;> simp
@[simp] theorem State.loadLocks_elem (s : State) : (s.loadLocks).elem = s.elem := by
  unfold State.loadLocks; split <;> simp
@[simp] theorem State.loadLocks_plan (s : State) : (s.loadLocks).plan = s.plan := by
  unfold State.loadLocks; split <;> simp
@[simp] theorem State.loadLocks_sup (s : State) : (s.loadLocks).sup = s.sup := by
  unfold State.loadLocks; split <;> simp
@[simp] theorem State.loadLocks_pending (s : State) : (s.loadLocks).pending = s.pending := by
  unfold State.loadLocks; split <;> simp

/-! ### loadAll -/

@[simp] theorem State.loadAll_phase (s : State) : (s.loadAll).phase = s.phase := by
  simp [State.loadAll]
@[simp] theorem State.loadAll_line (s : State) : (s.loadAll).line = s.line := by
  simp [State.loadAll]
@[simp] theorem State.loadAll_node (s : State) : (s.loadAll).node = s.node := by
  simp [State.loadAll]
@[simp] theorem State.loadAll_sweep (s : State) : (s.loadAll).sweep = s.sweep := by
  simp [State.loadAll]
@[simp] theorem State.loadAll_faces (s : State) : (s.loadAll).faces = s.faces := by
  simp [State.loadAll]
@[simp] theorem State.loadAll_sup (s : State) : (s.loadAll).sup = s.sup := by
  simp [State.loadAll]
@[simp] theorem State.loadAll_pending (s : State) : (s.loadAll).pending = s.pending := by
  simp [State.loadAll]

/-! ### siteStored -/

@[simp] theorem State.siteStored_phase (s : State) (c : StoreCopy) : (s.siteStored c).phase = s.phase := by
  unfold State.siteStored; split <;> simp
@[simp] theorem State.siteStored_line (s : State) (c : StoreCopy) : (s.siteStored c).line = s.line := by
  unfold State.siteStored; split <;> simp
@[simp] theorem State.siteStored_node (s : State) (c : StoreCopy) : (s.siteStored c).node = s.node := by
  unfold State.siteStored; split <;> simp
@[simp] theorem State.siteStored_sweep (s : State) (c : StoreCopy) : (s.siteStored c).sweep = s.sweep := by
  unfold State.siteStored; split <;> simp
@[simp] theorem State.siteStored_faces (s : State) (c : StoreCopy) : (s.siteStored c).faces = s.faces := by
  unfold State.siteStored; split <;> simp
@[simp] theorem State.siteStored_elem (s : State) (c : StoreCopy) : (s.siteStored c).elem = s.elem := by
  unfold State.siteStored; split <;> simp
@[simp] theorem State.siteStored_plan (s : State) (c : StoreCopy) : (s.siteStored c).plan = s.plan := by
  unfold State.siteStored; split <;> simp
@[simp] theorem State.siteStored_poss (s : State) (c : StoreCopy) : (s.siteStored c).poss = s.poss := by
  unfold State.siteStored; split <;> simp
@[simp] theorem State.siteStored_sup (s : State) (c : StoreCopy) : (s.siteStored c).sup = s.sup := by
  unfold State.siteStored; split <;> simp
@[simp] theorem State.siteStored_fault (s : State) (c : StoreCopy) : (s.siteStored c).fault = s.fault := by
  unfold State.siteStored; split <;> simp
@[simp] theorem State.siteStored_pending (s : State) (c : StoreCopy) : (s.siteStored c).pending = s.pending := by
  unfold State.siteStored; split <;> simp

end Sys2Proof.Machine
end

