-- ==== Sys2Proof/Laws/Passage.lean ====
section
/-! SUPPORT. What the shared operations on a frame do, said once: the queue it joins, the role that routes it, the
judgement of a command, the processing on each port. Later proofs cite these and unfold none of the operations. -/

namespace Sys2Proof.Machine

/-! ### Resets -/

@[simp] theorem State.doReset_pending (s : State) (c : ResetCause) (ph : Phase) : (s.doReset c ph).pending = s.pending := rfl
@[simp] theorem State.doReset_phase (s : State) (c : ResetCause) (ph : Phase) : (s.doReset c ph).phase = ph := rfl
@[simp] theorem State.doReset_line (s : State) (c : ResetCause) (ph : Phase) : (s.doReset c ph).line = .reset := rfl
@[simp] theorem State.doReset_node (s : State) (c : ResetCause) (ph : Phase) : (s.doReset c ph).node = .reset c := rfl
@[simp] theorem State.commandedReset_pending (s : State) : s.commandedReset.pending = s.pending := rfl
@[simp] theorem State.commandedReset_phase (s : State) : s.commandedReset.phase = .settling := rfl

/-! ### Queues -/

@[simp] theorem State.join_pending (s : State) (q p : Port) (f : Frame) : (s.join q p f).pending = s.pending := by
  unfold State.join; (repeat' split) <;> simp

/-- A frame that no reset waits for joins a queue with room, R49. -/
theorem State.join_room {s : State} {q p : Port} {f : Frame} (h : (s.line.queue q).length < queueLimit) :
    s.join q p f = s.setLine (s.line.setQueue q (s.line.queue q ++ [f.queued])) := by
  simp [State.join, Nat.not_le.mpr h]

/-- A frame that no reset waits for is dropped at a full queue, R49. -/
theorem State.join_full {s : State} {q p : Port} {f : Frame} (h : queueLimit ≤ (s.line.queue q).length)
    (hf : f.carriesReset = false) : s.join q p f = s.countOverrun p := by
  simp [State.join, h, hf]

@[simp] theorem State.wrap_pending (s : State) : s.wrap.pending = s.pending := by
  unfold State.wrap; dsimp only; split <;> simp

/-- A wrap that discards no frame a reset waits for leaves every block but the line and the latches, R53. -/
theorem State.wrap_plain {s : State} (h : s.line.outboundQueue.any QueuedFrame.carriesReset = false) :
    s.wrap = (s.setLine { s.line.rxTo .b .idle with role := .endWrapped, outboundQueue := [] }).latch .wrap := by
  simp [State.wrap, h]

@[simp] theorem State.forwardInStartUp_pending (s : State) (p : Port) (f : Frame) :
    (s.forwardInStartUp p f).pending = s.pending := by
  unfold State.forwardInStartUp; split <;> simp

@[simp] theorem State.writeRole_pending (s : State) (b c : Bool) : (s.writeRole b c).pending = s.pending := by
  unfold State.writeRole; (repeat' split) <;> simp

@[simp] theorem State.takeSite_pending (s : State) (x : SiteRecord) (b : Bool) :
    (s.takeSite x b).pending = s.pending := by simp [State.takeSite]

@[simp] theorem State.startUpEnd_pending (s : State) : s.startUpEnd.pending = s.pending := by
  unfold State.startUpEnd; dsimp only; (repeat' split) <;> simp

@[simp] theorem State.lampReported_pending (s : State) (f : Face) : (s.lampReported f).pending = s.pending := by
  unfold State.lampReported; (repeat' split) <;> simp

@[simp] theorem State.lampFails_pending (s : State) (f : Face) (c : LampChannel) (x : ChannelFault) :
    (s.lampFails f c x).pending = s.pending := by simp [State.lampFails]

@[simp] theorem State.sendA_pending (s : State) (f : Frame) : (s.sendA f).pending = s.pending := by
  unfold State.sendA; split <;> simp

@[simp] theorem State.sendReply_pending (s : State) (c : Cmd) (x : CommandPayload) (r : Reply) :
    (s.sendReply c x r).pending = s.pending := by simp [State.sendReply]

/-! ### Receipt -/

/-- What receiving a frame changes: the port's receiver and its count of good frames, R44, R57. -/
theorem State.received_line (s : State) (p : Port) :
    (s.received p).line = (s.line.rxTo p .idle).setCounters p
      { s.line.counters p with good := satInc (s.line.counters p).good } := by
  cases p <;> rfl

@[simp] theorem State.received_queue (s : State) (p q : Port) : (s.received p).line.queue q = s.line.queue q := by
  cases p <;> cases q <;> rfl

@[simp] theorem State.received_outboundQueue (s : State) (p : Port) :
    (s.received p).line.outboundQueue = s.line.outboundQueue := by cases p <;> rfl

@[simp] theorem State.received_returnQueue (s : State) (p : Port) :
    (s.received p).line.returnQueue = s.line.returnQueue := by cases p <;> rfl

@[simp] theorem State.received_role (s : State) (p : Port) : (s.received p).line.role = s.line.role := by
  cases p <;> rfl

@[simp] theorem State.received_resetWaits (s : State) (p : Port) :
    (s.received p).line.resetWaits = s.line.resetWaits := by cases p <;> rfl

theorem State.receiveA_running {s : State} {f : Frame} {out ret : State → Frame → State × Frame}
    (hp : s.phase = .running) (hf : f.fits = true) :
    s.receiveA f out ret = (s.received .a).processA f out ret := by
  simp [State.receiveA, hp, hf]

theorem State.receiveB_running {s : State} {f : Frame} {ret : State → Frame → State × Frame}
    (hp : s.phase = .running) (hf : f.fits = true) (hr : s.line.role.isEnd = false) :
    s.receiveB f ret = ((ret (s.received .b) f).1).join .a .b (ret (s.received .b) f).2 := by
  simp [State.receiveB, State.processB, State.deaf, hp, hf, hr]

/-- A frame whose outbound pass leaves the part running, and on whose return pass no block acts, leaves by the role as it
stands after the outbound pass, R52. -/
theorem State.processA_unchanged {s : State} {f : Frame} {out : State → Frame → State × Frame}
    (h : (out s f).1.phase = .running) : s.processA f out unchanged = (out s f).1.sendA (out s f).2 := by
  unfold State.processA State.sendA unchanged
  simp [h]

@[simp] theorem State.processA_pending (s : State) (f : Frame) (out ret : State → Frame → State × Frame)
    (ho : ∀ t g, (out t g).1.pending = t.pending) (hr : ∀ t g, (ret t g).1.pending = t.pending) :
    (s.processA f out ret).pending = s.pending := by
  unfold State.processA; dsimp only; (repeat' split) <;> simp [ho, hr]

@[simp] theorem State.receiveA_pending (s : State) (f : Frame) (out ret : State → Frame → State × Frame)
    (ho : ∀ t g, (out t g).1.pending = t.pending) (hr : ∀ t g, (ret t g).1.pending = t.pending) :
    (s.receiveA f out ret).pending = s.pending := by
  unfold State.receiveA; (repeat' split) <;> simp [ho, hr]

@[simp] theorem State.receiveB_pending (s : State) (f : Frame) (ret : State → Frame → State × Frame)
    (hr : ∀ t g, (ret t g).1.pending = t.pending) : (s.receiveB f ret).pending = s.pending := by
  unfold State.receiveB State.processB; (repeat' split) <;> simp [hr]

/-! ### Commands -/

@[simp] theorem commandFrame_fits (c : BitVec 8) (x : CommandPayload) : (commandFrame c x).fits = x.wf := by
  simp only [Frame.fits, Frame.length, commandFrame, CommandPayload.wf, bodyOk, minFrameWords, maxFrameWords]
  congr 1 <;> simp

@[simp] theorem payloadFrame_fits (x : Payload) (k : BitVec 4) (p : Port) : (payloadFrame x k p).fits = x.wf := by
  simp only [Frame.fits, Frame.length, payloadFrame, Payload.wf, bodyOk, minFrameWords, maxFrameWords]
  congr 1 <;> simp

@[simp] theorem State.handed_phase (s : State) (c : Cmd) : (s.handed c).phase = s.phase := by simp [State.handed]
@[simp] theorem State.handed_line (s : State) (c : Cmd) : (s.handed c).line = (s.received .a).line := by
  simp [State.handed]
@[simp] theorem State.handed_node (s : State) (c : Cmd) : (s.handed c).node = s.node := by simp [State.handed]
@[simp] theorem State.handed_sweep (s : State) (c : Cmd) : (s.handed c).sweep = s.sweep := by simp [State.handed]
@[simp] theorem State.handed_faces (s : State) (c : Cmd) : (s.handed c).faces = s.faces := by simp [State.handed]
@[simp] theorem State.handed_elem (s : State) (c : Cmd) : (s.handed c).elem = s.elem := by simp [State.handed]
@[simp] theorem State.handed_plan (s : State) (c : Cmd) : (s.handed c).plan = s.plan := by simp [State.handed]
@[simp] theorem State.handed_sup (s : State) (c : Cmd) : (s.handed c).sup = s.sup := by simp [State.handed]
@[simp] theorem State.handed_store (s : State) (c : Cmd) : (s.handed c).store = s.store := by simp [State.handed]
@[simp] theorem State.handed_pending (s : State) (c : Cmd) : (s.handed c).pending = s.pending := by
  simp [State.handed]

/-- A READ_ or possession command leaves a sequence in progress alone, R140. -/
theorem State.handed_keeps {s : State} {c : Cmd} (h : c.keepsSequence = true) : s.handed c = s.received .a := by
  simp [State.handed, State.abandonSequence, h]

theorem State.concernedBy_received (s : State) (p : Port) (t : BitVec 8) :
    (s.received p).concernedBy t = s.concernedBy t := by simp [State.concernedBy]

theorem State.verdict_executes {s : State} {c : Cmd} {x : CommandPayload} (h : s.executes c x = true) :
    (s.received .a).verdict c x.target x.body = .execute := by
  simp only [State.executes, Bool.and_eq_true, beq_iff_eq, Bool.not_eq_true'] at h
  obtain ⟨⟨⟨⟨⟨⟨_, _⟩, h1⟩, h2⟩, h3⟩, h4⟩, h5⟩ := h
  simp [State.verdict, State.concernedBy_received, h1, h2, h3, h4, h5]

/-- An executed command: its effect on the node as handed to the executing block, and the frame with the reply in the
queue it leaves by, R64-R69. -/
theorem State.command_executes {s : State} {c : Cmd} {x : CommandPayload} (h : s.executes c x = true) (hc : c ≠ .reset)
    (effect : Effect) (hp : (effect (s.handed c) (c.argsOf x.body)).1.phase = .running) :
    s.command c x effect = (effect (s.handed c) (c.argsOf x.body)).1.sendReply c x
      (effect (s.handed c) (c.argsOf x.body)).2 := by
  have hv := State.verdict_executes h
  have hrun : s.phase = .running ∧ x.wf = true := by
    simp only [State.executes, Bool.and_eq_true, beq_iff_eq] at h
    exact ⟨h.1.1.1.1.1.1, h.1.1.1.1.1.2⟩
  have hj : (s.received .a).judge c x.target effect (commandFrame (BitVec.ofNat 8 c.row.code) x) =
      ((effect (s.handed c) (c.argsOf x.body)).1,
        (commandFrame (BitVec.ofNat 8 c.row.code) x).answered c x.target
          (effect (s.handed c) (c.argsOf x.body)).1.node.address (effect (s.handed c) (c.argsOf x.body)).2) := by
    have hb : (commandFrame (BitVec.ofNat 8 c.row.code) x).body = x.body := rfl
    simp only [State.judge, hb, hv]
    simp [State.handed, Frame.answered, commandFrame, hc]
  unfold State.command
  rw [State.receiveA_running hrun.1 (by simpa using hrun.2), State.processA_unchanged (by rw [hj]; exact hp), hj]
  rfl

@[simp] theorem State.judge_pending (s : State) (c : Cmd) (t : BitVec 8) (effect : Effect) (f : Frame)
    (h : ∀ u a, (effect u a).1.pending = u.pending) : (s.judge c t effect f).1.pending = s.pending := by
  unfold State.judge; (repeat' split) <;> simp [h]

@[simp] theorem State.command_pending (s : State) (c : Cmd) (x : CommandPayload) (effect : Effect)
    (h : ∀ u a, (effect u a).1.pending = u.pending) : (s.command c x effect).pending = s.pending := by
  exact State.receiveA_pending _ _ _ _ (fun u f => State.judge_pending u c x.target effect f h) (fun _ _ => rfl)

/-! ### Steps -/

/-- A step takes the front command. -/
theorem step_cons {s : State} {c : Instr} {rest : List Instr} (h : s.pending = c :: rest) :
    step s = exec c (s.setPending rest) := by simp [step, h]

end Sys2Proof.Machine
end

