-- ==== Sys2Proof/Laws/Words.lean ====
section
/-! SUPPORT. Words built of fields: the value of one field, and the value of a field beside the fields above it. A packed
word's value is the sum of its fields' by these, read from the highest field down. -/

namespace Sys2Proof.Machine

/-- The value of a field within its word. -/
theorem fld_toNat {lo len : Nat} (v : Nat) (h : lo + len ≤ 16) : (fld v lo len).toNat = v % 2 ^ len * 2 ^ lo := by
  have hv : v % 2 ^ len < 2 ^ len := Nat.mod_lt _ (Nat.two_pow_pos len)
  have hb : v % 2 ^ len * 2 ^ lo < 2 ^ 16 := by
    calc v % 2 ^ len * 2 ^ lo < 2 ^ len * 2 ^ lo := Nat.mul_lt_mul_of_pos_right hv (Nat.two_pow_pos lo)
      _ = 2 ^ (lo + len) := by rw [← Nat.pow_add, Nat.add_comm]
      _ ≤ 2 ^ 16 := Nat.pow_le_pow_right (by decide) h
  simpa [fld] using hb

/-- The value of a flag. -/
theorem flag_toNat {i : Nat} (b : Bool) (h : i < 16) : (flag b i).toNat = b.toNat * 2 ^ i := by
  have := fld_toNat (lo := i) (len := 1) b.toNat (by omega)
  cases b <;> simpa [flag] using this

/-- A field beside fields that lie above it adds its value. -/
theorem toNat_or_fld {w : Word} {n lo len : Nat} (v : Nat) (hw : w.toNat = n) (h : lo + len ≤ 16)
    (above : 2 ^ (lo + len) ∣ n) : (w ||| fld v lo len).toNat = n + v % 2 ^ len * 2 ^ lo := by
  have hv : v % 2 ^ len < 2 ^ len := Nat.mod_lt _ (Nat.two_pow_pos len)
  have hb : v % 2 ^ len * 2 ^ lo < 2 ^ (lo + len) := by
    calc v % 2 ^ len * 2 ^ lo < 2 ^ len * 2 ^ lo := Nat.mul_lt_mul_of_pos_right hv (Nat.two_pow_pos lo)
      _ = 2 ^ (lo + len) := by rw [← Nat.pow_add, Nat.add_comm]
  obtain ⟨q, rfl⟩ := above
  rw [BitVec.toNat_or, fld_toNat v h, hw, ← Nat.two_pow_add_eq_or_of_lt hb]

/-- A flag beside fields that lie above it adds its value. -/
theorem toNat_or_flag {w : Word} {n i : Nat} (b : Bool) (hw : w.toNat = n) (h : i < 16) (above : 2 ^ (i + 1) ∣ n) :
    (w ||| flag b i).toNat = n + b.toNat * 2 ^ i := by
  have := toNat_or_fld (lo := i) (len := 1) b.toNat hw (by omega) above
  cases b <;> simpa [flag] using this

end Sys2Proof.Machine
end

