-- ==== Sys2Proof/Tests/Slice0.lean ====
section
/-! SUPPORT. Tests. First the worked examples of the spec's chapters, each on one step of a small state; then the
ill-formed terms that the checks of WellFormed refuse; then, for every statement with hypotheses, a state and operands
that meet them, at the boundary of each clause. -/

namespace Sys2Proof.Tests

open Sys2Proof Sys2Proof.Machine

/- The tests are elaborated one after another: side by side they ask for more threads than the build's memory limit
allows. -/
set_option Elab.async false

/-! ### Small states -/

/-- The step answers a next state that passes a test. -/
def gives (i : Instr) (s : State) (p : State → Bool) : Bool :=
  match exec i s with
  | .next t => p t
  | .fault _ => false
  | .refused _ => false

/-- The site record of a node of chain E-12. -/
def site (g k address : Nat) : SiteRecord :=
  { echo := Config.partCode, gantry := g, lane := k, width := 3, expected := address, endFlag := false, lane1 := 3
    lane2 := 3, lane3 := 3, tHold := 1000, tClose := 8000, stall := 50, masks := 0 }

/-- A face STEADY on an aspect that is its plan target. -/
def steady (a : Aspect) : FaceRecord :=
  { shown := a, state := .steady, env := steadyEnv a, change := none, pending := none, latch := .none, mergeLost := none
    target := ⟨a, .plan⟩, relightAwaited := false, testedWait := false }

/-- A face in a change. -/
def changing (a b : Aspect) (n : ChangeStep) : FaceRecord :=
  { steady a with state := .changing, env := changeEnv a b, change := some ⟨a, b, n⟩ }

/-- A shutter channel in a state. -/
def shut (x : ShutterState) : ShutterChannel := { ShutterChannel.reset with state := x }

/-- Channels at rest with the lamp LIT. -/
def litFace : FaceChannels := { FaceChannels.reset with lamp := { LampChannel.reset with state := .lit } }

/-- Channels with the lamp in a state. -/
def lampFace (x : LampState) : FaceChannels := { FaceChannels.reset with lamp := { LampChannel.reset with state := x } }

/-- The silence timer of a node state. -/
def timerOf : NodeState → SilenceTimer
  | .service => .holdStage 1000
  | .held => .closeStage 8000
  | .unnumbered => .stopped
  | .numbered => .stopped
  | .standby => .stopped
  | .failsafe => .stopped
  | .maintenance => .stopped

/-- A running node of chain E-12, both faces STEADY CLOSED and lit, DIAG-L-E fitted, with the four plans of the load
example. -/
def node (x : NodeState) (g k address : Nat) : State :=
  { State.reset with
    phase := .running
    node := { NodeRecord.reset .powerOn with state := x, address := BitVec.ofNat 8 address, positionAgrees := true }
    faces := ⟨steady .closed, steady .closed⟩
    elem := ⟨litFace, litFace, { FaceConfig.default with diagLFitted := true, warning := .mergeL }, .default⟩
    plan := { PlanBlock.reset with
      active := .ofEntries [⟨10, .opened, .closed⟩, ⟨11, .closed, .closed⟩, ⟨12, .closed, .closed⟩,
        ⟨13, .closed, .opened⟩] }
    sup :=
      { recency := some 0, timer := timerOf x, loop := .restored, supply := .normal, releaseAll := x == .failsafe }
    store := { StorageBlock.factory with
      identityOk := true, trimsInUse := true, site := ⟨true, site g k address, .tidal, .allEqual⟩ } }

/-- Address 5 in SERVICE. -/
def five : State := node .service 2 2 5

/-- The payload of a command with its arguments and a result area of zeros. -/
def cmd (target : Nat) (args : List Word) (room : Nat) : CommandPayload :=
  ⟨0, BitVec.ofNat 8 target, args ++ List.replicate room 0 ++ [0]⟩

/-- The youngest frame of the outbound queue, less its CRC word. -/
def sent (t : State) : List Word := ((t.line.outboundQueue.map QueuedFrame.words).getLast?.getD []).dropLast

/-- The REPLY word of the youngest frame of the outbound queue. -/
def reply (t : State) : Word := (sent t).getLastD 0

/-- The first result word of a command of n arguments in the youngest frame of the outbound queue. -/
def result (n : Nat) (t : State) : Word := (sent t).getD (n + 2) 0

/-- A raw current of whole steps. -/
def amps (steps : Nat) : Nat := steps * 256

/-- The lane entry of two halves given as aspect code and ranks. -/
def entry (e f c w g d : Nat) : Word := BitVec.ofNat 16 (0x4000 + e * 2048 + f * 512 + c * 128 + w * 16 + g * 4 + d)

/-- Both faces proved: E OPEN, W CLOSED. -/
def eastOpen : Word := entry 1 0 0 4 2 2

/-- Both faces CLOSED. -/
def bothClosed : Word := entry 4 2 2 4 2 2

/-- A SWEEP body with the boundary vectors and summary empty. -/
def sweepBody (seq plan curGantry prevGantry : Nat) (cur prev : List Word) : List Word :=
  [BitVec.ofNat 16 seq, BitVec.ofNat 16 (plan * 256), BitVec.ofNat 16 (curGantry * 256 + prevGantry)] ++ cur ++ prev ++
    absentVector ++ [0, 0]

/-- A vector with one word in lanes 1 to 3. -/
def lanes (w : Word) : List Word := [w, w, w, 0, 0, 0, 0, 0]

/-- A SWEEP payload. -/
def sweep (body : List Word) : Payload := ⟨0, 0, body⟩

/-! ### Words of the layouts, R191, R192 -/

/-- R192's two worked lane entries. -/
theorem test_lane_entry_words :
    writeEntry ⟨⟨.opened, 0, 0⟩, ⟨.closed, 2, 2⟩⟩ = 0x484A#16 ∧ writeEntry ⟨⟨.closed, 0, 2⟩, ⟨.closed, 2, 2⟩⟩ = 0x614A#16 ∧
    readEntry 0x484A#16 = some ⟨⟨.opened, 0, 0⟩, ⟨.closed, 2, 2⟩⟩ ∧
    readEntry 0x614A#16 = some ⟨⟨.closed, 0, 2⟩, ⟨.closed, 2, 2⟩⟩ ∧ readEntry 0x084A#16 = none ∧
    readEntry 0x484B#16 = none := by decide

/-- R191's two worked header words. -/
theorem test_sweep_header_words :
    (payloadFrame (sweep (sweepBody 1 10 0 0 absentVector absentVector)) kindSweep .a).word0 = 0x1020#16 ∧
    (payloadFrame ⟨2, 0, sweepBody 1 10 0 0 absentVector absentVector⟩ kindSweep .b).word0 = 0x1920#16 := by decide

/-- The generator 1021h from FFFFh (R191), on the ASCII digits 1 to 8: A12Bh by the published CRC of these parameters. -/
theorem test_crc_of_eight_digits : crc [0x3132#16, 0x3334#16, 0x3536#16, 0x3738#16] = 0xA12B#16 := by decide +kernel

/-- R193: READ_STATUS is code 03h, POSS_LIFT 44h, and 24h is no command. -/
theorem test_command_codes :
    Cmd.ofCode 0x03#8 = some .readStatus ∧ Cmd.ofCode 0x44#8 = some .possLift ∧ Cmd.ofCode 0x24#8 = none := by decide

/-! ### Relight at start-up (chapter 2): lamp current 64, window 56 to 72 -/

theorem test_settle_end_starts_both_relights :
    gives .startUpSettleEnd State.reset (fun t =>
      t.faces.e.change == some ⟨.dark, .closed, .one⟩ && t.faces.e.env == ⟨0, 2⟩ && t.elem.w.lamp.state == .ramping &&
        t.store.identityOk && t.store.siteImage.state == .invalid && t.latched .store) = true := by decide

/-- Both faces ramping. -/
def relighting : State :=
  { State.reset with
    phase := .relighting false false
    faces := ⟨{ changing .dark .closed .one with target := ⟨.closed, .plan⟩ },
      { changing .dark .closed .one with target := ⟨.closed, .plan⟩ }⟩
    elem := ⟨lampFace .ramping, lampFace .ramping, .default, .default⟩ }

theorem test_lit_at_63_closes_the_face :
    gives (.lit .e (amps 63)) relighting (fun t =>
      t.faces.e.steadyClosed && t.faces.e.env == ⟨2, 2⟩ && t.elem.e.lamp.state == .lit) = true := by decide

theorem test_lit_window_is_56_to_72 :
    inLampWindow 64 56 = true ∧ inLampWindow 64 72 = true ∧ inLampWindow 64 55 = false ∧ inLampWindow 64 73 = false := by
  decide

theorem test_not_lit_ends_dark_with_latch_lamp :
    gives (.notLit .w) { relighting with phase := .relighting true false } (fun t =>
      t.faces.w.steadyDark && t.faces.w.latch == .lamp && t.faces.w.env == ⟨0, 2⟩ && t.elem.w.lamp.state == .blocked &&
        t.elem.w.lamp.lastFault == .notLit && t.phase == .running && t.line.role == .through) = true := by decide

/-! ### Proof of movement (chapter 2): peak 96, threshold 4 -/

/-- Address 5 with face W in step 1 of its change to OPEN and ARROW-W PULLING. -/
def openingW : State :=
  { five with
    faces := ⟨steady .closed, changing .closed .opened .one⟩
    elem := { five.elem with w := { litFace with arrow := { shut .pulling with timer := some 120 } } } }

theorem test_moved_at_5_below_the_peak_pulls_mask :
    gives (.moved .w .arrow (amps 96) (amps 91)) openingW (fun t =>
      t.elem.w.arrow.movedSeen && t.elem.w.mask.state == .pulling && t.elem.w.mask.timer == some 120 &&
        t.faces.w.change == some ⟨.closed, .opened, .two⟩ && t.faces.w.env == ⟨0, 2⟩) = true := by decide

theorem test_4_below_the_peak_is_no_dip :
    gives (.moved .w .arrow (amps 96) (amps 92)) openingW (fun t => t == openingW) = true := by decide +kernel

/-- Step 2 with MASK-W PULLING and ARROW-W moved. -/
def openingW2 : State :=
  { openingW with
    faces := ⟨steady .closed, changing .closed .opened .two⟩
    elem := { five.elem with
      w := { litFace with arrow := { shut .pulling with movedSeen := true }, mask := shut .pulling } } }

theorem test_hit_time_end_after_moved_holds :
    gives (.hitTimeEnd .w .arrow) openingW2 (fun t =>
      t.elem.w.arrow.state == .holding && t.faces.w == openingW2.faces.w) = true := by decide

theorem test_mask_moved_completes_the_opening :
    gives (.moved .w .mask (amps 96) (amps 91)) openingW2 (fun t =>
      t.faces.w == { steady .opened with target := ⟨.closed, .plan⟩ } && t.picture .w == .arrow) = true := by decide

/-- R1's rows of two symbols and of none, and all three symbols pulled. -/
theorem test_pictures_under_a_pulled_mask :
    picture true true true false true = .twoSymbols ∧ picture true true false false false = .plainPanel ∧
    picture true true true true true = .threeSymbols ∧ picture true false true true true = .crossWithSymbol ∧
    picture false true true true true = .dark := by decide

theorem test_jammed_plunger_returns :
    gives (.hitTimeEnd .w .arrow) openingW (fun t =>
      t.faces.w.state == .returning && t.faces.w.env == ⟨0, 2⟩ && t.faces.w.latch == .element &&
        t.elem.w.arrow.state == .releasing && t.elem.w.arrow.lastFault == .notMoved &&
        t.elem.w.arrow.timer == some 40) = true := by decide

/-- Below the hold floor of 15 steps for a hold current of 30. -/
theorem test_hold_floor_is_half_the_hold_current :
    gives (.holdLost .w .arrow (amps 14))
        { five with elem := { five.elem with w := { litFace with arrow := shut .holding, mask := shut .holding } }
                    faces := ⟨steady .closed, steady .opened⟩ }
        (fun t => t.faces.w.state == .returning && t.elem.w.mask.state == .releasing) = true ∧
    gives (.holdLost .w .arrow (amps 15))
        { five with elem := { five.elem with w := { litFace with arrow := shut .holding, mask := shut .holding } }
                    faces := ⟨steady .closed, steady .opened⟩ }
        (fun t => t.elem.w.arrow.state == .holding) = true := by decide

/-! ### A symbol that will not drop (chapter 1) -/

/-- Face W in step 1 of its change to CLOSED: MASK-W RELEASING, ARROW-W HOLDING. -/
def closingW : State :=
  { five with
    faces := ⟨steady .closed, changing .opened .closed .one⟩
    elem := { five.elem with w := { litFace with mask := shut .releasing, arrow := shut .holding } } }

theorem test_mask_dropped_releases_the_arrow :
    gives (.dropped .w .mask 0) closingW (fun t =>
      t.elem.w.mask.state == .off && t.elem.w.arrow.state == .releasing &&
        t.faces.w.change == some ⟨.opened, .closed, .two⟩) = true := by decide

theorem test_arrow_not_dropped_ends_dark :
    gives (.notDropped .w .arrow (amps 1))
        { closingW with
          faces := ⟨steady .closed, changing .opened .closed .two⟩
          elem := { five.elem with w := { litFace with arrow := shut .releasing } } }
        (fun t =>
          t.faces.w.steadyDark && t.faces.w.latch == .element && t.elem.w.arrow.state == .blocked &&
            t.elem.w.lamp.state == .off && t.faces.e.steadyClosed) = true := by decide

/-- The face after the fault, and CLEAR_FAULTS naming ELEMENT with the current gone or still there. -/
theorem test_clear_faults_relights_on_zero_current :
    gives (.clearFaults (cmd 5 [4] 0) ⟨⟨0, 0, 0, 0, 0⟩, ⟨0, 0, 0, 0, 0⟩⟩)
        { five with
          faces := ⟨steady .closed, { steady .dark with latch := .element }⟩
          elem := { five.elem with w := { FaceChannels.reset with arrow := shut .blocked } } }
        (fun t =>
          t.faces.w.change == some ⟨.dark, .closed, .one⟩ && t.faces.w.latch == .none && t.elem.w.arrow.state == .off &&
            t.elem.w.lamp.state == .ramping && reply t == 0x0100#16) = true := by decide +kernel

theorem test_clear_faults_keeps_a_blocked_channel :
    gives (.clearFaults (cmd 5 [4] 0) ⟨⟨0, 0, 0, 0, 0⟩, ⟨0, 0, amps 1, 0, 0⟩⟩)
        { five with
          faces := ⟨steady .closed, { steady .dark with latch := .element }⟩
          elem := { five.elem with
            w := { FaceChannels.reset with arrow := { shut .blocked with lastFault := .notDropped } } } }
        (fun t =>
          t.faces.w.steadyDark && t.faces.w.latch == .element && t.elem.w.arrow.state == .blocked &&
            t.elem.w.lamp.state == .off && t.latched .element &&
            t.fault.w.arrow == ⟨2#4, .notDropped, 1⟩) = true := by decide +kernel

theorem test_clear_faults_sample_counts_for_the_running_peak :
    gives (.clearFaults (cmd 5 [4] 0) ⟨⟨0, 0, 0, 0, 0⟩, ⟨0, 0, amps 50, 0, 0⟩⟩) openingW (fun t =>
      t.elem.w.arrow.peak == some 50 && t.elem.w.arrow.measured == 50) = true := by decide +kernel

/-! ### Release-all overtakes a change (chapter 2) -/

theorem test_loop_open_returns_the_diagonal :
    gives (.loopOpen 3999)
        { node .service 1 2 2 with
          faces := ⟨{ changing .closed .mergeL .two with pending := some ⟨.opened, .plan, 3, .inChange⟩ }, steady .closed⟩
          elem := { five.elem with
            e := { litFace with mask := shut .pulling, diagL := { shut .pulling with movedSeen := true } } } }
        (fun t =>
          t.node.state == .failsafe && t.node.firstCause == some .loop && t.sup.releaseAll &&
            t.faces.e.state == .returning && t.faces.e.env == ⟨1, 2⟩ && t.faces.e.latch == .none &&
            t.faces.e.pending == none && t.elem.e.mask.state == .releasing && t.elem.e.diagL.state == .releasing &&
            t.faces.w.steadyClosed && t.fault.superseded == 0) = true := by decide

theorem test_last_drop_ends_the_return_closed :
    gives (.dropped .e .diagL 0)
        { node .failsafe 1 2 2 with
          faces := ⟨{ steady .closed with state := .returning, env := ⟨1, 2⟩ }, steady .closed⟩
          elem := { five.elem with e := { litFace with diagL := shut .releasing } } }
        (fun t => t.faces.e.steadyClosed && t.faces.e.env == ⟨2, 2⟩ && t.faces.e.latch == .none) = true := by decide

/-! ### The chain line (chapter 3) -/

theorem test_port_b_down_wraps_with_frames_in_flight :
    gives (.portDown .b [])
        { node .service 3 3 9 with
          line := { LineBlock.reset with outboundQueue := [⟨[1, 2, 3, 4], false⟩, ⟨[5, 6, 7, 8], false⟩] } }
        (fun t =>
          t.line.linkB == .down && t.line.role == .endWrapped && t.line.outboundQueue == [] && t.latched .wrap) = true := by
  decide

theorem test_port_b_up_unwraps_and_keeps_wrap :
    gives (.portUp .b [.frameStart, .word 7])
        { node .service 3 3 9 with
          line := { LineBlock.reset with linkB := .down, role := .endWrapped }
          fault := { FaultBlock.reset with latches := 2048 } }
        (fun t =>
          t.line.role == .through && t.line.linkB == .up && t.line.rxB == ⟨.discarding, []⟩ && t.latched .wrap) = true := by
  decide

/-- Four words whose CRC word is wrong, and whose length is not that of the header. -/
theorem test_crc_and_framing_are_counted_apart :
    gives (.frameCheckFailed .a [0x2004#16, 0, 0, 0]) five (fun t => t.line.countA.crc == 1 && t.line.countA.framing == 0 &&
      t.latched .line && t.line.outboundQueue == []) = true ∧
    gives (.frameCheckFailed .a [0x2005#16, 0, 0, 0]) five (fun t => t.line.countA.framing == 1 && t.line.countA.crc == 0 &&
      t.latched .line) = true := by decide +kernel

theorem test_stray_word_discards_to_the_next_mark :
    gives (.framingError .a [.word 7, .word 8]) five (fun t =>
      t.line.rxA.state == .discarding && t.line.countA.framing == 1) = true ∧
    gives (.discardingEnd .a) { five with line := { LineBlock.reset with rxA := ⟨.discarding, []⟩ } } (fun t =>
      t.line.rxA.state == .idle) = true := by decide

/-- A frame cut short by a new frame-start mark, and then by the loss of the link. -/
theorem test_a_reception_cut_short_is_a_framing_error :
    gives (.framingError .a [.frameStart, .word 7, .frameStart, .word 8]) five (fun t =>
      t.line.rxA == ⟨.receiving, [8]⟩ && t.line.countA.framing == 1 && t.latched .line) = true ∧
    gives (.portDown .a [.word 9]) { five with line := { LineBlock.reset with rxA := ⟨.receiving, [8]⟩ } } (fun t =>
      t.line.rxA == ⟨.idle, []⟩ && t.line.linkA == .down && t.line.countA.framing == 1) = true ∧
    gives (.framingError .a [.word 9]) { five with line := { LineBlock.reset with rxA := ⟨.receiving, List.replicate 127 0⟩ } }
      (fun t => t.line.rxA == ⟨.discarding, []⟩ && t.line.countA.framing == 1) = true := by decide +kernel

theorem test_a_held_part_forwards_and_loses_its_link :
    gives (.startUpForward .a 7#4 ⟨0, 0, [0]⟩) { five with phase := .held } (fun t =>
      t.line.outboundQueue.length == 1 && t.line.countA.good == 1 && t.line.countA.unknown == 1) = true ∧
    gives (.portDown .b []) { five with phase := .held } (fun t =>
      t.line.linkB == .down && t.line.role == .through) = true := by decide +kernel

theorem test_frame_sent_takes_the_oldest :
    gives (.frameSent .b)
        { five with line := { LineBlock.reset with outboundQueue := [⟨[1, 2, 3, 4], false⟩, ⟨[5, 6, 7, 8], false⟩] } }
        (fun t => t.line.outboundQueue == [⟨[5, 6, 7, 8], false⟩]) = true := by decide

/-- A third frame is dropped as OVERRUN of the port it came from. -/
theorem test_full_queue_drops_the_frame :
    gives (.forwardUnchanged .a kindCommand ⟨0, 0x0B03#16, [0]⟩)
        { five with line := { LineBlock.reset with outboundQueue := [⟨[1, 2, 3, 4], false⟩, ⟨[5, 6, 7, 8], false⟩] } }
        (fun t =>
          t.line.outboundQueue.length == 2 && t.line.countA.overrun == 1 && t.line.countA.good == 1 &&
            t.latched .line) = true := by decide +kernel

theorem test_unknown_frame_is_counted_and_forwarded :
    gives (.unknownFrame .b 6#4 ⟨0, 0, [7]⟩) five (fun t =>
      t.line.countB.unknown == 1 && t.latched .line && t.line.returnQueue.length == 1) = true := by decide +kernel

theorem test_start_up_forwards_unprocessed :
    gives (.startUpForward .a kindCloseall ⟨0, 0, [0]⟩) relighting (fun t =>
      t.node.causes.isEmpty && t.line.outboundQueue.length == 1 && t.line.countA.good == 1) = true := by decide +kernel

/-! ### Numbering chain E-12 (chapter 4) -/

/-- Position 8 with counter 7, and position 7 without a site record. -/
theorem test_enumerate_counts_past_an_unset_node :
    gives (.enumerate ⟨0, 0, [7]⟩) { node .unnumbered 3 2 8 with node := .reset .powerOn } (fun t =>
      t.node.state == .numbered && t.node.address == 7 && !t.node.positionAgrees && t.latched .position &&
        (sent t).getD 2 0 == 8) = true ∧
    gives (.enumerate ⟨0, 0, [7]⟩)
        { node .unnumbered 3 1 7 with node := .reset .powerOn, store := StorageBlock.factory }
        (fun t =>
          t.node.state == .numbered && t.node.address == 7 && !t.node.positionAgrees && !t.latched .position &&
            (sent t).getD 2 0 == 7) = true := by decide +kernel

/-- Position 7 refuses the broadcast COMMISSION as the first of the pass. -/
theorem test_commission_refusal_folds_into_the_frame :
    gives (.commission ⟨0, 0, [0, 0x0600#16]⟩)
        { node .numbered 3 1 7 with store := StorageBlock.factory }
        (fun t => (sent t).getD 2 0 == 0x0705#16 && (sent t).getD 3 0 == 0x0601#16 && t.node.state == .numbered) =
      true ∧
    gives (.commission ⟨0, 0, [0x0705#16, 0x0601#16]⟩) (node .numbered 3 2 8) (fun t =>
      (sent t).getD 2 0 == 0x0705#16 && (sent t).getD 3 0 == 0x0701#16 && t.node.state == .standby) = true := by
  decide +kernel

/-- Two nodes at one address: the second finds the REPLY word written. -/
theorem test_address_clash_sets_position :
    gives (.forwardUnchanged .a kindCommand ⟨0, 0x0710#16, List.replicate 9 0 ++ [0x0100#16]⟩) (node .numbered 3 2 7)
      (fun t => t.latched .position && (sent t).getLastD 0 == 0x0100#16) = true := by decide +kernel

theorem test_silent_command_sets_illegal :
    gives (.undefinedCommand 0x30#8 ⟨0, 0, [0, 0]⟩) (node .standby 1 1 1) (fun t =>
      t.latched .illegal && reply t == 0 && t.node.state == .standby) = true := by decide +kernel

theorem test_closeall_in_service_is_a_forced_closure :
    gives (.closeall .b ⟨0, 0, [0]⟩) five (fun t =>
      t.node.state == .failsafe && t.node.causes.closeAll && t.sup.timer == .stopped &&
        t.line.returnQueue.length == 1) = true := by decide +kernel

/-! ### A maintenance session (chapter 4) -/

/-- Address 5 in MAINTENANCE, face W STEADY DARK, ARROW-W HOLDING. -/
def tested : State :=
  { node .maintenance 2 2 5 with
    faces := ⟨steady .closed, steady .dark⟩
    elem := { five.elem with w := { FaceChannels.reset with arrow := shut .holding } } }

theorem test_maintain_enters_maintenance :
    gives (.maintain (cmd 5 [] 0)) (node .standby 2 2 5) (fun t =>
      t.node.state == .maintenance && reply t == 0x0100#16) = true := by decide +kernel

theorem test_face_set_dark_turns_the_lamp_off :
    gives (.faceSet (cmd 5 [0x0205#16] 0)) (node .maintenance 2 2 5) (fun t =>
      t.faces.w.steadyDark && t.faces.w.env == ⟨0, 2⟩ && t.elem.w.lamp.state == .off && reply t == 0x0100#16) = true := by
  decide +kernel

theorem test_face_set_open_beside_a_dark_face_is_pair :
    gives (.faceSet (cmd 5 [0x0101#16] 0)) tested (fun t =>
      reply t == 0x0312#16 && t.faces == tested.faces) = true := by decide +kernel

theorem test_element_test_pulls_channel_7 :
    gives (.elementTest (cmd 5 [0x0701#16] 0))
        { tested with elem := { five.elem with w := .reset } }
        (fun t => t.elem.w.arrow.state == .pulling && reply t == 0x0100#16) = true := by decide +kernel

theorem test_end_maintain_releases_before_the_relight :
    gives (.endMaintain (cmd 5 [] 0)) tested (fun t =>
      t.node.state == .maintenance && t.node.ending && t.elem.w.arrow.state == .releasing &&
        t.faces.w.state == .steady && t.faces.w.relightAwaited && t.faces.w.testedWait &&
        reply t == 0x0100#16) = true := by
  decide +kernel

theorem test_end_maintain_relights_on_the_drop :
    gives (.dropped .w .arrow 0)
        { tested with
          node := { tested.node with ending := true }
          faces := ⟨steady .closed, { steady .dark with relightAwaited := true }⟩
          elem := { five.elem with w := { FaceChannels.reset with arrow := shut .releasing } } }
        (fun t => t.faces.w.change == some ⟨.dark, .closed, .one⟩ && t.elem.w.lamp.state == .ramping) = true := by decide

theorem test_end_maintain_beside_a_blocked_shutter_keeps_lamp :
    gives (.endMaintain (cmd 5 [] 0))
        { tested with
          faces := ⟨steady .closed, { steady .dark with latch := .lamp }⟩
          elem := { five.elem with w := { FaceChannels.reset with arrow := shut .blocked } } }
        (fun t => t.faces.w.steadyDark && t.faces.w.latch == .lamp && t.node.state == .maintenance) = true := by
  decide +kernel

/-- A NOT_DROPPED in the wait for a relight: among the releases of R19 it leaves LAMP, after a test (R39) it sets ELEMENT. -/
theorem test_not_dropped_in_the_wait_for_a_relight :
    gives (.notDropped .w .arrow (amps 1))
        { tested with
          faces := ⟨steady .closed, { steady .dark with latch := .lamp, relightAwaited := true }⟩
          elem := { five.elem with w := { FaceChannels.reset with arrow := shut .releasing } } }
        (fun t => t.faces.w == { steady .dark with latch := .lamp }) = true ∧
    gives (.notDropped .w .arrow (amps 1))
        { tested with
          faces := ⟨steady .closed, { steady .dark with latch := .lamp, relightAwaited := true, testedWait := true }⟩
          elem := { five.elem with w := { FaceChannels.reset with arrow := shut .releasing } } }
        (fun t => t.faces.w == { steady .dark with latch := .element }) = true := by decide

theorem test_end_maintain_ends_in_standby :
    gives (.lit .w (amps 64))
        { tested with
          node := { tested.node with ending := true }
          faces := ⟨steady .closed, changing .dark .closed .one⟩
          elem := { five.elem with w := lampFace .ramping } }
        (fun t => t.node.state == .standby && !t.node.ending && t.faces.w.steadyClosed) = true := by decide

/-- In MAINTENANCE both envelopes are written (0, 2). -/
theorem test_maintenance_entry_is_wide :
    tested.ownEntry = ⟨⟨.closed, 0, 2⟩, ⟨.dark, 0, 2⟩⟩ := by decide

/-! ### The sweep (chapter 5) -/

/-- Address 5 with a sweep record. -/
def heard (expected : Pass) (q : Nat) (last : Pass) : State :=
  { five with sweep := { SweepBlock.reset with expected, seq := some (BitVec.ofNat 16 q), lastActing := some last } }

/-- An outbound pass at address 5 behind address 4. -/
def outPass (q : Nat) : Payload := sweep (sweepBody q 10 2 1 [eastOpen, 0, 0, 0, 0, 0, 0, 0] (lanes eastOpen))

/-- A return pass at address 5 behind address 6. -/
def retPass (q : Nat) : Payload := sweep (sweepBody q 10 2 3 [0, 0, eastOpen, 0, 0, 0, 0, 0] (lanes eastOpen))

/-- A malformed entry with its present bit set at the node's own lane is an order fault, and leaves as it arrived. -/
theorem test_a_malformed_entry_is_not_overwritten :
    gives (.sweep .a (sweep (sweepBody 400 10 2 1 [eastOpen, 0x4000#16, 0, 0, 0, 0, 0, 0] (lanes eastOpen)))) five (fun t =>
      t.latched .position && (sent t).drop 2 ==
        sweepBody 400 10 2 1 [eastOpen, 0x4000#16, 0, 0, 0, 0, 0, 0] (lanes eastOpen)) = true := by decide +kernel

/-- The record after a pass. -/
def record (t : State) (expected : Pass) (q : Nat) (last : Pass) : Bool :=
  t.sweep.expected == expected && t.sweep.seq == some (BitVec.ofNat 16 q) && t.sweep.lastActing == some last

theorem test_out_400_acts :
    gives (.sweep .a (outPass 400)) (heard .out 399 .ret) (fun t => record t .ret 400 .out) = true := by decide +kernel

theorem test_out_402_after_a_lost_return_is_not_in_step :
    gives (.sweep .a (outPass 402)) (heard .ret 401 .out) (fun t => record t .ret 402 .out && t.faces == five.faces) =
      true := by decide +kernel

theorem test_ret_403_leaves_the_record :
    gives (.sweep .b (retPass 403)) (heard .out 402 .ret) (fun t => record t .out 402 .ret) = true := by decide +kernel

theorem test_hold_keeps_a_pass_passive :
    gives (.sweep .a { outPass 405 with flags := 1 }) (heard .out 404 .ret) (fun t => record t .ret 405 .ret) = true := by
  decide +kernel

/-- Address 7 rolls the frame that address 6 sent; address 5 writes its own entry at lane 2. -/
theorem test_outbound_roll_and_own_entry :
    gives (.sweep .a (sweep (sweepBody 401 10 2 1 (lanes eastOpen) (lanes bothClosed)))) (node .service 3 1 7) (fun t =>
      (sent t).drop 4 ==
        [0x0302#16, bothClosed, 0, 0, 0, 0, 0, 0, 0] ++ lanes eastOpen ++ absentVector ++ [0, 0]) = true ∧
    gives (.sweep .a (outPass 401)) five (fun t =>
      (sent t).drop 4 ==
        [0x0201#16, eastOpen, bothClosed, 0, 0, 0, 0, 0, 0] ++ lanes eastOpen ++ absentVector ++ [0, 0] &&
        t.sweep.lower == ⟨some ⟨⟨.opened, 0, 0⟩, ⟨.closed, 2, 2⟩⟩, some 401#16⟩ &&
        t.sweep.downW == some ⟨.closed, 2, 2⟩) = true := by decide +kernel

/-- Sequence 520 at address 9, wrapped: own entry, seeding, roll and own entry. -/
theorem test_wrapped_end_seeds_an_empty_vector :
    gives (.sweep .a (sweep (sweepBody 520 12 3 2 [eastOpen, eastOpen, 0, 0, 0, 0, 0, 0] (lanes eastOpen))))
        { node .service 3 3 9 with line := { LineBlock.reset with linkB := .down, role := .endWrapped } }
        (fun t =>
          match t.line.returnQueue with
          | [f] =>
            f.words.take 5 == [0x1920#16, 0, 520, 0x0C09#16, 0x03FF#16] &&
              (f.words.drop 5).take 16 == [0, 0, bothClosed, 0, 0, 0, 0, 0] ++ absentVector
          | _ => false) = true := by decide +kernel

/-- A summary on its way west: address 11, then address 5 behind an equal age. -/
theorem test_summary_counts_and_keeps_the_eastern_wait :
    (({ node .service 4 2 11 with
        faces := ⟨steady .closed,
          { steady .dark with latch := .lamp, pending := some ⟨.opened, .plan, 3, .fault⟩ }⟩ } : State).fold
        ⟨0, 10, 0, 4, 255, [], [], [], 0, 0, 0, 0⟩ == ⟨0, 10, 0, 4, 255, [], [], [], 1, 1, 3, 11⟩) = true ∧
    (({ five with
        faces := ⟨{ steady .opened with pending := some ⟨.closed, .plan, 7, .upstream⟩ }, steady .closed⟩ } : State).fold
        ⟨0, 10, 0, 2, 3, [], [], [], 1, 2, 7, 8⟩ == ⟨0, 10, 0, 2, 3, [], [], [], 1, 3, 7, 8⟩) = true := by decide

/-- Without a valid site record a pass is forwarded with the record moved; a malformed one sets LINE. -/
theorem test_sweep_without_a_site_record :
    gives (.sweep .a (outPass 7)) { five with store := StorageBlock.factory, node := .reset .powerOn } (fun t =>
      t.sweep.seq == some 7#16 && t.sweep.expected == .ret && (sent t).drop 2 == (outPass 7).body) = true ∧
    gives (.sweep .a ⟨0, 0, [0, 0xFB00#16] ++ List.replicate 27 0⟩) five (fun t =>
      t.latched .line && t.sweep == five.sweep) = true := by decide +kernel

/-! ### Gating and the change wave (chapter 6) -/

/-- A node of lane 2 with face E OPEN, expecting an outbound pass. -/
def eastbound (g address : Nat) (e : FaceRecord) : State :=
  { node .service g 2 address with
    faces := ⟨e, steady .closed⟩
    elem := { (node .service g 2 address).elem with
      e := { litFace with mask := shut .holding, arrow := shut .holding } }
    plan := { PlanBlock.reset with
      active := .ofEntries
        (if address = 2 then [⟨10, .opened, .closed⟩, ⟨11, .mergeL, .closed⟩]
          else [⟨10, .opened, .closed⟩, ⟨11, .closed, .closed⟩]) }
    sweep := { SweepBlock.reset with
      expected := .out, seq := some 700, lastActing := some .ret, downE := some ⟨.opened, 0, 0⟩
      lower := ⟨some ⟨⟨.opened, 0, 0⟩, ⟨.closed, 2, 2⟩⟩, some 700⟩
      upper := ⟨some ⟨⟨.opened, 0, 0⟩, ⟨.closed, 2, 2⟩⟩, some 700⟩ } }

/-- Closing lane 2 eastbound, OUT 701: address 2 raises to MERGE-L behind the boundary at (0, 0); address 5 waits for
its upstream. -/
theorem test_out_701_raises_only_the_first_gantry :
    gives (.sweep .a (sweep (sweepBody 701 11 1 0 [eastOpen, 0, 0, 0, 0, 0, 0, 0] (lanes eastOpen))))
        (eastbound 1 2 (steady .opened))
        (fun t =>
          t.faces.e.change == some ⟨.opened, .mergeL, .one⟩ && t.faces.e.env == ⟨0, 1⟩ &&
            t.elem.e.diagL.state == .pulling && t.faces.e.pending == none) = true ∧
    gives (.sweep .a (sweep (sweepBody 701 11 2 1 [eastOpen, 0, 0, 0, 0, 0, 0, 0] (lanes eastOpen))))
        (eastbound 2 5 (steady .opened))
        (fun t =>
          t.faces.e == { steady .opened with
            target := ⟨.closed, .plan⟩, pending := some ⟨.closed, .plan, 0, .upstream⟩ }) = true := by decide +kernel

/-- OUT 702 behind address 2 at (1, 1): address 5 raises to CLOSED. -/
theorem test_out_702_raises_the_second_gantry :
    gives (.sweep .a (sweep (sweepBody 701 11 2 1 [eastOpen, 0, 0, 0, 0, 0, 0, 0] (lanes (entry 2 1 1 4 2 2)))))
        (eastbound 2 5 { steady .opened with pending := some ⟨.closed, .plan, 1, .upstream⟩ })
        (fun t =>
          t.faces.e.change == some ⟨.opened, .closed, .one⟩ && t.faces.e.env == ⟨0, 2⟩ &&
            t.elem.e.mask.state == .releasing && t.fault.superseded == 0) = true := by decide +kernel

/-- RET 701 at address 11: the age advances and is folded with the address. -/
theorem test_ret_701_advances_the_wait :
    gives (.sweep .b (sweep (sweepBody 701 11 4 255 [0, 0, eastOpen, 0, 0, 0, 0, 0] (lanes eastOpen))))
        { eastbound 4 11 { steady .opened with pending := some ⟨.closed, .plan, 0, .upstream⟩ } with
          sweep := { (eastbound 4 11 (steady .opened)).sweep with
            expected := .ret, seq := some 701, lastActing := some .out } }
        (fun t =>
          t.faces.e.pending == some ⟨.closed, .plan, 1, .upstream⟩ &&
            match t.line.returnQueue with
            | [f] => (f.words.drop 29).take 2 == [0x0001#16, 0x010B#16]
            | _ => false) = true := by decide +kernel

/-- A chain break: RET 520 at address 8 reads no downstream and takes its warning aspect. -/
theorem test_ret_520_takes_the_warning_aspect :
    gives (.sweep .b (sweep (sweepBody 520 10 3 255 [0, 0, bothClosed, 0, 0, 0, 0, 0] absentVector)))
        { eastbound 3 8 (steady .opened) with
          sweep := { (eastbound 3 8 (steady .opened)).sweep with
            expected := .ret, seq := some 520, lastActing := some .out } }
        (fun t =>
          t.sweep.downE == none && t.faces.e == { steady .opened with
            target := ⟨.mergeL, .boundary⟩, pending := some ⟨.mergeL, .boundary, 0, .upstream⟩ }) = true := by
  decide +kernel

/-- Opening lane 2 westbound, OUT 720: address 2 lowers face W; address 8 behind (2, 2) waits for DOWNSTREAM. -/
theorem test_out_720_lowers_at_the_west_exit :
    gives (.sweep .a (sweep (sweepBody 720 13 1 0 [bothClosed, 0, 0, 0, 0, 0, 0, 0] (lanes (entry 4 2 2 1 0 0)))))
        { node .service 1 2 2 with
          sweep := { SweepBlock.reset with seq := some 719, lastActing := some .ret, downE := some ⟨.closed, 2, 2⟩ } }
        (fun t =>
          t.faces.w.change == some ⟨.closed, .opened, .one⟩ && t.elem.w.arrow.state == .pulling &&
            t.faces.e.steadyClosed) = true ∧
    gives (.sweep .a (sweep (sweepBody 720 13 3 2 [bothClosed, 0, 0, 0, 0, 0, 0, 0] (lanes bothClosed))))
        { node .service 3 2 8 with
          sweep := { SweepBlock.reset with seq := some 719, lastActing := some .ret, downE := some ⟨.closed, 2, 2⟩ } }
        (fun t => t.faces.w.pending == some ⟨.opened, .plan, 0, .downstream⟩) = true := by decide +kernel

/-! ### A load with a rejected block (chapter 7) -/

/-- Address 5 with its session open for seven entries. -/
def loading : State :=
  { five with plan := { five.plan with session := ⟨.opened, some 7, 0⟩ } }

/-- Address 5 with plans 10 to 13 staged. -/
def staged : State :=
  { five with plan := { five.plan with staging := five.plan.active, session := ⟨.opened, some 7, 4⟩ } }

theorem test_load_begin_opens_a_session :
    gives (.loadBegin (cmd 5 [7] 0)) five (fun t =>
      t.plan.session == ⟨.opened, some 7, 0⟩ && t.plan.staging == ⟨[], 0xFFFF#16⟩ && reply t == 0x0100#16) = true ∧
    gives (.loadBegin (cmd 5 [49] 0)) five (fun t => reply t == 0x0301#16 && t.plan == five.plan) = true := by
  decide +kernel

theorem test_load_block_takes_four_entries :
    gives (.loadBlock (cmd 5 [4, 0x0A30#16, 0x0B90#16, 0x0C90#16, 0x0D84#16, 0, 0, 0, 0] 1)) loading (fun t =>
      t.plan.staging == five.plan.active && t.plan.session.received == 4 && result 9 t == 4 && reply t == 0x0100#16) =
      true := by decide +kernel

/-- Plan 21 as (MERGE-L, OPEN) fails ENTRY at index 2, place 6. -/
theorem test_load_block_refuses_an_entry :
    gives (.loadBlock (cmd 5 [3, 0x1450#16, 0x1544#16, 0x1690#16, 0, 0, 0, 0, 0] 1)) staged (fun t =>
      t.plan.session.state == .spoiled && t.plan.staging == staged.plan.staging && result 9 t == 0x0206#16 &&
        reply t == 0x030C#16) = true := by decide +kernel

theorem test_load_end_into_an_empty_active :
    gives (.loadEnd (cmd 5 [bankCheck [⟨11, .closed, .closed⟩]] 1))
        { node .numbered 2 2 5 with
          plan := ⟨.empty, .ofEntries [⟨11, .closed, .closed⟩], false, ⟨.opened, some 1, 1⟩⟩ }
        (fun t =>
          t.plan.active.entries == [⟨11, .closed, .closed⟩] && t.plan.staging == .empty && !t.plan.stagingValid &&
            t.plan.session == ⟨.none, none, 1⟩) = true ∧
    gives (.loadEnd (cmd 5 [0] 1)) { five with plan := { five.plan with session := ⟨.spoiled, some 7, 4⟩ } } (fun t =>
      reply t == 0x0309#16) = true := by decide +kernel

theorem test_swap_exchanges_the_banks :
    gives (.swap (cmd 5 [] 0))
        { five with plan := { five.plan with staging := .ofEntries [⟨1, .closed, .closed⟩], stagingValid := true } }
        (fun t =>
          t.plan.active.entries == [⟨1, .closed, .closed⟩] && t.plan.staging == five.plan.active &&
            t.plan.stagingValid) = true ∧
    gives (.swap (cmd 5 [] 0)) five (fun t => reply t == 0x0309#16) = true := by decide +kernel

/-! ### A possession over gantries 2 and 3 (chapter 8) -/

/-- A node of lane 2 with the range 2 to 3 recorded, both faces. -/
def ranged (g address : Nat) : State :=
  { node .service g 2 address with poss := ⟨⟨.rangeSet, some 2, some 2#8, some .both, some 3, []⟩, [], false⟩ }

theorem test_poss_from_and_to_record_the_range :
    gives (.possFrom (cmd 0 [0x0202#16, 3] 1)) five (fun t =>
      t.poss.seq == ⟨.fromSet, some 2, some 2#8, some .both, none, []⟩ && reply t == 0x0100#16) = true ∧
    gives (.possTo (cmd 0 [3] 1))
        { five with poss := ⟨⟨.fromSet, some 2, some 2#8, some .both, none, []⟩, [], false⟩ }
        (fun t => t.poss.seq == (ranged 2 5).poss.seq && reply t == 0x0100#16) = true := by decide +kernel

theorem test_poss_except_adds_a_gantry :
    gives (.possExcept (cmd 0 [3] 1)) (ranged 2 5) (fun t => t.poss.seq.exceptList == [3]) = true ∧
    gives (.possExcept (cmd 0 [3] 1)) five (fun t =>
      t.latched .sequence && reply t == 0x0001#16 && result 1 t == 0) = true ∧
    gives (.possApply (cmd 0 [3] 1)) five (fun t => reply t == 0x0001#16 && result 1 t == 0x0511#16) = true := by
  decide +kernel

theorem test_addressed_set_masks_abandons_the_sequence :
    gives (.setMasks (cmd 8 [0x0010#16] 0)) (ranged 3 8) (fun t =>
      t.poss.seq == .cleared && t.latched .sequence && t.fault.masks == 16 && t.store.site.fields.masks == 16 &&
        reply t == 0x0100#16) = true := by decide +kernel

theorem test_poss_apply_locks_both_faces :
    gives (.possApply (cmd 0 [3] 1)) (ranged 2 5) (fun t =>
      t.poss.locks == [⟨3, .both, false, true⟩] && t.poss.seq == .cleared &&
        t.store.writer == .lockWriting [⟨3, .both⟩] && t.faces.e.target == ⟨.closed, .possession⟩ &&
        t.faces.e.pending == none && reply t == 0x0100#16) = true ∧
    gives (.possApply (cmd 0 [3] 1)) (ranged 4 11) (fun t =>
      t.poss.locks == [] && t.poss.seq == .cleared && reply t == 0) = true := by decide +kernel

/-- The broadcast refusal at address 8, out of sequence. -/
theorem test_poss_apply_out_of_sequence :
    gives (.possApply ⟨0, 0, [3, 0, 0x0100#16]⟩) (node .service 3 2 8) (fun t =>
      result 1 t == 0x0811#16 && reply t == 0x0101#16 && t.latched .sequence) = true := by decide +kernel

theorem test_lock_write_makes_durable :
    gives .lockWriteDone
        { five with
          poss := ⟨.cleared, [⟨3, .both, false, true⟩], false⟩
          store := { five.store with writer := .lockWriting [⟨3, .both⟩] } }
        (fun t =>
          t.poss.locks == [⟨3, .both, true, false⟩] && t.store.writer == .idle &&
            t.store.lockImage.content == some [⟨3, .both⟩]) = true := by decide

theorem test_poss_lift_leaves_the_faces :
    gives (.possLift (cmd 0 [3] 1)) { five with poss := ⟨.cleared, [⟨3, .both, true, false⟩], false⟩ } (fun t =>
      t.poss.locks == [] && t.store.writer == .lockWriting [] && t.faces == five.faces && reply t == 0x0100#16) = true ∧
    gives (.possLift (cmd 5 [3] 0)) five (fun t => reply t == 0x0310#16) = true := by decide +kernel

/-! ### Silence, release and clearing (chapters 9, 10) -/

theorem test_t_hold_then_t_close :
    gives .tHoldExpiry five (fun t => t.node.state == .held && t.sup.timer == .closeStage 8000 &&
      t.sup.recency == some 1000) = true ∧
    gives .tCloseExpiry (node .held 4 2 11) (fun t =>
      t.node.state == .failsafe && t.node.firstCause == some .silence && t.sup.timer == .stopped) = true := by decide

/-- Address 11 in FAILSAFE with the cause SILENCE. -/
def silenced : State :=
  { node .failsafe 4 2 11 with
    node := { (node .failsafe 4 2 11).node with causes := { CauseSet.empty with silence := true }, firstCause := some .silence } }

/-- The first RELEASE finds the recency 31 s old; the second comes after a sweep. -/
theorem test_release_needs_a_recent_sweep :
    gives (.release (cmd 11 [] 0) 31000) silenced (fun t =>
      reply t == 0x0303#16 && t.node.state == .failsafe && t.node.causes.silence) = true ∧
    gives (.release (cmd 11 [] 0) 50) silenced (fun t =>
      reply t == 0x0100#16 && t.node.state == .standby && t.node.causes.isEmpty && t.node.firstCause == none &&
        !t.sup.releaseAll) = true := by decide +kernel

/-- A RELEASE in FAILSAFE abandons a possession sequence before it is executed, as every other command does. -/
theorem test_release_abandons_the_sequence :
    gives (.release (cmd 11 [] 0) 50) { silenced with poss := (ranged 4 11).poss } (fun t =>
      t.node.state == .standby && t.poss.seq == .cleared && t.latched .sequence) = true ∧
    gives (.release (cmd 11 [] 0) 31000) { silenced with poss := (ranged 4 11).poss } (fun t =>
      t.node.state == .failsafe && t.poss.seq == .cleared && t.latched .sequence) = true := by decide +kernel

theorem test_enter_service_starts_t_hold :
    gives (.enterService (cmd 11 [] 0)) (node .standby 4 2 11) (fun t =>
      t.node.state == .service && t.sup.timer == .holdStage 1000) = true := by decide +kernel

theorem test_leave_service_ends_at_once_when_closed :
    gives (.leaveService (cmd 5 [] 0)) five (fun t => t.node.state == .standby && !t.node.leaving) = true ∧
    gives (.leaveService (cmd 5 [] 0)) { five with faces := ⟨steady .opened, steady .closed⟩ } (fun t =>
      t.node.state == .service && t.node.leaving) = true := by decide +kernel

/-- WRAP is set again while the node is wrapped, LINE is not. -/
theorem test_clear_faults_sets_a_standing_condition_again :
    gives (.clearFaults (cmd 9 [0x0801#16] 0) ⟨⟨0, 0, 0, 0, 0⟩, ⟨0, 0, 0, 0, 0⟩⟩)
        { node .service 3 3 9 with
          line := { LineBlock.reset with role := .endWrapped }
          fault := { FaultBlock.reset with latches := 0x801 } }
        (fun t => t.fault.latches == 0x800 && t.alarm) = true := by decide +kernel

theorem test_stall_stands_at_its_limit :
    gives (.clearFaults (cmd 7 [0x0010#16] 0) ⟨⟨0, 0, 0, 0, 0⟩, ⟨0, 0, 0, 0, 0⟩⟩)
        { node .service 3 1 7 with
          faces := ⟨{ steady .opened with pending := some ⟨.closed, .boundary, 99, .upstream⟩ }, steady .closed⟩ }
        (fun t => t.latched .stall) = true := by decide +kernel

theorem test_supply_thresholds :
    gives (.supplyLow 20999) five (fun t => t.sup.supply == .low && t.latched .supply && t.node.state == .failsafe) =
      true ∧
    gives (.supplyNormal 21499 500) { five with sup := { five.sup with supply := .low } } (fun t =>
      t.sup.supply == .low) = true ∧
    gives (.supplyNormal 21500 500) { five with sup := { five.sup with supply := .low } } (fun t =>
      t.sup.supply == .normal) = true := by decide

theorem test_loop_restored_clears_no_cause :
    gives (.loopRestored 4000)
        { silenced with sup := { silenced.sup with loop := .opened } }
        (fun t => t.sup.loop == .restored && t.node == silenced.node) = true := by decide

/-- A lamp below its floor of 32 steps goes dark; an overcurrent is above 159 steps. -/
theorem test_lamp_open_and_overcurrent :
    gives (.lampOpen .e (amps 31)) five (fun t => t.faces.e.steadyDark && t.faces.e.latch == .lamp) = true ∧
    gives (.lampOpen .e (amps 32)) five (fun t => t.faces.e.steadyClosed) = true ∧
    gives (.lampOvercurrent .e (amps 160)) five (fun t => t.elem.e.lamp.lastFault == .overcurrent) = true ∧
    gives (.overcurrent .e .arrow (amps 160)) tested (fun t => t.faces == tested.faces) = true := by decide

theorem test_lamp_current_move_ends :
    gives (.lampCurrentMoveEnd .e)
        { five with elem := { five.elem with e := { litFace with lamp := { litFace.lamp with moveFrom := some 40 } } } }
        (fun t => t.elem.e.lamp.moveFrom == none && t.lampFloor .e == 32) = true := by decide

theorem test_overcurrent_blocks_the_shutter :
    gives (.overcurrent .w .arrow (amps 160)) openingW (fun t =>
      t.elem.w.arrow.state == .blocked && t.faces.w.steadyClosed && t.faces.w.latch == .element &&
        t.latched .element) = true := by decide

/-! ### Roll-call (chapter 10) -/

/-- The roll-call of 41 words grows to 43; one of 127 words is full. -/
theorem test_rollcall_grows_by_two_words :
    gives (.rollcall ⟨0, 0, [1, 18] ++ List.replicate 36 0⟩) (node .service 3 3 9) (fun t =>
      (sent t).length == 42 && (sent t).headD 0 == 0x202B#16 && (sent t).getD 3 0 == 19 &&
        (sent t).drop 40 == [0x0960#16, 0x8400#16]) = true ∧
    gives (.rollcall ⟨0, 0, [1, 61] ++ List.replicate 122 0⟩) (node .service 3 3 62) (fun t =>
      (sent t).length == 126 && (sent t).headD 0 == 0x20FF#16) = true := by decide +kernel

/-! ### Stored records (chapter 11) -/

theorem test_store_takes_the_images_in_turn :
    gives (.store (cmd 5 [] 0)) five (fun t =>
      t.store.siteImage.state == .writing && t.store.writer.code == 1 && reply t == 0x0100#16) = true ∧
    gives .storeImageDone { five with store := { five.store with writer := .storing five.storeCopy .site } } (fun t =>
      t.store.siteImage == ⟨.valid, some (site 2 2 5), true, true⟩ && t.store.faceImage.state == .writing) = true := by
  decide +kernel

theorem test_erase_takes_site_then_plan :
    gives (.eraseStore (cmd 5 [] 0)) (node .standby 2 2 5) (fun t =>
      t.store.siteImage.state == .erased && t.store.writer == .erasing .site) = true ∧
    gives .eraseImageDone { five with store := { five.store with writer := .erasing .site } } (fun t =>
      t.store.planImage.state == .erased && t.store.writer == .erasing .plan) = true := by decide +kernel

/-- A STORE cut by a supply dip: the plan image has no mark, and start-up finds it INVALID. -/
theorem test_dip_reset_leaves_the_image_unmarked :
    gives (.supplyDipReset 15999)
        { five with store := { five.store with
          writer := .storing five.storeCopy .plan, planImage := ⟨.writing, none, false, false⟩ } }
        (fun t =>
          t.phase == .held && t.node.resetCause == .supplyDip && t.store.writer == .idle &&
            (t.loadPlan).store.planImage.state == .invalid && (t.loadPlan).latched .store) = true ∧
    gives (.supplyDipReset 7999) five (fun t => t.node.resetCause == .powerOn) = true := by decide

theorem test_power_on_and_reset_end :
    gives .powerOn five (fun t => t.phase == .held && t.node == .reset .powerOn && t.faces == State.reset.faces) = true ∧
    gives (.resetEnd 18000) { State.reset with phase := .held } (fun t => t.phase == .settling) = true := by decide

/-- The third copy differs: MAJORITY, and all three copies take the value. -/
theorem test_lane_vote :
    laneVote 3 3 1 = ⟨.tidal, some 3, .majority⟩ ∧ laneVote 3 3 3 = ⟨.tidal, none, .allEqual⟩ ∧
    laneVote 1 2 3 = ⟨.none, none, .failed⟩ ∧ laneVote 0 0 0 = ⟨.none, none, .failed⟩ := by decide

theorem test_reset_waits_for_its_frame :
    gives (.reset (cmd 5 [] 0)) five (fun t =>
      t.phase == .running && t.line.outboundQueue.any QueuedFrame.carriesReset && reply t == 0x0100#16) = true ∧
    gives (.frameSent .b)
        { five with line := { LineBlock.reset with outboundQueue := [⟨[1, 2, 3, 4], true⟩] } }
        (fun t => t.phase == .settling && t.node == .reset .commanded) = true := by decide +kernel

/-! ### Records written and read (R26, R179, R193) -/

theorem test_write_site_replaces_the_record :
    gives (.writeSite (cmd 7 [0x2204#16, 0x0301#16, 0x0300#16, 7, 3, 1000, 8000, 50, 0] 0) false)
        { node .numbered 3 1 7 with
          store := { five.store with site := .notValid }
          node := { (node .numbered 3 1 7).node with positionAgrees := false } }
        (fun t =>
          t.store.site == ⟨true, site 3 1 7, .tidal, .allEqual⟩ && t.node.positionAgrees && reply t == 0x0100#16) =
      true ∧
    gives (.writeSite (cmd 7 [0x2205#16, 0x0301#16, 0x0300#16, 7, 3, 1000, 8000, 50, 0] 0) false)
        (node .numbered 3 1 7) (fun t => reply t == 0x0307#16) = true := by decide +kernel

/-- The defaults of R41 with DIAG-R-W fitted and lamp current 70. -/
def faceArgs (lamp : Nat) : List Word :=
  [2, 0x8001#16, 0x641E#16, 120, 0x4428#16, 0x641E#16, 120, 0x4428#16, 0x641E#16, 120, 0x4428#16, 0x641E#16, 120,
    0x4428#16, BitVec.ofNat 16 (lamp * 512 + 200)]

theorem test_write_face_moves_the_lamp_current :
    gives (.writeFace (cmd 5 (faceArgs 70) 0)) five (fun t =>
      t.elem.cfgW == { FaceConfig.default with diagRFitted := true, lampCurrent := 70 } &&
        t.elem.w.lamp.moveFrom == some 64 && reply t == 0x0100#16) = true ∧
    gives (.writeFace (cmd 5 (faceArgs 0) 0)) five (fun t => reply t == 0x0301#16 && t.elem == five.elem) = true := by
  decide +kernel

theorem test_read_identity_and_counters :
    gives (.readIdentity (cmd 5 [] 6)) five (fun t => (sent t).drop 2 == [0, 0x2204#16, 0, 0, 0, 0x800F#16, 0x0100#16]) =
      true ∧
    gives (.readCounters (cmd 5 [] 13)) five (fun t => (sent t).drop 2 == [1] ++ List.replicate 12 0 ++ [0x0100#16]) =
      true := by decide +kernel

theorem test_read_site_words :
    gives (.readSite (cmd 5 [] 10)) five (fun t =>
      (sent t).drop 2 ==
        [0x0202#16, 0x0301#16, 5, 0xFF01#16, 0x0A08#16, 50, 0, 0x2204#16, 0x0100#16, 1, 0x0100#16]) = true := by
  decide +kernel

theorem test_read_status_words :
    gives (.readStatus (cmd 5 [] 17)) five (fun t =>
      (sent t).drop 2 == [0x6500#16, 0x0500#16, 0xD500#16] ++ List.replicate 14 0 ++ [0x0100#16]) = true := by
  decide +kernel

theorem test_read_face_of_a_change :
    gives (.readFace (cmd 5 [2] 5)) openingW (fun t =>
      (sent t).drop 3 == [0x8900#16, 0xC280#16, 0x8400#16, 0, 0, 0x0100#16]) = true := by decide +kernel

theorem test_read_channel_of_a_pull :
    gives (.readChannel (cmd 5 [7] 5) (amps 91)) openingW (fun t =>
      (sent t).drop 3 == [0x2280#16, 91, 0x641E#16, 120, 0x4428#16, 0x0100#16]) = true ∧
    gives (.readChannel (cmd 5 [10] 5) 0) five (fun t => reply t == 0x0301#16) = true := by decide +kernel

theorem test_read_plan_and_locks :
    gives (.readPlan (cmd 5 [0, 3] 11)) five (fun t =>
      (sent t).drop 6 == [0, 0x0C90#16, 0x0D84#16, 0, 0, 0, 0, 0, 0, 0x0100#16] && result 2 t == 0x0400#16) = true ∧
    gives (.readLocks (cmd 5 [] 11))
        { ranged 2 5 with poss := { (ranged 2 5).poss with locks := [⟨3, .both, true, false⟩] } }
        (fun t =>
          (sent t).drop 2 == [0x2002#16, 0x0203#16, 0x02C0#16, 0, 0, 0, 0, 0x03C1#16, 0, 0, 0, 0x0100#16]) = true := by
  decide +kernel

/-! ### The queue and the table's words -/

theorem test_step_takes_the_front_command :
    (match step { five with pending := [.tHoldExpiry, .powerOn] } with
      | .next t => t.node.state == .held && t.pending == [.powerOn]
      | .fault _ => false
      | .refused _ => false) = true := by decide

theorem test_no_word_spells_a_command : decodeTableWord 16 0x1020 = none ∧ decodeTableWord 0 0 = none := by decide

/-! ### Ill-formed terms, one for each check of WellFormed -/

theorem test_wf_refuses_an_empty_body : (Instr.sweep .a ⟨0, 0, []⟩).wf = false := by decide

theorem test_wf_refuses_a_body_of_125_words : (Instr.rollcall ⟨0, 0, List.replicate 125 0⟩).wf = false := by decide +kernel

theorem test_wf_refuses_an_empty_command : (Instr.store ⟨0, 5, []⟩).wf = false := by decide

theorem test_wf_refuses_a_known_kind : (Instr.unknownFrame .a 5#4 ⟨0, 0, [0]⟩).wf = false := by decide

theorem test_wf_refuses_a_kind_acted_on :
    (Instr.forwardUnchanged .a 2#4 ⟨0, 0, [0]⟩).wf = false ∧ (Instr.forwardUnchanged .b 5#4 ⟨0, 0, [0]⟩).wf = false := by
  decide

theorem test_wf_refuses_a_sound_frame :
    (Instr.frameCheckFailed .a [0x2004#16, 0, 0, crc [0x2004#16, 0, 0]]).wf = false := by decide +kernel

theorem test_wf_refuses_128_words : (Instr.frameCheckFailed .a (List.replicate 128 0)).wf = false := by decide +kernel

theorem test_wf_refuses_an_empty_run : (Instr.framingError .a []).wf = false := by decide

theorem test_wf_refuses_a_current_on_the_wrong_side :
    (Instr.loopOpen 4000).wf = false ∧ (Instr.loopRestored 3999).wf = false := by decide

theorem test_wf_refuses_a_supply_on_the_wrong_side :
    (Instr.supplyLow 21000).wf = false ∧ (Instr.supplyNormal 20999 500).wf = false ∧
    (Instr.supplyNormal 21000 49).wf = false ∧ (Instr.supplyDipReset 16000).wf = false ∧
    (Instr.resetEnd 17999).wf = false := by decide

theorem test_wf_takes_the_boundaries :
    (Instr.loopOpen 3999).wf = true ∧ (Instr.framingError .b [.word 7]).wf = true ∧ (Instr.supplyNormal 21000 50).wf = true ∧ (Instr.resetEnd 18000).wf = true ∧
    (Instr.rollcall ⟨0, 0, List.replicate 124 0⟩).wf = true ∧ (Instr.unknownFrame .b 6#4 ⟨0, 0, [0]⟩).wf = true := by
  decide +kernel

/-! ### Witnesses: for each statement with hypotheses, states and operands that meet them, clause by clause -/

/-- Five, held in reset. -/
def held : State := { five with phase := .held }

/-- Five with frames in its outbound queue. -/
def queued (fs : List QueuedFrame) : State := { five with line := { LineBlock.reset with outboundQueue := fs } }

/-- Five in a line role with port B in a link state. -/
def roled (r : LineRole) (b : Link) : State := { five with line := { LineBlock.reset with role := r, linkB := b } }

theorem witness_any_reset_leaves_the_stated_values :
    (15999 < 16000 ∧ five.phase ≠ .held) ∧
    ((queued [⟨[1, 2, 3, 4], true⟩]).line.queue .b = [⟨[1, 2, 3, 4], true⟩] ∧
      (⟨[1, 2, 3, 4], true⟩ : QueuedFrame).carriesReset = true) ∧
    held.phase = .held ∧ 18000 ≤ 18000 ∧ 17999 < 18000 ∧ 7999 < 8000 ∧ 8000 ≤ 8000 := by decide

/-- A settling part whose four images are valid; a copy of the lane type differs, and the build has no DIAG-L-E. -/
def stored : State :=
  { State.reset with
    store := { StorageBlock.factory with
      identity := { StorageBlock.factory.identity with build := ⟨false, true, true, true⟩ }
      siteImage := .complete { site 2 2 5 with lane3 := 1 }
      faceImage := .complete ⟨{ FaceConfig.default with diagLFitted := true }, .default⟩
      planImage := .complete [⟨10, .opened, .closed⟩], lockImage := .complete [⟨3, .both⟩] } }

/-- A settling part whose identity and calibration records fail and whose four images are blank. -/
def blank : State :=
  { State.reset with
    store := { StorageBlock.factory with
      identity := { StorageBlock.factory.identity with checkOk := false }
      calibration := { StorageBlock.factory.calibration with checkOk := false }, lockImage := .blank } }

theorem witness_start_up_loads_the_records_and_relights :
    (stored.phase = .settling ∧ stored.startUpOk = true ∧ blank.phase = .settling ∧ blank.startUpOk = true) ∧
    (stored.store.siteFound = some { site 2 2 5 with lane3 := 1 } ∧ (laneVote 3 3 1).outcome ≠ .allEqual ∧
      stored.store.faceImage.sound configTest = some ⟨{ FaceConfig.default with diagLFitted := true }, .default⟩ ∧
      (StorageBlock.supported { stored.store with identityOk := true } .e
        { FaceConfig.default with diagLFitted := true }) ≠ { FaceConfig.default with diagLFitted := true } ∧
      stored.store.planImage.sound planTest = some [⟨10, .opened, .closed⟩] ∧
      stored.store.lockImage.sound lockTest = some [⟨3, .both⟩]) ∧
    (blank.store.identity.checkOk = false ∧ blank.store.calibration.checkOk = false ∧ blank.store.siteFound = none ∧
      blank.store.faceImage.sound configTest = none ∧ blank.store.planImage.sound planTest = none ∧
      blank.store.lockImage.sound lockTest = none) := by decide

theorem witness_lane_vote_takes_the_majority :
    ((3 : BitVec 2) ≠ 0 ∧ (1 : BitVec 2) ≠ 3) ∧
    (¬((1 : BitVec 2) ≠ 0 ∧ ((1 : BitVec 2) = 2 ∨ (1 : BitVec 2) = 3)) ∧ ¬((2 : BitVec 2) ≠ 0 ∧ (2 : BitVec 2) = 3)) := by
  decide

theorem witness_last_lamp_report_ends_start_up :
    (relighting.startUpOk = true ∧ (relighting.lamp .e).state = .ramping ∧ (relighting.lamp .w).state = .ramping ∧
      relighting.phase = .relighting false false) ∧
    ({ relighting with phase := .relighting true false } : State).startUpOk = true ∧
    inLampWindow (relighting.config .e).lampCurrent (relighting.measureLamp .e (amps 56)) = true ∧
    inLampWindow (relighting.config .w).lampCurrent (relighting.measureLamp .w (amps 72)) = true ∧
    159 < relighting.measureLamp .e (amps 160) ∧
    (∀ f ∈ [Face.e, .w], (relighting.face f).relighting = true ∧ (relighting.face f).pending = none) := by decide

theorem witness_queues_hold_two_frames_and_send_the_oldest :
    (payloadFrame ⟨0, 0, [0]⟩ kindCloseall .a).carriesReset = false ∧
    (five.line.queue .b).length < 2 ∧ ((queued [⟨[1, 2, 3, 4], false⟩]).line.queue .b).length < 2 ∧
    2 ≤ ((queued [⟨[1, 2, 3, 4], false⟩, ⟨[1, 2, 3, 4], false⟩]).line.queue .b).length ∧
    (queued [⟨[1, 2, 3, 4], false⟩]).line.queue .b = [⟨[1, 2, 3, 4], false⟩] ∧ five.line.queue .a = [] := by decide

theorem witness_frames_no_block_acts_on_are_forwarded :
    ((⟨0, 0x0B03#16, [0]⟩ : Payload).wf = true ∧ relighting.phase ≠ .running ∧ held.phase ≠ .running ∧
      five.phase = .running) ∧
    (five.concernedBy (BitVec.ofNat 8 (hiByte 0x0B03#16)) = false ∧ hiByte 0x0503#16 ≠ 0 ∧
      five.concernedBy (BitVec.ofNat 8 (hiByte 0x0503#16)) = true ∧ [(0x0100#16 : Word)].getLastD 0 ≠ 0) ∧
    (five.line.role = .through ∧ (0#4 = 0#4 ∨ 6 ≤ (0#4).toNat) ∧ (6#4 = 0#4 ∨ 6 ≤ (6#4).toNat) ∧
      (15#4 = 0#4 ∨ 6 ≤ (15#4).toNat)) := by decide

theorem witness_end_role_receives_nothing_on_port_b :
    five.phase = .running ∧ (roled .endConfigured .up).line.role ≠ .through ∧
    (roled .endWrapped .down).line.role ≠ .through := by decide

/-- Words whose CRC is right, with the PASS bit clear. -/
def outWords : List Word := [0x2004#16, 0, 0, crc [0x2004#16, 0, 0]]

/-- Words whose CRC is right, with the PASS bit set. -/
def retWords : List Word := [0x2804#16, 0, 0, crc [0x2804#16, 0, 0]]

theorem witness_the_first_failed_check_is_counted :
    (five.line.role = .through ∧ outWords.length ≤ 127) ∧
    ((List.replicate 3 (3 : Word)).length < 4 ∧ ((List.replicate 127 (126 : Word)).headD 0).toNat % 128 ≠ 127) ∧
    (4 ≤ outWords.length ∧ (outWords.headD 0).toNat % 128 = outWords.length ∧
      [0x2004#16, 0, 0, 0].getLastD 0 ≠ crc [0x2004#16, 0, 0]) ∧
    (outWords.getLastD 0 = crc outWords.dropLast ∧ (outWords.headD 0).getLsbD 11 = (Port.a == .b) ∧
      (outWords.headD 0).getLsbD 11 = (Port.b == .a)) ∧
    (retWords.getLastD 0 = crc retWords.dropLast ∧ (retWords.headD 0).toNat % 128 = retWords.length ∧
      (retWords.headD 0).getLsbD 11 = (Port.a == .a) ∧ (retWords.headD 0).getLsbD 11 = (Port.b == .b)) := by
  decide +kernel

/-- Five with port A's receiver in a state with words in its buffer. -/
def receiving (x : RxState) (n : Nat) : State :=
  { five with line := { LineBlock.reset with rxA := ⟨x, List.replicate n 0⟩ } }

theorem witness_framing_errors_move_the_receiver :
    (five.line.role = .through ∧ ((receiving .idle 0).line.rx .a).state = .idle ∧
      ((receiving .discarding 0).line.rx .a).state = .discarding ∧
      ((receiving .receiving 0).line.rx .a).state ≠ .discarding) ∧
    (((receiving .receiving 126).line.rx .a).buffer.length < 127 ∧
      127 ≤ ((receiving .receiving 127).line.rx .a).buffer.length ∧
      ((receiving .receiving 127).line.rx .a).state = .receiving) ∧
    (gives (.framingError .a [.codeViolation]) five (fun t => t == five) = true ∧ five.takeSymbols .a [.idleFill] = some five ∧
      (receiving .receiving 0).takeSymbols .a [.frameEnd] = none) := by decide +kernel

/-- Five with port A DOWN. -/
def deafA : State := { five with line := { LineBlock.reset with linkA := .down } }

theorem witness_the_link_of_port_b_moves_the_role :
    (five.line.link .a = .up ∧ five.line.link .b = .up ∧ five.phase = .running ∧ five.line.role = .through ∧
      ((five.listen .a [.idleFill]).line.rx .a).state ≠ .receiving ∧
      ((five.listen .a [.frameStart, .word 1]).line.rx .a).state = .receiving ∧
      ((five.listen .b [.idleFill]).line.rx .b).state ≠ .receiving ∧
      ((five.listen .b [.frameStart]).line.rx .b).state = .receiving ∧
      five.line.outboundQueue.any QueuedFrame.carriesReset = false) ∧
    ((queued [⟨[1, 2, 3, 4], true⟩]).line.outboundQueue.any QueuedFrame.carriesReset = true ∧
      (queued [⟨[1, 2, 3, 4], true⟩]).line.role = .through ∧ (queued [⟨[1, 2, 3, 4], true⟩]).line.link .b = .up) ∧
    ((roled .endConfigured .up).line.role ≠ .through ∧ (roled .endConfigured .up).line.link .b = .up ∧
      relighting.phase ≠ .running ∧ relighting.line.link .b = .up ∧
      ((relighting.listen .b [.frameStart]).line.rx .b).state = .receiving) ∧
    ((roled .endWrapped .down).line.link .b = .down ∧ (roled .endWrapped .down).line.role = .endWrapped ∧
      (roled .endConfigured .down).line.role ≠ .endWrapped ∧ (roled .endConfigured .down).line.link .b = .down ∧
      deafA.line.link .a = .down) := by decide +kernel

theorem witness_rollcall_collects_entries_in_order :
    five.phase = .running ∧ (List.replicate 122 (0x3C00#16 : Word)).length ≤ 122 ∧
    ((List.replicate 3 (0 : Word)).length ≠ 2 * (1 : Word).toNat ∧ 61 < (62 : Word).toNat) ∧
    (List.replicate 122 (0 : Word)).length = 2 * (61 : Word).toNat ∧
    (relighting.node.address = 0 ∧ five.node.address.toNat < (6 : Word).toNat % 256) ∧
    (five.node.address ≠ 0 ∧ (5 : Word).toNat % 256 ≤ five.node.address.toNat) ∧
    ((1 : Word) ≠ 0 ∧ five.node.address.toNat ≤ ([(0x0500#16 : Word), 0].getD (2 * (1 : Word).toNat - 2) 0).toNat / 256) ∧
    (([(0x0400#16 : Word), 0].getD (2 * (1 : Word).toNat - 2) 0).toNat / 256 < five.node.address.toNat ∧
      (60 : Word).toNat < 61 ∧ (61 : Word).toNat = 61) ∧
    (⟨0, 0, [1]⟩ : Payload).body.length = 1 := by decide +kernel

theorem witness_enumerate_numbers_the_node :
    (five.phase = .running ∧ (⟨0, 0, [250]⟩ : Payload).body = [(250 : Word)] ∧ (250 : Word).toNat % 256 ≤ 250 ∧
      1 ≤ (1 : Word).toNat % 256 ∧ five.store.site.valid = true ∧ five.store.site.fields.expected = 5) ∧
    ((node .unnumbered 2 2 5).node.state = .unnumbered ∧ (node .standby 2 2 5).node.state = .standby ∧
      (node .failsafe 2 2 5).node.state = .failsafe ∧ (node .maintenance 2 2 5).node.state = .maintenance ∧
      five.node.state = .service ∧ (node .held 2 2 5).node.state = .held ∧
      (decide ((5 : Word).toNat % 256 = five.store.site.fields.expected)) = true ∧
      (decide ((6 : Word).toNat % 256 = five.store.site.fields.expected)) = false) ∧
    (State.reset.store.site.valid = false ∧ ({ State.reset with phase := .running } : State).phase = .running ∧
      State.reset.node.state = .unnumbered) ∧
    ((0x0100#16 : Word).toNat % 256 = 0 ∧ 250 < (251 : Word).toNat % 256) := by decide

theorem witness_close_all_acts_on_every_pass :
    five.phase = .running ∧ (⟨0, 0, [0]⟩ : Payload).wf = true ∧ five.line.role = .through ∧
    (roled .endWrapped .down).line.role ≠ .through := by decide

theorem witness_commands_are_judged_in_order :
    (five.phase = .running ∧ (cmd 6 [] 0).wf = true ∧ five.concernedBy 6 = false) ∧
    (commandOf (.store (cmd 5 [] 0)) = some (.store, cmd 5 [] 0) ∧ five.concernedBy 5 = true ∧
      (⟨0, 5, [0x0100#16]⟩ : CommandPayload).body.getLastD 0 ≠ 0 ∧ (cmd 5 [] 0).body.getLastD 0 = 0) ∧
    (Cmd.maintain.row.states.has five.node.state = false ∧ Cmd.possFrom.row.states.has five.node.state = true ∧
      Cmd.possFrom.row.form.allows 5 = false ∧ Cmd.store.row.states.has five.node.state = true ∧
      Cmd.store.roomFor 0 (cmd 0 [] 0).body = false) ∧
    ((Cmd.ofCode 0x24#8).all (fun c => !c.row.states.has five.node.state) = true ∧
      (Cmd.ofCode 0x34#8).all (fun c => !c.row.states.has five.node.state) = true) ∧
    ((ranged 2 5).poss.seq.state ≠ .none ∧ five.poss.seq.state = .none) := by decide

theorem witness_replies_are_written_and_folded :
    ([(1 : Word), 2].length = Cmd.possFrom.row.args ∧ ([] : List Word).length = Cmd.store.row.args ∧
      Reject.busy.code = 2 ∧ (5 : BitVec 8) ≠ 0 ∧ [(7 : Word)].length ≤ [(0 : Word)].length) ∧
    ((0xFEFF#16 : Word).toNat / 256 < 255 ∧ (0xFFFE#16 : Word).toNat % 256 < 255) ∧
    ((0xFF00#16 : Word).toNat / 256 = 255 ∧ (0xFF00#16 : Word).toNat % 256 < 255 ∧ (0x00FF#16 : Word).toNat % 256 = 255 ∧
      (0x00FF#16 : Word).toNat / 256 < 255) ∧
    ([(0 : Word)].headD 1 = 0 ∧ [(0x0501#16 : Word)].headD 1 ≠ 0 ∧ ([] : List Word).headD 1 ≠ 0) := by decide

theorem witness_reads_answer_and_change_nothing :
    five.executes .readIdentity (cmd 5 [] 6) = true ∧ five.executes .readSite (cmd 5 [] 10) = true ∧
    five.executes .readStatus (cmd 5 [] 17) = true ∧ five.executes .readFace (cmd 5 [2] 5) = true ∧
    five.executes .readChannel (cmd 5 [10] 5) = true ∧ five.executes .readPlan (cmd 5 [1, 48] 11) = true ∧
    five.executes .readLocks (cmd 5 [] 11) = true ∧ five.executes .readCounters (cmd 5 [] 13) = true ∧
    ((site 64 8 250).gantry < 256 ∧ ({ site 64 8 250 with tHold := 5000, tClose := 60000 } : SiteRecord).tHold < 25600 ∧
      60000 < 256000 ∧ (site 64 8 250).expected < 256 ∧ (site 64 8 250).stall < 256) ∧
    ((⟨15#4, .notMoved, 255⟩ : FaultDetail).count < 256 ∧ (steady .opened).env.ceiling < 4 ∧
      ((steady .opened).pending.all fun q => q.age < 65536) = true ∧ FaceConfig.default.lampCurrent < 128 ∧
      FaceConfig.default.rampTime < 65536 ∧ ShutterParams.default.hit < 128 ∧ ShutterParams.default.hold < 128 ∧
      ShutterParams.default.hitTime < 65536 ∧ ShutterParams.default.dipThreshold < 16 ∧
      ShutterParams.default.dipDebounce < 16 ∧ ShutterParams.default.settle < 256) ∧
    (five.plan.active.entries.length < 256 ∧ (some 48).getD 0 < 64 ∧ (⟨250, .opened, .closed⟩ : PlanEntry).plan < 256 ∧
      (ranged 64 5).poss.locks.length < 8 ∧ (ranged 64 5).poss.seq.fromGantry.getD 0 < 256 ∧
      (ranged 64 5).poss.seq.toGantry.getD 0 < 256 ∧ (ranged 64 5).poss.seq.exceptList.length < 16 ∧
      ((ranged 64 5).poss.seq.exceptList.all fun g => g < 256) = true) := by decide

/-- WRITE_SITE for address 5 with an end flag bit. -/
def siteCmd (echo endBit gantry : Nat) : CommandPayload :=
  cmd 5 [BitVec.ofNat 16 echo, BitVec.ofNat 16 (gantry * 256 + 2), BitVec.ofNat 16 (0x0300 + endBit), 5, 3, 1000, 8000,
    50, 0] 0

/-- Address 5 in STANDBY in a line role with port B in a link state. -/
def standing (r : LineRole) (b : Link) : State :=
  { node .standby 2 2 5 with line := { LineBlock.reset with role := r, linkB := b } }

theorem witness_write_site_replaces_the_record :
    (standing .through .up).executes .writeSite (siteCmd 0x2204 0 2) = true ∧
    (standing .through .up).store.echoOk (siteCmd 0x2205 0 2).arg = false ∧
    (standing .through .up).store.echoOk (siteCmd 0x2204 0 2).arg = true ∧
    (siteOfWords ((siteCmd 0x2204 0 65).body.take 9)).any SiteRecord.inRange = false ∧
    (siteOfWords ((siteCmd 0x2204 0 64).body.take 9) = some (site 64 2 5) ∧ (site 64 2 5).inRange = true) ∧
    (siteOfWords ((siteCmd 0x2204 1 2).body.take 9) = some { site 2 2 5 with endFlag := true } ∧
      ({ site 2 2 5 with endFlag := true } : SiteRecord).inRange = true) ∧
    ((standing .endWrapped .down).line.role ≠ .endConfigured ∧ (standing .endConfigured .up).line.linkB = .up ∧
      (standing .endConfigured .down).line.linkB = .down ∧
      (standing .endConfigured .down).line.outboundQueue.any QueuedFrame.carriesReset = false ∧
      (standing .endConfigured .down).executes .writeSite (siteCmd 0x2204 0 2) = true) := by decide

/-- The configuration of faceArgs. -/
def config (lamp : Nat) : FaceConfig := { FaceConfig.default with diagRFitted := true, lampCurrent := lamp }

theorem witness_write_face_needs_a_quiet_face :
    five.executes .writeFace (cmd 5 (faceArgs 70) 0) = true ∧ faceOfCode (cmd 5 (faceArgs 70) 0).arg.toNat = some .w ∧
    configOfWords ((cmd 5 (faceArgs 70) 0).body.take 15) = some (config 70) ∧ faceOfCode 3 = none ∧
    configOfWords [2, 0] = none ∧
    ((config 0).inRange = false ∧ (config 127).inRange = true ∧ (config 70).mask.hold ≤ (config 70).mask.hit ∧
      five.store.supports .w .diagR = true) ∧
    (FaceConfig.inRange { config 70 with mask := ⟨30, 31, 120, 4, 4, 40⟩ } = true ∧ 30 < 31) ∧
    (FaceConfig.inRange { config 70 with mask := ⟨100, 30, 4, 4, 4, 40⟩ } = true ∧ 4 ≤ 4) ∧
    (({ five with store := { five.store with identityOk := false } } : State).store.supports .w .diagR = false) ∧
    (({ config 70 with warning := .mergeL } : FaceConfig).diagLFitted = false) ∧
    ((five.face .w).steadyClosed = true ∧ five.allOff .w = true ∧ (five.face .w).pending = none ∧
      five.node.state ≠ .failsafe ∧ (five.lamp .w).state = .lit ∧ (five.config .w).lampCurrent ≠ 70) ∧
    ((openingW.face .w).steadyClosed = false ∧ openingW.allOff .w = false ∧ silenced.node.state = .failsafe) := by decide

/-- Five with face W STEADY DARK under a latch, with a lamp and an arrow in given states. -/
def blockedW (x : FaceLatch) (l : LampState) (a : ShutterState) : State :=
  { five with
    faces := ⟨steady .closed, { steady .dark with latch := x }⟩
    elem := { five.elem with w := { lampFace l with arrow := shut a } } }

theorem witness_masks_and_clears_take_twelve_classes :
    five.executes .setMasks (cmd 5 [0x0FFF#16] 0) = true ∧ (0x0FFF#16 : Word).toNat < 4096 ∧
    4096 ≤ (0x1000#16 : Word).toNat ∧ five.executes .clearFaults (cmd 5 [0x0FFF#16] 0) = true ∧
    (0x0FFF#16 : Word) ≠ 0 ∧ (0x0FFF#16 : Word).getLsbD FaultClass.wrap.index = true ∧
    (0x0001#16 : Word).getLsbD FaultClass.wrap.index = false ∧
    (({ five with elem := { five.elem with w := { litFace with arrow := shut .blocked } } } : State).anyBlocked .w) =
      true ∧
    ((4 : Word).getLsbD 2 = true ∧ (4 : Word).getLsbD 3 = false ∧ (8 : Word).getLsbD 2 = false ∧
      (8 : Word).getLsbD 3 = true ∧ five.executes .clearFaults (cmd 5 [8] 0) = true) ∧
    ((blockedW .lamp .blocked .off).face .w).latch = .lamp ∧ ((blockedW .lamp .blocked .off).lamp .w).state = .blocked ∧
    ((blockedW .element .lit .blocked).face .w).latch = .element ∧
    ((blockedW .element .lit .blocked).shutter .w .arrow).state = .blocked ∧
    ((blockedW .element .off .releasing).face .w).steadyDark = true ∧
    (blockedW .element .off .releasing).allOff .w = false ∧ (blockedW .element .off .releasing).anyBlocked .w = false ∧
    (five.face .w).steadyDark = false ∧ five.measureShutter .w .arrow (amps 1) ≠ 0 ∧
    five.measureShutter .w .arrow 0 = 0 := by decide

theorem witness_a_load_session_fills_staging :
    five.executes .loadBegin (cmd 5 [48] 0) = true ∧ 48 < (cmd 5 [49] 0).arg.toNat ∧ (cmd 5 [0] 0).arg.toNat = 0 ∧
    (five.executes .loadEnd (cmd 5 [0] 1) = true ∧ five.plan.session.state ≠ .opened) ∧
    (staged.executes .loadEnd (cmd 5 [0] 1) = true ∧ staged.plan.session.state = .opened ∧
      staged.plan.session.received < staged.plan.session.expected.getD 0) ∧
    (({ staged with plan := { staged.plan with session := ⟨.opened, some 4, 4⟩ } } : State).plan.session.expected.getD 0 ≤
        4 ∧ staged.plan.staging.check ≠ 0 ∧ staged.plan.active.entries ≠ [] ∧ State.reset.plan.active.entries = []) := by
  decide +kernel

theorem witness_load_block_appends_or_spoils :
    (Aspect.ofCode ((0x1400#16 : Word).toNat / 32 % 8) = none ∧
      five.entryOf 0x1450#16 = some ⟨20, .mergeL, .closed⟩ ∧ five.entryOf 0x1584#16 = some ⟨21, .closed, .opened⟩ ∧
      five.entryOf 0x1544#16 = none ∧ five.entryOf 0x1570#16 = none ∧ five.entryOf 0xFB90#16 = none) ∧
    (7 < 7 + 1 ∧ 6 + 1 ≤ 7) ∧
    (staged.executes .loadBlock (cmd 5 [8, 0x1450#16, 0, 0, 0, 0, 0, 0, 0] 1) = true ∧
      staged.executes .loadBlock (cmd 5 [9, 0, 0, 0, 0, 0, 0, 0, 0] 1) = true ∧ five.plan.session.state ≠ .opened ∧
      staged.plan.session.state = .opened) ∧
    (five.checkEntry 7 4 1 none 0x1450#16 = .ok ⟨20, .mergeL, .closed⟩ ∧
      five.checkEntry 7 7 1 none 0x1450#16 = .error .count ∧ five.checkBlock 7 4 2 (some 20) [] = .taken [] ∧
      five.checkBlock 7 4 2 (some 20) [0x1390#16] = .failed .order 2) ∧
    (staged.checkBlock 7 4 1 staged.plan.staging.lastPlan [0x1450#16] = .taken [⟨20, .mergeL, .closed⟩] ∧
      staged.checkBlock 7 4 1 staged.plan.staging.lastPlan [0x0D90#16] = .failed .duplicate 1 ∧
      staged.checkBlock 4 4 1 staged.plan.staging.lastPlan [0x1450#16] = .failed .count 1 ∧
      staged.checkBlock 7 4 1 staged.plan.staging.lastPlan [0x1450#16, 0x1390#16] = .failed .order 2) := by decide

theorem witness_swap_exchanges_the_banks :
    five.executes .swap (cmd 0 [] 1) = true ∧ five.plan.stagingValid = false ∧
    ({ five with plan := { staged.plan with stagingValid := true } } : State).executes .swap (cmd 5 [] 0) = true ∧
    five.store.writer = .idle ∧ (Writer.erasing .site) ≠ .idle := by decide

/-- Address 5 in STANDBY with a writer. -/
def writing (w : Writer) : State :=
  { node .standby 2 2 5 with store := { (node .standby 2 2 5).store with writer := w } }

theorem witness_the_writer_takes_the_images_in_turn :
    ((writing (.erasing .site)).executes .store (cmd 5 [] 0) = true ∧ (writing (.erasing .site)).store.writer ≠ .idle) ∧
    ((writing .idle).executes .eraseStore (cmd 5 [] 0) = true ∧ (writing .idle).store.site.valid = true) ∧
    (({ node .numbered 2 2 5 with store := StorageBlock.factory } : State).executes .store (cmd 0 [] 1) = true ∧
      StorageBlock.factory.site.valid = false ∧ StorageBlock.factory.writer = .idle) ∧
    (five.poss.dirty = false ∧ (writing (.storing five.storeCopy .site)).store.writer = .storing five.storeCopy .site ∧
      five.storeCopy.site = some (site 2 2 5)) ∧
    (({ writing (.lockWriting []) with poss := ⟨.cleared, [], true⟩ } : State).poss.dirty = true ∧
      (writing (.lockWriting [])).store.writer = .lockWriting []) := by decide

/-- Address 5 in NUMBERED. -/
def numbered : State := node .numbered 2 2 5

theorem witness_commission_tests_in_order :
    numbered.executes .commission (cmd 5 [] 0) = true ∧
    ({ numbered with store := StorageBlock.factory } : State).executes .commission (cmd 0 [] 1) = true ∧
    StorageBlock.factory.site.valid = false ∧ StorageBlock.factory.site.laneType = .none ∧
    numbered.store.site.laneType ≠ .none ∧ PlanBlock.reset.active.entries = [] ∧ numbered.plan.active.entries ≠ [] ∧
    (NodeRecord.reset .powerOn).positionAgrees = false ∧ numbered.node.positionAgrees = true ∧
    silenced.node.causes ≠ ⟨false, false, false, false, false⟩ ∧
    numbered.node.causes = ⟨false, false, false, false, false⟩ := by decide

/-- Five with LEAVING set. -/
def leaving : State := { five with node := { five.node with leaving := true } }

/-- Address 5 in MAINTENANCE with the ending flag set and both faces STEADY CLOSED. -/
def endingClosed : State :=
  { node .maintenance 2 2 5 with node := { (node .maintenance 2 2 5).node with ending := true } }

theorem witness_service_is_entered_and_left :
    (standing .through .up).executes .enterService (cmd 5 [] 0) = true ∧
    (standing .through .up).node.positionAgrees = true ∧ (standing .through .up).plan.active.entries ≠ [] ∧
    ({ standing .through .up with plan := .reset } : State).executes .enterService (cmd 0 [] 1) = true ∧
    five.executes .leaveService (cmd 5 [] 0) = true ∧ five.bothClosed = true ∧ five.nothingPending = true ∧
    (node .held 2 2 5).executes .leaveService (cmd 5 [] 0) = true ∧ openingW.bothClosed = false ∧
    (leaving.node.state = .service ∧ leaving.node.leaving = true ∧ leaving.bothClosed = true ∧
      leaving.nothingPending = true) ∧
    (endingClosed.node.state = .maintenance ∧ endingClosed.node.ending = true ∧ endingClosed.bothClosed = true) ∧
    (five.node.leaving = false ∧ five.node.state ≠ .maintenance) := by decide

theorem witness_release_needs_all_four_conditions :
    (silenced.executes .release (cmd 11 [] 0) = true ∧ silenced.sup.recency = some 0 ∧ silenced.sup.loop = .restored ∧
      silenced.sup.supply = .normal ∧ silenced.node.positionAgrees = true ∧ 0 + 1000 ≤ silenced.tHold ∧
      ¬(0 + 1001 ≤ silenced.tHold) ∧ silenced.node.state = .failsafe) ∧
    (numbered.executes .release (cmd 5 [] 0) = true ∧ numbered.node.state ≠ .failsafe) ∧
    ({ numbered with sup := .reset } : State).executes .release (cmd 0 [] 1) = true ∧
    SupBlock.reset.recency = none := by decide

/-- Address 5 in MAINTENANCE with the ending flag set. -/
def ending : State := { tested with node := { tested.node with ending := true } }

/-- Address 5 in MAINTENANCE with face E OPEN. -/
def openE : State := { node .maintenance 2 2 5 with faces := ⟨steady .opened, steady .closed⟩ }

/-- Address 5 in MAINTENANCE, face W STEADY DARK, with a lamp and an arrow in given states. -/
def darkAll (l : LampState) (a : ShutterState) : State :=
  { tested with elem := { five.elem with w := { lampFace l with arrow := shut a } } }

/-- Address 5 in MAINTENANCE that is ending, face W with a record, MASK-W PULLING, DIAG-R-W RELEASING. -/
def endingW (r : FaceRecord) : State :=
  { ending with
    faces := ⟨steady .closed, r⟩
    elem := { five.elem with w := { litFace with mask := shut .pulling, diagR := shut .releasing } } }

/-- Address 5 in MAINTENANCE that is ending, face W on its way to DARK with ARROW-W RELEASING. -/
def endingDark (l : LampState) (x : ShutterState) : State :=
  { ending with
    faces := ⟨steady .closed, changing .opened .dark .one⟩
    elem := { five.elem with w := { lampFace l with arrow := shut .releasing, mask := shut x } } }

/-- ARROW-W dropped. -/
def droppedW (s : State) : State :=
  s.setShutter .w .arrow { s.shutter .w .arrow with state := .off, measured := 0, peak := none, timer := none }

theorem witness_end_maintain_closes_the_faces :
    (standing .through .up).executes .maintain (cmd 5 [] 0) = true ∧
    (ending.executes .endMaintain (cmd 5 [] 0) = true ∧ ending.node.ending = true) ∧
    ((node .maintenance 2 2 5).executes .endMaintain (cmd 5 [] 0) = true ∧ (node .maintenance 2 2 5).bothClosed = true) ∧
    (openE.executes .endMaintain (cmd 5 [] 0) = true ∧ openE.node.ending = false ∧ openE.faces.w.steadyClosed = true ∧
      openE.faces.e.state = .steady ∧ openE.faces.e.shown.permissive = true) ∧
    ((∀ l ∈ [LampState.off, .ramping, .lit, .blocked], (darkAll l .off).executes .endMaintain (cmd 5 [] 0) = true ∧
        (darkAll l .off).node.ending = false ∧ ((darkAll l .off).face .e).steadyClosed = true ∧
        ((darkAll l .off).face .w).steadyClosed = false ∧ ((darkAll l .off).face .w).steadyDark = true ∧
        ((darkAll l .off).shutter .w .arrow).state = .off ∧ ((darkAll l .off).lamp .w).state = l ∧
        ((darkAll l .off).face .w).pending = none) ∧
      ((darkAll .off .pulling).shutter .w .arrow).active = true ∧
      ((darkAll .off .blocked).shutter .w .arrow).state = .blocked ∧
      ((darkAll .off .blocked).shutter .w .arrow).active = false) ∧
    ((endingW (changing .closed .opened .two)).node.state = .maintenance ∧
      (endingW (changing .closed .opened .two)).node.ending = true ∧
      ((endingW (changing .closed .opened .two)).shutter .w .mask).state = .pulling ∧
      ((endingW (changing .closed .opened .two)).face .w).pending = none ∧
      ((endingW (changing .mergeR .opened .two)).shutter .w .diagR).state = .releasing ∧
      Aspect.mergeR.symbol = some .diagR ∧ Aspect.opened.rank = some 0) ∧
    (({ openE with faces := ⟨steady .opened, steady .dark⟩ } : State).executes .endMaintain (cmd 5 [] 0) = true ∧
      ({ openE with faces := ⟨steady .opened, steady .dark⟩ } : State).node.ending = false ∧
      (openE.face .w).shown = .closed ∧ (openE.face .e).shown ≠ .closed ∧
      ((endingDark .lit .off).face .w).state ≠ .steady) ∧
    ((endingDark .lit .off).node.state = .maintenance ∧ (endingDark .lit .off).node.ending = true ∧
      ((endingDark .lit .off).face .w).change = some ⟨.opened, .dark, .one⟩ ∧
      ((endingDark .lit .off).face .w).pending = none ∧
      ((endingDark .lit .off).shutter .w .arrow).state = .releasing ∧
      (endingDark .lit .off).measureShutter .w .arrow 0 = 0 ∧ (droppedW (endingDark .lit .off)).allOff .w = true ∧
      ((endingDark .lit .off).lamp .w).state ≠ .blocked ∧ (droppedW (endingDark .blocked .off)).allOff .w = true ∧
      ((endingDark .blocked .off).lamp .w).state = .blocked ∧ (droppedW (endingDark .lit .blocked)).quiet .w = true ∧
      (droppedW (endingDark .lit .blocked)).anyBlocked .w = true) := by decide

theorem witness_reset_waits_for_its_frame :
    five.executes .reset (cmd 0 [] 1) = true ∧ five.line.resetWaits = false ∧ five.line.role = .through ∧
    (queued [⟨[1, 2, 3, 4], false⟩]).line.outboundQueue.length < 2 ∧
    2 ≤ (queued [⟨[1, 2, 3, 4], false⟩, ⟨[1, 2, 3, 4], false⟩]).line.outboundQueue.length ∧
    (roled .endWrapped .down).line.role ≠ .through ∧ (roled .endWrapped .down).line.returnQueue.length < 2 := by decide

/-- Address 5 in MAINTENANCE, both faces STEADY CLOSED, ARROW-W BLOCKED, MASK-W in a state, DIAG-L-W BLOCKED by a
fault. -/
def stuckW (x : ShutterState) (y : ChannelFault) : State :=
  { node .maintenance 2 2 5 with
    elem := { five.elem with
      w := { litFace with
        arrow := { shut .blocked with lastFault := .overcurrent }, mask := shut x
        diagL := { shut .blocked with lastFault := y } } } }

theorem witness_face_set_starts_a_change :
    (openE.executes .faceSet (cmd 5 [0x0104#16] 0) = true ∧ faceOfCode ((0x0304#16 : Word).toNat / 256) = none ∧
      Aspect.ofCode ((0x0106#16 : Word).toNat % 256) = none ∧ faceOfCode ((0x0104#16 : Word).toNat / 256) = some .e ∧
      Aspect.ofCode ((0x0104#16 : Word).toNat % 256) = some .closed ∧ ending.node.ending = true ∧
      openE.node.ending = false) ∧
    ((openE.face .e).state = .steady ∧ (openE.face .e).shown ≠ .closed ∧ (tested.face .w).shown = .dark ∧
      openE.fitted .e .diagR = false ∧ (openE.face .w).shown = .closed ∧ (openE.face (otherFace .w)).steadyClosed = false) ∧
    (Aspect.opened.symbol = some .arrow ∧ (five.shutter .e .arrow).state = .off ∧ five.sup.releaseAll = false) ∧
    (((eastbound 2 5 (steady .opened)).face .e).shown.permissive = true ∧
      ((eastbound 2 5 (steady .opened)).shutter .e .mask).state = .holding ∧
      (eastbound 2 5 (steady .opened)).quiet .e = false) ∧
    (five.quiet .e = true ∧ (five.face .e).pending = none ∧ five.node.state ≠ .maintenance) ∧
    (∀ x ∈ [ShutterState.pulling, .holding, .releasing], ((darkAll .off x).shutter .w .arrow).state = x ∧
      (darkAll .off x).sup.releaseAll = false) ∧
    (((stuckW .off .none).shutter .w .arrow).state = .blocked ∧ (stuckW .off .none).sup.releaseAll = false ∧
      ((stuckW .off .none).face .w).shown ≠ .dark ∧ (stuckW .releasing .none).quiet .w = false ∧
      (stuckW .off .none).quiet .w = true ∧ (stuckW .off .none).anyNotDropped .w = false ∧
      (stuckW .off .notDropped).quiet .w = true ∧ (stuckW .off .notDropped).anyNotDropped .w = true) ∧
    (((darkAll .off .pulling).face .w).steadyDark = true ∧ (darkAll .off .pulling).quiet .w = false ∧
      (darkAll .off .blocked).quiet .w = true ∧ (darkAll .off .blocked).anyBlocked .w = true ∧
      (∀ l ∈ [LampState.off, .ramping, .lit, .blocked], (darkAll l .off).allOff .w = true ∧
        ((darkAll l .off).lamp .w).state = l ∧ ((darkAll l .off).face .w).pending = none)) := by decide

theorem witness_element_test_needs_a_dark_face :
    ((darkAll .off .off).executes .elementTest (cmd 5 [0x0701#16] 0) = true ∧ 2 < (0x0703#16 : Word).toNat % 256 ∧
      (0x0700#16 : Word).toNat % 256 = 0 ∧ ending.node.ending = true ∧ 9 < (0x0A01#16 : Word).toNat / 256 ∧
      Channel.ofNumber ((0x0801#16 : Word).toNat / 256) = some (.shutter .w .diagL) ∧
      (darkAll .off .off).fitted .w .diagL = false ∧ (darkAll .off .off).channelFitted (.lamp .e) = true ∧
      ((darkAll .off .off).face .e).steadyDark = false) ∧
    (Channel.ofNumber ((0x0701#16 : Word).toNat / 256) = some (.shutter .w .arrow) ∧
      (darkAll .off .off).fitted .w .arrow = true ∧ ((darkAll .off .off).face .w).steadyDark = true ∧
      ((darkAll .off .off).face .w).relightAwaited = false ∧ ((darkAll .off .off).face .e).steadyAside = true ∧
      (darkAll .off .off).sup.releaseAll = false ∧ ((darkAll .off .off).shutter .w .arrow).state = .off ∧
      ((darkAll .off .pulling).shutter .w .arrow).state = .pulling ∧
      ((darkAll .off .releasing).shutter .w .arrow).state = .releasing ∧
      ((darkAll .off .blocked).shutter .w .arrow).state = .blocked) ∧
    (({ tested with faces := ⟨changing .closed .opened .one, steady .dark⟩ } : State).face .e).steadyAside = false ∧
    (Channel.ofNumber ((0x0501#16 : Word).toNat / 256) = some (.lamp .w) ∧ ((darkAll .off .off).lamp .w).state = .off ∧
      ((darkAll .lit .off).lamp .w).state = .lit ∧ ((darkAll .blocked .off).lamp .w).state = .blocked) := by decide

/-- Address 5 in FROM_SET from gantry 2. -/
def fromSet : State := { five with poss := ⟨⟨.fromSet, some 2, some 2#8, some .both, none, []⟩, [], false⟩ }

theorem witness_possession_steps_build_the_record :
    (five.executes .possFrom (cmd 0 [0x4001#16, 3] 1) = true ∧ LockFaces.ofCode (4 : Word).toNat = none ∧
      LockFaces.ofCode (3 : Word).toNat = some .both ∧ 64 < (0x4101#16 : Word).toNat / 256 ∧
      (0x4001#16 : Word).toNat / 256 ≤ 64 ∧ (0x4000#16 : Word).toNat % 256 = 0 ∧ five.poss.seq.state = .none) ∧
    (fromSet.executes .possTo (cmd 0 [2] 1) = true ∧ fromSet.poss.seq.state = .fromSet ∧
      fromSet.poss.seq.fromGantry = some 2 ∧ 2 ≤ (2 : Word).toNat ∧ (1 : Word).toNat < 2) ∧
    ((ranged 2 5).executes .possExcept (cmd 0 [64] 1) = true ∧ (ranged 2 5).poss.seq.state = .rangeSet ∧
      64 ∉ (ranged 2 5).poss.seq.exceptList ∧ 2 ∈ [1, 2, 3, 4, 5, 6, 7, 8] ∧ 9 ∉ [1, 2, 3, 4, 5, 6, 7, 8] ∧
      8 ≤ [1, 2, 3, 4, 5, 6, 7, 8].length ∧ [1, 2, 3, 4, 5, 6, 7].length < 8) ∧
    (fromSet.executes .possFrom (cmd 0 [0x4001#16, 3] 1) = true ∧ fromSet.poss.seq.state ≠ .none ∧
      five.executes .possTo (cmd 0 [64] 1) = true ∧ fromSet.executes .possExcept (cmd 0 [1] 1) = true ∧
      fromSet.executes .possApply (cmd 0 [15] 1) = true ∧ fromSet.poss.seq.state ≠ .rangeSet) := by decide

/-- The range of ranged with locks in the table. -/
def locked (ids : List Nat) : State :=
  { ranged 2 5 with
    poss := { (ranged 2 5).poss with locks := ids.map fun i => ⟨i, .both, true, false⟩ } }

/-- The range of ranged with no lock and a record of face W. -/
def lockingW (r : FaceRecord) : State := { locked [] with faces := ⟨steady .closed, r⟩ }

theorem witness_poss_apply_appends_a_lock :
    ((locked []).executes .possApply (cmd 0 [15] 1) = true ∧ (locked []).poss.seq.state = .rangeSet ∧
      (locked []).possConcerned = true ∧ (ranged 4 11).possConcerned = false) ∧
    ((locked [3]).possConcerned = true ∧ (∃ l ∈ (locked [3]).poss.locks, l.id = 3)) ∧
    ((∀ l ∈ (locked [1, 2, 3, 4]).poss.locks, l.id ≠ 15) ∧ 4 ≤ (locked [1, 2, 3, 4]).poss.locks.length ∧
      (∀ l ∈ (locked [1, 2, 3]).poss.locks, l.id ≠ 15) ∧ (locked [1, 2, 3]).poss.locks.length < 4) ∧
    (numbered.node.state ≠ .service ∧ numbered.node.state ≠ .held) ∧
    ((locked [3]).node.state = .service ∧ (locked [3]).covered .e = true ∧ ((locked [3]).face .e).steadyClosed = true) ∧
    (({ locked [3] with faces := ⟨steady .opened, steady .dark⟩ } : State).face .e).latch = .none ∧
    (({ locked [3] with faces := ⟨steady .opened, steady .dark⟩ } : State).face .e).shown.permissive = true ∧
    (({ locked [3] with faces := ⟨steady .opened, steady .dark⟩ } : State).face .w).steadyDark = true ∧
    (∀ r ∈ [steady .opened, steady .dark, steady .closed, changing .opened .closed .one,
        { steady .closed with state := .returning, env := ⟨0, 2⟩ },
        { steady .opened with pending := some ⟨.mergeR, .plan, 3, .upstream⟩ }],
      (lockingW r).executes .possApply (cmd 0 [15] 1) = true ∧ (lockingW r).possConcerned = true ∧
      (∀ l ∈ (lockingW r).poss.locks, l.id ≠ 15) ∧ (lockingW r).poss.locks.length < 4 ∧
      ((lockingW r).poss.seq.faces.getD .both).covers .w = true ∧ (lockingW r).covered .w = false) := by decide

theorem witness_poss_lift_removes_the_lock :
    (locked []).executes .possLift (cmd 5 [15] 0) = true ∧ (locked []).executes .possLift (cmd 0 [1] 1) = true ∧
    (cmd 5 [15] 0).target ≠ 0 ∧ (∀ l ∈ (locked [3]).poss.locks, l.id ≠ 15) ∧
    (∃ l ∈ (locked [3, 15]).poss.locks, l.id = 15) ∧ (locked [3, 15]).store.writer = .idle ∧
    (writing (.erasing .plan)).store.writer ≠ .idle ∧
    (writing (.erasing .plan)).executes .possLift (cmd 0 [16] 1) = true := by decide

/-- Face E in a sideways change from OPEN to MERGE-L: DIAG-L-E PULLING, ARROW-E HOLDING. -/
def sideways : State :=
  { five with
    faces := ⟨changing .opened .mergeL .one, steady .closed⟩
    elem := { five.elem with
      e := { litFace with mask := shut .holding, arrow := shut .holding, diagL := shut .pulling } } }

/-- openingW with MASK-W in a state. -/
def openingMask (x : ShutterState) : State :=
  { openingW with elem := { openingW.elem with w := { openingW.elem.w with mask := shut x } } }

/-- Five with ARROW-W PULLING that has moved, its face STEADY CLOSED. -/
def heldW : State :=
  { five with elem := { five.elem with w := { litFace with arrow := { shut .pulling with movedSeen := true } } } }

theorem witness_moved_drives_an_opening_change :
    ((openingW.shutter .w .arrow).state = .pulling ∧ (openingW.shutter .w .arrow).movedSeen = false ∧
      openingW.measureShutter .w .arrow (amps 91) + ((openingW.config .w).params .arrow).dipThreshold <
        max (max ((openingW.shutter .w .arrow).peak.getD 0) (openingW.measureShutter .w .arrow (amps 96)))
          (openingW.measureShutter .w .arrow (amps 91)) ∧
      (openingW.face .w).change = some ⟨.closed, .opened, .one⟩ ∧ (openingW.shutter .w .mask).state = .off ∧
      openingW.sup.releaseAll = false) ∧
    ((sideways.shutter .e .diagL).state = .pulling ∧ (sideways.shutter .e .diagL).movedSeen = false ∧
      (sideways.face .e).change = some ⟨.opened, .mergeL, .one⟩ ∧ Aspect.mergeL.symbol = some .diagL ∧
      Aspect.opened.symbol = some .arrow ∧ (sideways.shutter .e .arrow).state = .holding) ∧
    ((openingW2.shutter .w .mask).state = .pulling ∧ (openingW2.shutter .w .mask).movedSeen = false ∧
      (openingW2.face .w).change = some ⟨.closed, .opened, .two⟩ ∧ openingW2.node.ending = false ∧
      (openingW2.face .w).pending.all (fun p => p.aspect == .opened) = true) ∧
    (max (max ((openingW.shutter .w .arrow).peak.getD 0) (openingW.measureShutter .w .arrow (amps 96)))
        (openingW.measureShutter .w .arrow (amps 92)) ≤
      openingW.measureShutter .w .arrow (amps 92) + ((openingW.config .w).params .arrow).dipThreshold ∧
      (openingW.shutter .w .mask).state ≠ .pulling ∧ (openingW2.shutter .w .arrow).movedSeen = true) ∧
    (∀ x ∈ [ShutterState.off, .pulling, .holding, .releasing, .blocked],
      ((openingMask x).shutter .w .mask).state = x ∧ ((openingMask x).shutter .w .arrow).state = .pulling ∧
      (openingMask x).measureShutter .w .arrow (amps 91) + (((openingMask x).config .w).params .arrow).dipThreshold <
        max (max (((openingMask x).shutter .w .arrow).peak.getD 0) ((openingMask x).measureShutter .w .arrow (amps 96)))
          ((openingMask x).measureShutter .w .arrow (amps 91))) ∧
    ((heldW.face .w).state = .steady ∧ (heldW.shutter .w .arrow).state = .pulling ∧
      (heldW.shutter .w .arrow).movedSeen = true ∧ (heldW.shutter .w .mask).state ≠ .pulling) := by decide

/-- Face W in step 2 of its change to CLOSED, ARROW-W RELEASING. -/
def closingW2 : State :=
  { closingW with
    faces := ⟨steady .closed, changing .opened .closed .two⟩
    elem := { five.elem with w := { litFace with arrow := shut .releasing } } }

/-- Face W on its way to DARK with ARROW-W RELEASING and MASK-W in a state. -/
def toDarkW (x : ShutterState) : State :=
  { tested with
    faces := ⟨steady .closed, changing .opened .dark .one⟩
    elem := { five.elem with w := { litFace with arrow := shut .releasing, mask := shut x } } }

/-- Face W STEADY DARK awaiting its relight, ARROW-W RELEASING and MASK-W in a state. -/
def awaitingW (x : ShutterState) : State :=
  { toDarkW x with faces := ⟨steady .closed, { steady .dark with relightAwaited := true }⟩ }

theorem witness_dropped_drives_a_closing_change :
    ((closingW.shutter .w .mask).state = .releasing ∧ closingW.measureShutter .w .mask 0 = 0 ∧
      (closingW.face .w).change = some ⟨.opened, .closed, .one⟩ ∧ (closingW.shutter .w .arrow).state = .holding) ∧
    ((closingW2.shutter .w .arrow).state = .releasing ∧ (closingW2.face .w).change = some ⟨.opened, .closed, .two⟩ ∧
      Aspect.closed.rank = some 2 ∧ closingW2.node.state ≠ .maintenance ∧
      (closingW2.face .w).pending.all (fun p => p.aspect == .closed) = true) ∧
    (((toDarkW .off).shutter .w .arrow).state = .releasing ∧ (toDarkW .off).measureShutter .w .arrow 0 = 0 ∧
      ((toDarkW .off).face .w).state = .changing ∧ ((toDarkW .off).face .w).change = some ⟨.opened, .dark, .one⟩ ∧
      ((toDarkW .off).face .w).relightAwaited = false ∧ ((toDarkW .off).face .w).pending = none ∧
      (toDarkW .off).node.ending = false ∧ (droppedW (toDarkW .releasing)).quiet .w = false ∧
      (droppedW (toDarkW .off)).quiet .w = true ∧ (droppedW (toDarkW .off)).anyBlocked .w = false ∧
      (droppedW (toDarkW .blocked)).quiet .w = true ∧ (droppedW (toDarkW .blocked)).anyBlocked .w = true) ∧
    (((awaitingW .off).face .w).steadyDark = true ∧ ((awaitingW .off).face .w).relightAwaited = true ∧
      ((awaitingW .off).shutter .w .arrow).state = .releasing ∧ (awaitingW .off).measureShutter .w .arrow 0 = 0 ∧
      (droppedW (awaitingW .releasing)).quiet .w = false ∧ (droppedW (awaitingW .off)).allOff .w = true ∧
      (droppedW (awaitingW .blocked)).quiet .w = true) := by decide

/-- Face W STEADY OPEN, MASK-W and ARROW-W HOLDING. -/
def openW : State :=
  { five with
    faces := ⟨steady .closed, steady .opened⟩
    elem := { five.elem with w := { litFace with mask := shut .holding, arrow := shut .holding } } }

/-- Face W STEADY DARK with a tested ARROW-W in a state. -/
def testedW (x : ShutterState) : State :=
  { tested with elem := { five.elem with w := { FaceChannels.reset with arrow := shut x } } }

/-- The state after a fault of face W that leaves a shutter BLOCKED. -/
def blocksW (s : State) (k : Shutter) (raw : Nat) (x : ChannelFault) : State :=
  (s.setShutter .w k { s.shutter .w k with
    measured := s.measureShutter .w k raw, state := .blocked, lastFault := x, peak := none
    timer := none }).reportShutter .w k x

/-- closingW2 with DIAG-L-W BLOCKED by NOT_DROPPED. -/
def closingStuck : State :=
  { closingW2 with elem := { closingW2.elem with
      w := { closingW2.elem.w with diagL := { shut .blocked with lastFault := .notDropped } } } }

theorem witness_a_shutter_fault_starts_a_return :
    ((openingW.shutter .w .arrow).state = .pulling ∧ (openingW.shutter .w .arrow).movedSeen = false ∧
      (openingW.face .w).state = .changing ∧ (openingW.face .w).changingTo .dark = false ∧
      (openingW.face .w).relighting = false) ∧
    ((openW.shutter .w .arrow).state = .holding ∧
      openW.measureShutter .w .arrow (amps 14) < max 1 (((openW.config .w).params .arrow).hold / 2) ∧
      (openW.face .w).state = .steady ∧ (openW.face .w).shown.permissive = true ∧
      (openW.face .w).env = steadyEnv (openW.face .w).shown) ∧
    ((tested.shutter .w .arrow).active = true ∧ 159 < tested.measureShutter .w .arrow (amps 160) ∧
      (tested.face .w).state = .steady ∧ (tested.face .w).shown.permissive = false ∧
      (tested.face .w).relightAwaited = false) ∧
    ((closingW.shutter .w .mask).state = .releasing ∧ 0 < closingW.measureShutter .w .mask (amps 1) ∧
      (closingW.shutter .w .arrow).active = true ∧ (closingW.face .w).relightAwaited = false ∧
      (closingW2.shutter .w .arrow).active = true ∧ (closingW2.shutter .w .mask).active = false ∧
      159 < closingW2.measureShutter .w .arrow (amps 160) ∧ closingW2.anyNotDropped .w = false) ∧
    ((toDarkW .off).face .w).changingTo .dark = true ∧ ((toDarkW .off).shutter .w .arrow).state = .releasing ∧
    ((toDarkW .off).shutter .w .mask).active = false ∧ ((toDarkW .releasing).shutter .w .mask).active = true ∧
    ((testedW .pulling).shutter .w .arrow).state = .pulling ∧ ((testedW .releasing).shutter .w .arrow).state = .releasing ∧
    ((testedW .holding).shutter .w .arrow).state = .holding ∧
    (testedW .holding).measureShutter .w .arrow (amps 14) < max 1 ((((testedW .holding).config .w).params .arrow).hold / 2) ∧
    (0 < (testedW .releasing).measureShutter .w .arrow (amps 1) ∧ ((testedW .pulling).shutter .w .arrow).movedSeen = false) ∧
    ((blocksW closingW .mask (amps 1) .notDropped).quiet .w = false ∧
      (blocksW closingW2 .arrow (amps 160) .overcurrent).quiet .w = true ∧
      (blocksW closingStuck .arrow (amps 160) .overcurrent).quiet .w = true ∧ closingStuck.anyNotDropped .w = true ∧
      (closingStuck.shutter .w .arrow).active = true ∧ (closingStuck.face .w).changingTo .dark = false) ∧
    (((awaitingW .off).face .w).steadyDark = true ∧ ((awaitingW .off).face .w).relightAwaited = true ∧
      0 < (awaitingW .off).measureShutter .w .arrow (amps 1) ∧
      159 < (awaitingW .off).measureShutter .w .arrow (amps 160) ∧ ((awaitingW .off).shutter .w .arrow).active = true ∧
      (blocksW (awaitingW .off) .arrow (amps 1) .notDropped).quiet .w = true ∧
      (blocksW (awaitingW .off) .arrow (amps 160) .overcurrent).quiet .w = true ∧
      (blocksW (awaitingW .releasing) .arrow (amps 1) .notDropped).quiet .w = false) := by decide

/-- Face W RETURNING with ARROW-W the last active shutter and DIAG-L-W in a state with a last fault. -/
def returningW (x : ShutterState) (y : ChannelFault) : State :=
  { five with
    faces := ⟨steady .closed, { steady .closed with state := .returning, env := ⟨0, 2⟩, latch := .element }⟩
    elem := { five.elem with
      w := { litFace with arrow := shut .releasing, diagL := { shut x with lastFault := y } } } }

theorem witness_a_return_ends_by_its_last_shutter :
    ((returningW .off .none).face .w).state = .returning ∧ ((returningW .off .none).face .w).relightAwaited = false ∧
    ((returningW .off .none).shutter .w .arrow).state = .releasing ∧
    (∀ j ∈ [Shutter.mask, .diagL, .diagR], ((returningW .off .none).shutter .w j).active = false) ∧
    (returningW .off .none).measureShutter .w .arrow 0 = 0 ∧
    0 < (returningW .off .none).measureShutter .w .arrow (amps 1) ∧
    159 < (returningW .off .none).measureShutter .w .arrow (amps 160) ∧
    ((returningW .off .none).anyNotDropped .w = false ∧ (returningW .blocked .notDropped).anyNotDropped .w = true ∧
      (returningW .blocked .overcurrent).anyNotDropped .w = false) := by decide

/-- Address 5 past start-up with face W relighting. -/
def relitW : State :=
  { five with
    faces := ⟨steady .closed, changing .dark .closed .one⟩, elem := { five.elem with w := lampFace .ramping } }

/-- Five with LAMP-E moving from current 40. -/
def movingE : State :=
  { five with elem := { five.elem with e := { litFace with lamp := { litFace.lamp with moveFrom := some 40 } } } }

theorem witness_lit_completes_the_relight :
    (relitW.phase = .running ∧ (relitW.lamp .w).state = .ramping ∧
      (relitW.config .w).lampCurrent - max 1 ((relitW.config .w).lampCurrent / 8) ≤ relitW.measureLamp .w (amps 56) ∧
      relitW.measureLamp .w (amps 72) ≤ (relitW.config .w).lampCurrent + max 1 ((relitW.config .w).lampCurrent / 8) ∧
      (relitW.face .w).relighting = true ∧ (relitW.face .w).pending = none) ∧
    ((movingE.lamp .e).moveFrom = some 40 ∧ (five.lamp .e).moveFrom = none) := by decide

theorem witness_a_lamp_fault_darkens_the_face :
    (relitW.phase = .running ∧ (relitW.lamp .w).state = .ramping ∧ 159 < relitW.measureLamp .w (amps 160)) ∧
    ((five.lamp .e).state = .lit ∧ five.measureLamp .e (amps 31) < five.lampFloor .e) ∧
    (movingE.measureLamp .e (amps 19) < movingE.lampFloor .e ∧ ¬(movingE.measureLamp .e (amps 20) < movingE.lampFloor .e)) := by
  decide

theorem witness_silence_holds_then_closes :
    (five.sup.timer = .holdStage 1000 ∧ five.node.state = .service) ∧
    ((node .held 2 2 5).sup.timer = .closeStage 8000 ∧ (node .held 2 2 5).node.state = .held) ∧
    numbered.sup.timer = .stopped := by decide

theorem witness_monitors_raise_their_causes_once :
    (five.phase ≠ .held ∧ 3999 < 4000 ∧ five.sup.loop ≠ .opened ∧ 4000 ≤ 4000) ∧
    (20999 < 21000 ∧ five.sup.supply ≠ .low ∧ SupBlock.reset.supply = .evaluating ∧ 21000 ≤ 21000 ∧ 50 ≤ 50 ∧
      21500 ≤ 21500 ∧ 500 ≤ 500 ∧ 21499 < 21500 ∧ 499 < 500) ∧
    ((({ five with sup := { five.sup with supply := .low } } : State).sup.supply = .low) ∧
      ({ five with sup := { five.sup with loop := .opened } } : State).sup.loop = .opened) := by decide

theorem witness_forced_closure_is_one_event :
    (numbered.node.state = .numbered ∧ State.reset.node.state = .unnumbered ∧ silenced.node.state = .failsafe) ∧
    (five.node.state = .service ∧ (node .held 2 2 5).node.state = .held ∧ tested.node.state = .maintenance ∧
      (standing .through .up).node.state = .standby) ∧
    ((five.face .e).steadyClosed = true ∧ (relitW.face .w).relighting = true) ∧
    ((openW.face .w).shown.permissive = true ∧ openW.quiet .w = false ∧ (openingW.face .w).state = .changing ∧
      (openingW.face .w).relighting = false ∧ openingW.quiet .w = false) ∧
    (((darkAll .off .off).face .w).steadyDark = true ∧ ((darkAll .off .off).face .w).latch = .none ∧
      (darkAll .off .off).allOff .w = true ∧ ((darkAll .off .off).lamp .w).state = .off) := by decide

theorem witness_a_pass_that_is_not_valid_decides_nothing :
    (five.phase = .running ∧ (⟨0, 0, [0]⟩ : Payload).wf = true ∧ five.line.role = .through ∧ [(0 : Word)].length ≠ 29) ∧
    ((SweepBody.ofWords (sweepBody 1 251 0 0 absentVector absentVector)).any (fun b => 250 < b.plan) = true ∧
      (SweepBody.ofWords (sweepBody 1 250 65 0 absentVector absentVector)).any
        (fun b => 64 < b.curGantry && b.curGantry != 255) = true ∧
      (SweepBody.ofWords (sweepBody 1 250 64 254 absentVector absentVector)).any
        (fun b => 64 < b.prevGantry && b.prevGantry != 255) = true) ∧
    (State.reset.store.site.valid = false ∧
      (SweepBody.ofWords (sweepBody 1 250 64 255 absentVector absentVector)).any
        (fun b => b.plan ≤ 250 && b.curGantry ≤ 64 && b.prevGantry == 255) = true) ∧
    ((heard .ret 401 .out).sweep.expected = .ret ∧ (heard .ret 401 .out).sweep.seq = some 401) ∧
    ((sweepContent (payloadFrame (sweep (sweepBody 1 10 3 2 absentVector absentVector)) kindSweep .a)).any
        (fun b => rollOutcome .out five.gantry five.lane b == .orderFault) = true ∧
      (sweepContent (payloadFrame (sweep (sweepBody 1 10 1 2 absentVector absentVector)) kindSweep .a)).any
        (fun b => rollOutcome .ret five.gantry five.lane b == .orderFault) = true) := by decide

theorem witness_the_roll_follows_the_gantry_order :
    (SweepBody.ofWords (outPass 1).body).any (fun b => b.curGantry == 2) = true ∧ 2 < 3 ∧ 1 < 2 := by decide

theorem witness_a_valid_outbound_pass_takes_the_steps_in_order :
    five.phase = .running ∧ five.line.role = .through ∧ five.store.site.valid = true ∧
    (sweepContent (payloadFrame (outPass 400) kindSweep .a)).any
      (fun b => rollOutcome .out five.gantry five.lane b == .stay) = true ∧
    (sweepContent (payloadFrame (sweep (sweepBody 400 10 1 0 (lanes eastOpen) absentVector)) kindSweep .a)).any
      (fun b => rollOutcome .out five.gantry five.lane b == .roll) = true := by decide

theorem witness_a_valid_return_pass_takes_the_steps_in_order :
    (sweepContent (payloadFrame (retPass 400) kindSweep .b)).any
      (fun b => rollOutcome .ret five.gantry five.lane b == .stay) = true ∧
    (sweepContent (payloadFrame (sweep (sweepBody 400 10 255 1 (lanes eastOpen) absentVector)) kindSweep .b)).any
      (fun b => rollOutcome .ret five.gantry five.lane b == .roll && decide (b.faulted ≤ 255) && decide (b.pending ≤ 255) &&
        decide (five.longestWait ≤ b.waitAge)) = true ∧
    (0 < ({ five with faces := ⟨{ steady .opened with pending := some ⟨.closed, .plan, 1, .upstream⟩ },
      steady .closed⟩ } : State).longestWait) := by decide

theorem witness_an_end_node_seeds_the_return_pass :
    (roled .endConfigured .up).phase = .running ∧ (roled .endConfigured .up).line.role ≠ .through ∧
    (outPass 400).wf = true ∧
    (sweepContent (((roled .endConfigured .up).received .a).sweepPass (payloadFrame (outPass 400) kindSweep .a)).2).isSome =
      true ∧
    (sweepContent (((roled .endWrapped .down).received .a).sweepPass (payloadFrame (outPass 400) kindSweep .a)).2).isSome =
      true := by decide +kernel

theorem witness_targets_come_from_the_first_row :
    five.lookup 9 = none ∧ five.lookup 10 = some ⟨10, .opened, .closed⟩ ∧
    ((PlanEntry.aspect ⟨10, .opened, .closed⟩ .e).permissive = true ∧ LaneType.westOnly.allows .e = false ∧
      five.laneType.allows .e = true ∧ five.canShow .e .opened = true ∧ five.canShow .e .mergeR = false) := by decide

theorem witness_gates_judge_each_change :
    (openW.face .w).shown.rank = some 0 ∧ Aspect.closed.rank = some 2 ∧ (five.face .e).shown.rank = some 2 ∧
    Aspect.opened.rank = some 0 ∧ Aspect.mergeL.rank = some 1 ∧
    (({ five with faces := ⟨steady .mergeR, steady .closed⟩ } : State).face .e).shown.rank = some 1 := by decide

/-- Five with a record of face E. -/
def facedE (r : FaceRecord) : State := { five with faces := ⟨r, steady .closed⟩ }

/-- A face with a pending target. -/
def waiting (a : Aspect) (r : FaceRecord) : FaceRecord := { r with pending := some ⟨a, .plan, 7, .upstream⟩ }

theorem witness_a_target_is_taken_by_the_face_state :
    ((five.face .e).state = .steady ∧ (five.face .e).shown = .closed ∧ (five.face .e).pending = none ∧
      (five.face .e).latch = .none ∧ five.sup.releaseAll = false ∧ (tested.face .w).shown = .dark ∧
      ((facedE { steady .closed with latch := .lamp }).face .e).latch ≠ .none) ∧
    (((facedE (waiting .closed (steady .opened))).face .e).pending = some ⟨.closed, .plan, 7, .upstream⟩ ∧
      ((facedE (waiting .closed (steady .opened))).face .e).state = .steady ∧
      ((facedE (waiting .closed (steady .opened))).face .e).latch = .none ∧
      ((facedE (waiting .closed (steady .opened))).face .e).shown = .opened ∧
      ((facedE (waiting .closed { steady .opened with latch := .lamp })).face .e).latch ≠ .none ∧
      ((facedE (waiting .closed (steady .dark))).face .e).shown = .dark) ∧
    (((facedE (waiting .closed (changing .closed .opened .one))).face .e).state = .changing ∧
      ((facedE (waiting .closed (changing .closed .opened .one))).face .e).changingTo .opened = true ∧
      ((facedE (waiting .closed (changing .closed .opened .one))).face .e).changingTo .closed = false ∧
      ((facedE (waiting .closed (changing .closed .opened .one))).face .e).changingTo .mergeL = false) ∧
    (((facedE (waiting .opened { steady .closed with state := .returning, env := ⟨0, 2⟩ })).face .e).state =
      .returning) ∧
    (((facedE (changing .closed .opened .one)).face .e).pending = none ∧
      ((facedE (changing .closed .opened .one)).face .e).changingTo .opened = true ∧
      ((facedE (changing .closed .opened .one)).face .e).changingTo .closed = false ∧
      ((returningW .off .none).face .w).state = .returning ∧ ((returningW .off .none).face .w).pending = none) := by
  decide

/-- Address 2 of gantry 1 with a record of face E; the entry on its left is OPEN or absent, that on its right OPEN. -/
def merging (r : FaceRecord) (lo : Bool) : State :=
  { eastbound 1 2 r with
    sweep := { (eastbound 1 2 r).sweep with
      lower := if lo then (eastbound 1 2 r).sweep.lower else ⟨none, none⟩ } }

theorem witness_waits_age_and_merges_are_checked :
    ((facedE { steady .opened with pending := some ⟨.closed, .plan, 49, .upstream⟩ }).face .e).pending =
      some ⟨.closed, .plan, 49, .upstream⟩ ∧
    (five.store.site.fields.stall ≤ min 255 (49 + 1) ∧ ¬(five.store.site.fields.stall ≤ min 255 (48 + 1)) ∧
      min 255 (255 + 1) = 255 ∧ (five.face .e).pending = none) ∧
    (((merging (steady .mergeL) true).face .e).mergeLost = none ∧ ((merging (steady .mergeL) true).face .e).mergeSide = some .left ∧
      ((merging (steady .opened) true).face .e).mergeSide = none ∧
      ((merging (steady .mergeL) true).sweep.merge .e .left).openFor .e = true ∧
      ((merging (steady .mergeL) false).sweep.merge .e .left).openFor .e = false) ∧
    (((merging { steady .mergeL with mergeLost := some .right } true).sweep.merge .e .right).openFor .e = true ∧
      ((merging { steady .opened with mergeLost := some .right } true).face .e).mergeSide = none ∧
      ((merging { steady .mergeL with mergeLost := some .right } true).face .e).mergeSide = some .left ∧
      ((merging { steady .mergeL with mergeLost := some .right } false).sweep.merge .e .left).openFor .e = false ∧
      ((merging { steady .mergeL with mergeLost := some .right } false).face .e).mergeLost = some .right) ∧
    (((merging { steady .mergeL with mergeLost := some .left } false).face .e).mergeLost = some .left ∧
      ((merging { steady .opened with mergeLost := some .left } false).face .e).mergeSide = none ∧
      ((merging { steady .mergeR with mergeLost := some .left } false).face .e).mergeSide = some .right ∧
      ((merging { steady .mergeR with mergeLost := some .left } false).sweep.merge .e .right).openFor .e = true ∧
      ((merging { steady .mergeL with mergeLost := some .left } false).face .e).mergeSide = some .left) := by
  decide

theorem witness_encodings_read_back :
    (0 ≤ 2 ∧ 2 ≤ 2) ∧
    (SweepBody.ofWords (outPass 400).body).any (fun b => b.plan ≤ 255 && b.cur.length == 8 && b.waitAge ≤ 255) = true ∧
    (payloadFrame (sweep (List.replicate 124 0)) kindSweep .a).fits = true ∧
    (payloadFrame (sweep [0]) kindSweep .b).fits = true ∧
    (payloadFrame (sweep [0]) kindSweep .b).pass = passOf .b := by decide +kernel

/-- A state in the middle of a run meets every condition of the invariants, and steps. -/
theorem witness_invariants_hold_in_service :
    (openingW.facesSound && openingW.oneWay && openingW.startUpOk && openingW.node.addressOk && openingW.node.flagsOk &&
      openingW.node.causesOk && openingW.timerOk && openingW.releaseOk && openingW.plan.sound &&
      locksOk openingW.poss.locks && openingW.poss.seq.sound && openingW.line.queuesOk && openingW.siteOk &&
      openingW.tableOk && openingW.pendingOk && openingW.coverOk) = true ∧
    (match step { openingW with pending := [.loopOpen 0] } with
      | .next t => t.node.state == .failsafe
      | .fault _ => false
      | .refused _ => false) = true := by decide +kernel

/-- So does a state with locks, a pending target, a load session and a frame queued. -/
theorem witness_invariants_hold_with_locks :
    ((locked [3]).pendingOk && locksOk (locked [3]).poss.locks && (locked [3]).poss.seq.sound && staged.plan.sound &&
      (queued [⟨[1, 2, 3, 4], false⟩, ⟨[1, 2, 3, 4], false⟩]).line.queuesOk && silenced.node.causesOk &&
      silenced.releaseOk && silenced.timerOk &&
      ({ locked [3] with faces := ⟨{ steady .opened with
          target := ⟨.closed, .possession⟩, pending := some ⟨.closed, .possession, 0, .upstream⟩ },
        { steady .closed with target := ⟨.closed, .possession⟩ }⟩ } : State).coverOk) = true := by decide +kernel

end Sys2Proof.Tests
end

section
/-! SUPPORT. Updates of a face's record beside updates of its channels: what each leaves of the other face, in which order they
are written, and what the tests over a face's shutters read. -/

namespace Sys2Proof.Machine

/-! ### The other face -/

theorem otherFace_otherFace (f : Face) : otherFace (otherFace f) = f := by cases f <;> rfl

theorem eq_otherFace_of_ne {f g : Face} (h : g ≠ f) : g = otherFace f := by
  cases f <;> cases g <;> simp_all [otherFace]

theorem State.face_of_faces {s t : State} (h : t.faces = s.faces) (f : Face) : t.face f = s.face f := by
  cases f <;> simp [State.face, h]

theorem State.channels_of_elem {s t : State} (h : t.elem = s.elem) (f : Face) : t.channels f = s.channels f := by
  cases f <;> simp [State.channels, h]

/-! ### A face's record after an operation on its channels -/

@[simp] theorem State.latch_face (s : State) (c : FaultClass) (g : Face) : (s.latch c).face g = s.face g := rfl
@[simp] theorem State.countSuperseded_face (s : State) (g : Face) : s.countSuperseded.face g = s.face g := rfl
@[simp] theorem State.setDetails_face (s : State) (f g : Face) (d : FaceDetails) :
    (s.setDetails f d).face g = s.face g := State.face_of_faces (by simp) g
@[simp] theorem State.reportShutter_face (s : State) (f g : Face) (k : Shutter) (x : ChannelFault) :
    (s.reportShutter f k x).face g = s.face g := State.face_of_faces (by simp) g
@[simp] theorem State.releaseShutter_face (s : State) (f g : Face) (k : Shutter) :
    (s.releaseShutter f k).face g = s.face g := State.face_of_faces (by simp) g
@[simp] theorem State.releaseDriven_face (s : State) (f g : Face) : (s.releaseDriven f).face g = s.face g :=
  State.face_of_faces (by simp) g
@[simp] theorem State.pullChannel_face (s : State) (f g : Face) (k : Shutter) :
    (s.pullChannel f k).face g = s.face g := State.face_of_faces (by simp) g
@[simp] theorem State.reportLamp_face (s : State) (f g : Face) (x : ChannelFault) :
    (s.reportLamp f x).face g = s.face g := State.face_of_faces (by simp) g
@[simp] theorem State.lampOff_face (s : State) (f g : Face) : (s.lampOff f).face g = s.face g :=
  State.face_of_faces (by simp) g

/-! ### Channels and details after another operation -/

@[simp] theorem State.setFace_details (s : State) (f g : Face) (r : FaceRecord) :
    (s.setFace f r).details g = s.details g := by cases f <;> cases g <;> rfl
@[simp] theorem State.setChannels_details (s : State) (f g : Face) (c : FaceChannels) :
    (s.setChannels f c).details g = s.details g := by cases f <;> cases g <;> rfl
@[simp] theorem State.setShutter_details (s : State) (f g : Face) (k : Shutter) (c : ShutterChannel) :
    (s.setShutter f k c).details g = s.details g := State.setChannels_details s f g _
@[simp] theorem State.setLamp_details (s : State) (f g : Face) (c : LampChannel) :
    (s.setLamp f c).details g = s.details g := State.setChannels_details s f g _
@[simp] theorem State.latch_details (s : State) (c : FaultClass) (g : Face) : (s.latch c).details g = s.details g := by
  cases g <;> rfl
@[simp] theorem State.latch_channels (s : State) (c : FaultClass) (g : Face) : (s.latch c).channels g = s.channels g := by
  cases g <;> rfl
@[simp] theorem State.setDetails_channels (s : State) (f g : Face) (d : FaceDetails) :
    (s.setDetails f d).channels g = s.channels g := State.channels_of_elem (by simp) g
@[simp] theorem State.setDetails_details (s : State) (f : Face) (d : FaceDetails) : (s.setDetails f d).details f = d := by
  cases f <;> rfl
@[simp] theorem FaceDetails.setShutter_shutter (d : FaceDetails) (k : Shutter) (x : FaultDetail) :
    (d.setShutter k x).shutter k = x := by cases k <;> rfl

/-! ### Two updates of one record, and the order of updates -/

@[simp] theorem State.setFace_setFace (s : State) (f : Face) (r q : FaceRecord) :
    (s.setFace f r).setFace f q = s.setFace f q := by cases f <;> rfl
@[simp] theorem State.setFace_self (s : State) (f : Face) : s.setFace f (s.face f) = s := by cases f <;> rfl
@[simp] theorem State.setChannels_setChannels (s : State) (f : Face) (c d : FaceChannels) :
    (s.setChannels f c).setChannels f d = s.setChannels f d := by cases f <;> rfl
@[simp] theorem State.setChannels_self (s : State) (f : Face) : s.setChannels f (s.channels f) = s := by
  cases f <;> rfl
@[simp] theorem FaceChannels.setShutter_setShutter (c : FaceChannels) (k : Shutter) (x y : ShutterChannel) :
    (c.setShutter k x).setShutter k y = c.setShutter k y := by cases k <;> rfl
@[simp] theorem FaceChannels.setShutter_self (c : FaceChannels) (k : Shutter) : c.setShutter k (c.shutter k) = c := by
  cases k <;> rfl
@[simp] theorem State.setShutter_setShutter (s : State) (f : Face) (k : Shutter) (c d : ShutterChannel) :
    (s.setShutter f k c).setShutter f k d = s.setShutter f k d := by simp [State.setShutter]
@[simp] theorem State.setShutter_self (s : State) (f : Face) (k : Shutter) : s.setShutter f k (s.shutter f k) = s := by
  simp [State.setShutter, State.shutter]
@[simp] theorem State.setLamp_setLamp (s : State) (f : Face) (c d : LampChannel) :
    (s.setLamp f c).setLamp f d = s.setLamp f d := by simp [State.setLamp]
@[simp] theorem State.setLamp_self (s : State) (f : Face) : s.setLamp f (s.lamp f) = s :=
  State.setChannels_self s f

/-- A face's record is written after its channels, its details and the latches: the one order in which the proofs write a
state. -/
@[simp] theorem State.setFace_setChannels (s : State) (f g : Face) (r : FaceRecord) (c : FaceChannels) :
    (s.setFace f r).setChannels g c = (s.setChannels g c).setFace f r := by cases f <;> cases g <;> rfl
@[simp] theorem State.setFace_setDetails (s : State) (f g : Face) (r : FaceRecord) (d : FaceDetails) :
    (s.setFace f r).setDetails g d = (s.setDetails g d).setFace f r := by cases f <;> cases g <;> rfl
@[simp] theorem State.setFace_latch (s : State) (f : Face) (r : FaceRecord) (c : FaultClass) :
    (s.setFace f r).latch c = (s.latch c).setFace f r := by cases f <;> rfl
@[simp] theorem State.setFace_setShutter (s : State) (f g : Face) (k : Shutter) (r : FaceRecord) (c : ShutterChannel) :
    (s.setFace f r).setShutter g k c = (s.setShutter g k c).setFace f r := by simp [State.setShutter]
@[simp] theorem State.setFace_setLamp (s : State) (f g : Face) (r : FaceRecord) (c : LampChannel) :
    (s.setFace f r).setLamp g c = (s.setLamp g c).setFace f r := by simp [State.setLamp]
@[simp] theorem State.setFace_releaseShutter (s : State) (f g : Face) (k : Shutter) (r : FaceRecord) :
    (s.setFace f r).releaseShutter g k = (s.releaseShutter g k).setFace f r := by simp [State.releaseShutter]
@[simp] theorem State.setFace_releaseDriven (s : State) (f g : Face) (r : FaceRecord) :
    (s.setFace f r).releaseDriven g = (s.releaseDriven g).setFace f r := by simp [State.releaseDriven]
@[simp] theorem State.setFace_lampOff (s : State) (f g : Face) (r : FaceRecord) :
    (s.setFace f r).lampOff g = (s.lampOff g).setFace f r := by simp [State.lampOff]
@[simp] theorem State.setFace_reportShutter (s : State) (f g : Face) (k : Shutter) (r : FaceRecord) (x : ChannelFault) :
    (s.setFace f r).reportShutter g k x = (s.reportShutter g k x).setFace f r := by simp [State.reportShutter]
@[simp] theorem State.setFace_reportLamp (s : State) (f g : Face) (r : FaceRecord) (x : ChannelFault) :
    (s.setFace f r).reportLamp g x = (s.reportLamp g x).setFace f r := by simp [State.reportLamp]
@[simp] theorem State.setFace_pullChannel (s : State) (f g : Face) (k : Shutter) (r : FaceRecord) :
    (s.setFace f r).pullChannel g k = (s.pullChannel g k).setFace f r := by
  unfold State.pullChannel; simp only [State.setFace_sup]; split <;> simp

/-! ### Reading the channels -/

theorem FaceChannels.setShutter_shutter_ne (c : FaceChannels) {k j : Shutter} (x : ShutterChannel) (h : j ≠ k) :
    (c.setShutter k x).shutter j = c.shutter j := by
  cases k <;> cases j <;> simp_all [FaceChannels.setShutter, FaceChannels.shutter]

theorem State.setShutter_shutter_ne (s : State) (f : Face) {k j : Shutter} (c : ShutterChannel) (h : j ≠ k) :
    (s.setShutter f k c).shutter f j = s.shutter f j := by
  simp [State.setShutter, State.shutter, FaceChannels.setShutter_shutter_ne _ _ h]

theorem State.setShutter_shutter_other (s : State) (f : Face) (k j : Shutter) (c : ShutterChannel) :
    (s.setShutter f k c).shutter (otherFace f) j = s.shutter (otherFace f) j := by
  simp [State.setShutter, State.shutter]

@[simp] theorem State.setShutter_channels_other (s : State) (f : Face) (k : Shutter) (c : ShutterChannel) :
    (s.setShutter f k c).channels (otherFace f) = s.channels (otherFace f) := by simp [State.setShutter]
@[simp] theorem State.setLamp_channels_other (s : State) (f : Face) (c : LampChannel) :
    (s.setLamp f c).channels (otherFace f) = s.channels (otherFace f) := by simp [State.setLamp]

/-- The shutters of a face: what holds of all of them, and of one of them. -/
theorem FaceChannels.allShutters_iff (c : FaceChannels) (g : ShutterChannel → Bool) :
    c.allShutters g = true ↔ ∀ k, g (c.shutter k) = true := by
  simp only [FaceChannels.allShutters, Bool.and_eq_true]
  refine ⟨fun ⟨⟨⟨h1, h2⟩, h3⟩, h4⟩ k => ?_, fun h => ⟨⟨⟨h .mask, h .arrow⟩, h .diagL⟩, h .diagR⟩⟩
  cases k <;> assumption

theorem FaceChannels.anyShutter_iff (c : FaceChannels) (g : ShutterChannel → Bool) :
    c.anyShutter g = true ↔ ∃ k, g (c.shutter k) = true := by
  simp only [FaceChannels.anyShutter, Bool.or_eq_true]
  constructor
  · rintro (((h | h) | h) | h)
    exacts [⟨.mask, h⟩, ⟨.arrow, h⟩, ⟨.diagL, h⟩, ⟨.diagR, h⟩]
  · rintro ⟨k, h⟩
    cases k
    exacts [.inl (.inl (.inl h)), .inl (.inl (.inr h)), .inl (.inr h), .inr h]

theorem State.quiet_iff (s : State) (f : Face) : s.quiet f = true ↔ ∀ k, (s.shutter f k).active = false := by
  simp [State.quiet, FaceChannels.allShutters_iff, State.shutter]

theorem State.quiet_eq_false_iff (s : State) (f : Face) :
    s.quiet f = false ↔ ∃ k, (s.shutter f k).active = true := by
  rw [← Bool.not_eq_true, State.quiet_iff]
  simp

theorem State.allOff_iff (s : State) (f : Face) : s.allOff f = true ↔ ∀ k, (s.shutter f k).state = .off := by
  simp [State.allOff, FaceChannels.allShutters_iff, State.shutter]

theorem State.anyDriven_iff (s : State) (f : Face) : s.anyDriven f = true ↔ ∃ k, (s.shutter f k).driven = true := by
  simp [State.anyDriven, FaceChannels.anyShutter_iff, State.shutter]

theorem State.anyDriven_eq_false_iff (s : State) (f : Face) :
    s.anyDriven f = false ↔ ∀ k, (s.shutter f k).driven = false := by
  rw [← Bool.not_eq_true, State.anyDriven_iff]
  simp

theorem State.anyBlocked_iff (s : State) (f : Face) :
    s.anyBlocked f = true ↔ ∃ k, (s.shutter f k).state = .blocked := by
  simp [State.anyBlocked, FaceChannels.anyShutter_iff, State.shutter]

theorem State.anyNotDropped_iff (s : State) (f : Face) : s.anyNotDropped f = true ↔
    ∃ k, (s.shutter f k).state = .blocked ∧ (s.shutter f k).lastFault = .notDropped := by
  simp [State.anyNotDropped, FaceChannels.anyShutter_iff, State.shutter]

/-- A shutter is active in PULLING, HOLDING and RELEASING, and driven in the first two. -/
theorem ShutterChannel.active_iff (c : ShutterChannel) :
    c.active = true ↔ c.state = .pulling ∨ c.state = .holding ∨ c.state = .releasing := by
  simp [ShutterChannel.active, or_assoc]

theorem ShutterChannel.driven_iff (c : ShutterChannel) :
    c.driven = true ↔ c.state = .pulling ∨ c.state = .holding := by simp [ShutterChannel.driven]

theorem ShutterChannel.active_of_driven {c : ShutterChannel} (h : c.driven = true) : c.active = true := by
  rw [ShutterChannel.driven_iff] at h
  exact c.active_iff.mpr (h.imp_right .inl)

/-- The tests over a face's shutters read its channels alone. -/
theorem State.quiet_congr {s t : State} {f : Face} (h : t.channels f = s.channels f) : t.quiet f = s.quiet f := by
  simp [State.quiet, h]
theorem State.allOff_congr {s t : State} {f : Face} (h : t.channels f = s.channels f) : t.allOff f = s.allOff f := by
  simp [State.allOff, h]
theorem State.anyDriven_congr {s t : State} {f : Face} (h : t.channels f = s.channels f) :
    t.anyDriven f = s.anyDriven f := by simp [State.anyDriven, h]
theorem State.anyBlocked_congr {s t : State} {f : Face} (h : t.channels f = s.channels f) :
    t.anyBlocked f = s.anyBlocked f := by simp [State.anyBlocked, h]
theorem State.anyNotDropped_congr {s t : State} {f : Face} (h : t.channels f = s.channels f) :
    t.anyNotDropped f = s.anyNotDropped f := by simp [State.anyNotDropped, h]

@[simp] theorem State.setFace_quiet (s : State) (f g : Face) (r : FaceRecord) : (s.setFace f r).quiet g = s.quiet g :=
  State.quiet_congr (by simp)
@[simp] theorem State.setFace_allOff (s : State) (f g : Face) (r : FaceRecord) : (s.setFace f r).allOff g = s.allOff g :=
  State.allOff_congr (by simp)
@[simp] theorem State.setFace_anyDriven (s : State) (f g : Face) (r : FaceRecord) :
    (s.setFace f r).anyDriven g = s.anyDriven g := State.anyDriven_congr (by simp)
@[simp] theorem State.setFace_anyBlocked (s : State) (f g : Face) (r : FaceRecord) :
    (s.setFace f r).anyBlocked g = s.anyBlocked g := State.anyBlocked_congr (by simp)
@[simp] theorem State.setFace_anyNotDropped (s : State) (f g : Face) (r : FaceRecord) :
    (s.setFace f r).anyNotDropped g = s.anyNotDropped g := State.anyNotDropped_congr (by simp)

/-- A face with every shutter OFF is quiet, and a quiet face with none BLOCKED has every shutter OFF. -/
theorem State.quiet_of_allOff {s : State} {f : Face} (h : s.allOff f = true) : s.quiet f = true := by
  rw [State.allOff_iff] at h
  exact (s.quiet_iff f).mpr fun k => by simp [ShutterChannel.active, h k]

theorem State.allOff_of_anyBlocked {s : State} {f : Face} (h : s.anyBlocked f = true) : s.allOff f = false := by
  rw [State.anyBlocked_iff] at h
  obtain ⟨k, hk⟩ := h
  rw [← Bool.not_eq_true, State.allOff_iff]
  exact fun ho => by simp [ho k] at hk

theorem State.anyDriven_of_quiet {s : State} {f : Face} (h : s.quiet f = true) : s.anyDriven f = false := by
  rw [State.quiet_iff] at h
  rw [State.anyDriven_eq_false_iff]
  intro k
  cases hd : (s.shutter f k).driven with
  | false => rfl
  | true => exact absurd (ShutterChannel.active_of_driven hd) (by simp [h k])

/-- A shutter that is written keeps the others' part in the test. -/
theorem State.quiet_setShutter_iff (s : State) (f : Face) (k : Shutter) (c : ShutterChannel) :
    (s.setShutter f k c).quiet f = true ↔ c.active = false ∧ ∀ j, j ≠ k → (s.shutter f j).active = false := by
  rw [State.quiet_iff]
  constructor
  · intro h
    refine ⟨by simpa using h k, fun j hj => ?_⟩
    rw [← State.setShutter_shutter_ne s f c hj]; exact h j
  · rintro ⟨hc, h⟩ j
    by_cases hj : j = k
    · subst hj; simpa using hc
    · rw [State.setShutter_shutter_ne s f c hj]; exact h j hj

theorem State.quiet_of_active {s : State} {f : Face} {k : Shutter} (h : (s.shutter f k).active = true) :
    s.quiet f = false := (s.quiet_eq_false_iff f).mpr ⟨k, h⟩

/-! ### Releases, R28, R32 -/

/-- A release on a driven shutter, R28, R32. -/
theorem ShutterChannel.release_driven {c : ShutterChannel} (h : c.driven = true) (p : ShutterParams) :
    c.release p = (.taken, { c with
      state := .releasing, peak := none, timer := some p.settle, movedSeen := c.movedSeen && c.state == .holding }) := by
  obtain ⟨state, fault, measured, seen, peak, timer⟩ := c
  cases state <;> simp_all [ShutterChannel.driven, ShutterChannel.release, ShutterChannel.letGo]

/-- A release on any other shutter, R28. -/
theorem ShutterChannel.release_still {c : ShutterChannel} (h : c.driven = false) (p : ShutterParams) :
    c.release p = (.noEffect, c) := by
  cases hc : c.state <;> simp_all [ShutterChannel.driven, ShutterChannel.release]

theorem ShutterChannel.release_active (c : ShutterChannel) (p : ShutterParams) : (c.release p).2.active = c.active := by
  cases hc : c.state <;> simp [ShutterChannel.active, ShutterChannel.release, ShutterChannel.letGo, hc]

theorem ShutterChannel.release_not_driven (c : ShutterChannel) (p : ShutterParams) : (c.release p).2.driven = false := by
  cases hc : c.state <;> simp [ShutterChannel.driven, ShutterChannel.release, ShutterChannel.letGo, hc]

theorem ShutterChannel.release_lastFault (c : ShutterChannel) (p : ShutterParams) :
    (c.release p).2.lastFault = c.lastFault := by
  cases hc : c.state <;> simp [ShutterChannel.release, ShutterChannel.letGo, hc]

theorem ShutterChannel.release_blocked (c : ShutterChannel) (p : ShutterParams) :
    (c.release p).2.state = .blocked ↔ c.state = .blocked := by
  cases hc : c.state <;> simp [ShutterChannel.release, ShutterChannel.letGo, hc]

@[simp] theorem State.releaseDriven_shutter (s : State) (f : Face) (k : Shutter) :
    (s.releaseDriven f).shutter f k = ((s.shutter f k).release ((s.config f).params k)).2 := by
  cases k <;> simp [State.releaseDriven, State.shutter, FaceChannels.mapShutters, FaceChannels.shutter]
@[simp] theorem State.releaseDriven_channels_other (s : State) (f : Face) :
    (s.releaseDriven f).channels (otherFace f) = s.channels (otherFace f) := by simp [State.releaseDriven]
@[simp] theorem State.releaseDriven_lamp (s : State) (f : Face) : (s.releaseDriven f).lamp f = s.lamp f := by
  simp [State.releaseDriven, State.lamp, FaceChannels.mapShutters]
@[simp] theorem State.releaseDriven_details (s : State) (f g : Face) : (s.releaseDriven f).details g = s.details g := by
  simp [State.releaseDriven]

/-- The releases leave every shutter as active as it was, and none driven. -/
@[simp] theorem State.releaseDriven_quiet (s : State) (f : Face) : (s.releaseDriven f).quiet f = s.quiet f := by
  rw [Bool.eq_iff_iff, State.quiet_iff, State.quiet_iff]
  simp [ShutterChannel.release_active]

@[simp] theorem State.releaseDriven_anyDriven (s : State) (f : Face) : (s.releaseDriven f).anyDriven f = false := by
  rw [State.anyDriven_eq_false_iff]
  simp [ShutterChannel.release_not_driven]

@[simp] theorem State.releaseDriven_anyNotDropped (s : State) (f : Face) :
    (s.releaseDriven f).anyNotDropped f = s.anyNotDropped f := by
  rw [Bool.eq_iff_iff, State.anyNotDropped_iff, State.anyNotDropped_iff]
  simp [ShutterChannel.release_blocked, ShutterChannel.release_lastFault]

/-- On a face with no driven shutter there is nothing to release. -/
theorem State.releaseDriven_still {s : State} {f : Face} (h : s.anyDriven f = false) : s.releaseDriven f = s := by
  rw [State.anyDriven_eq_false_iff] at h
  have hk : ∀ k, ((s.channels f).shutter k).release ((s.config f).params k) = (.noEffect, (s.channels f).shutter k) :=
    fun k => ShutterChannel.release_still (h k) _
  have hm : ((s.channels f).mapShutters fun k c => (c.release ((s.config f).params k)).2) = s.channels f := by
    have h1 := hk .mask
    have h2 := hk .arrow
    have h3 := hk .diagL
    have h4 := hk .diagR
    simp only [FaceChannels.shutter] at h1 h2 h3 h4
    simp [FaceChannels.mapShutters, h1, h2, h3, h4]
  rw [State.releaseDriven, hm, State.setChannels_self]

theorem State.releaseDriven_quiet_self {s : State} {f : Face} (h : s.quiet f = true) : s.releaseDriven f = s :=
  State.releaseDriven_still (State.anyDriven_of_quiet h)

/-! ### Reports and the lamp -/

@[simp] theorem State.setLamp_quiet (s : State) (f g : Face) (c : LampChannel) : (s.setLamp f c).quiet g = s.quiet g := by
  rw [Bool.eq_iff_iff, State.quiet_iff, State.quiet_iff]; simp
@[simp] theorem State.setLamp_allOff (s : State) (f g : Face) (c : LampChannel) : (s.setLamp f c).allOff g = s.allOff g := by
  rw [Bool.eq_iff_iff, State.allOff_iff, State.allOff_iff]; simp
@[simp] theorem State.setLamp_anyDriven (s : State) (f g : Face) (c : LampChannel) :
    (s.setLamp f c).anyDriven g = s.anyDriven g := by
  rw [Bool.eq_iff_iff, State.anyDriven_iff, State.anyDriven_iff]; simp
@[simp] theorem State.setLamp_anyBlocked (s : State) (f g : Face) (c : LampChannel) :
    (s.setLamp f c).anyBlocked g = s.anyBlocked g := by
  rw [Bool.eq_iff_iff, State.anyBlocked_iff, State.anyBlocked_iff]; simp
@[simp] theorem State.lampOff_quiet (s : State) (f g : Face) : (s.lampOff f).quiet g = s.quiet g :=
  State.setLamp_quiet s f g _
@[simp] theorem State.lampOff_allOff (s : State) (f g : Face) : (s.lampOff f).allOff g = s.allOff g :=
  State.setLamp_allOff s f g _
@[simp] theorem State.lampOff_anyDriven (s : State) (f g : Face) : (s.lampOff f).anyDriven g = s.anyDriven g :=
  State.setLamp_anyDriven s f g _
@[simp] theorem State.lampOff_anyBlocked (s : State) (f g : Face) : (s.lampOff f).anyBlocked g = s.anyBlocked g :=
  State.setLamp_anyBlocked s f g _
@[simp] theorem State.lampOff_channels_other (s : State) (f : Face) :
    (s.lampOff f).channels (otherFace f) = s.channels (otherFace f) := by simp [State.lampOff]
@[simp] theorem State.lampOff_shutter (s : State) (f g : Face) (k : Shutter) :
    (s.lampOff f).shutter g k = s.shutter g k := by simp [State.lampOff]
@[simp] theorem State.lampOff_details (s : State) (f g : Face) : (s.lampOff f).details g = s.details g := by
  simp [State.lampOff]
@[simp] theorem State.lampOff_lamp (s : State) (f : Face) : (s.lampOff f).lamp f = (s.lamp f).turnOff.2 := by
  simp [State.lampOff]

/-- A shutter's report sets its last fault and leaves the rest of the channels. -/
theorem State.reportShutter_shutter (s : State) (f : Face) (k : Shutter) (x : ChannelFault) :
    (s.reportShutter f k x).shutter f k = { s.shutter f k with lastFault := x } := by
  simp [State.reportShutter, State.shutter, State.setShutter]

/-- The report of a fault that the channel holds already leaves the channels. -/
theorem State.reportShutter_channels {s : State} {f : Face} {k : Shutter} {x : ChannelFault}
    (h : (s.shutter f k).lastFault = x) (g : Face) : (s.reportShutter f k x).channels g = s.channels g := by
  subst h
  have hc : s.setShutter f k { s.shutter f k with lastFault := (s.shutter f k).lastFault } = s :=
    State.setShutter_self s f k
  simp [State.reportShutter, hc]

@[simp] theorem State.reportShutter_channels_other (s : State) (f : Face) (k : Shutter) (x : ChannelFault) :
    (s.reportShutter f k x).channels (otherFace f) = s.channels (otherFace f) := by simp [State.reportShutter]

theorem State.reportShutter_detail (s : State) (f : Face) (k : Shutter) (x : ChannelFault) :
    ((s.reportShutter f k x).details f).shutter k = ((s.details f).shutter k).add x := by
  simp [State.reportShutter]

theorem State.reportShutter_latched (s : State) (f : Face) (k : Shutter) (x : ChannelFault) :
    (s.reportShutter f k x).latched .element = true := State.latch_latched _ _

@[simp] theorem State.reportLamp_channels_other (s : State) (f : Face) (x : ChannelFault) :
    (s.reportLamp f x).channels (otherFace f) = s.channels (otherFace f) := by simp [State.reportLamp]
@[simp] theorem State.reportLamp_quiet (s : State) (f g : Face) (x : ChannelFault) :
    (s.reportLamp f x).quiet g = s.quiet g := by
  rw [← State.setLamp_quiet s f g { s.lamp f with lastFault := x }]
  exact State.quiet_congr (by simp [State.reportLamp])
@[simp] theorem State.reportLamp_anyDriven (s : State) (f g : Face) (x : ChannelFault) :
    (s.reportLamp f x).anyDriven g = s.anyDriven g := by
  rw [← State.setLamp_anyDriven s f g { s.lamp f with lastFault := x }]
  exact State.anyDriven_congr (by simp [State.reportLamp])

theorem State.reportLamp_lamp (s : State) (f : Face) (x : ChannelFault) :
    (s.reportLamp f x).lamp f = { s.lamp f with lastFault := x } := by
  simp [State.reportLamp, State.lamp, State.setLamp]

theorem State.reportLamp_detail (s : State) (f : Face) (x : ChannelFault) :
    ((s.reportLamp f x).details f).lamp = (s.details f).lamp.add x := by simp [State.reportLamp]

theorem State.reportLamp_latched (s : State) (f : Face) (x : ChannelFault) :
    (s.reportLamp f x).latched .lamp = true := State.latch_latched _ _

end Sys2Proof.Machine
end

section
/-! SUPPORT. The face record under the face controller (R4, R5, R9): which updates of one record keep it sound and make it no
more permissive, and the same of every operation on the whole node. -/

namespace Sys2Proof.Machine

/-! ### A sound record, state by state -/

/-- A STEADY record is sound when it is in no change, has its aspect's envelope, and waits for a relight on DARK alone. -/
theorem FaceRecord.sound_steady {r : FaceRecord} (h : r.state = .steady) :
    r.sound = true ↔ r.change = none ∧ r.env = steadyEnv r.shown ∧ (r.relightAwaited = true → r.shown = .dark) ∧
      (r.testedWait = true → r.relightAwaited = true) := by
  obtain ⟨shown, state, env, change, pending, latch, lost, target, wait, test⟩ := r
  subst h
  cases change <;> cases wait <;> cases test <;> simp [FaceRecord.sound, FaceRecord.steadyDark]

/-- A CHANGING record is sound when it is in a legal change from the aspect it shows, with that change's envelope. -/
theorem FaceRecord.sound_changing {r : FaceRecord} (h : r.state = .changing) :
    r.sound = true ↔ (∃ c, r.change = some c ∧ r.env = changeEnv c.src c.dst ∧ c.src = r.shown ∧ c.legal = true) ∧
      r.relightAwaited = false ∧ r.testedWait = false := by
  obtain ⟨shown, state, env, change, pending, latch, lost, target, wait, test⟩ := r
  subst h
  cases change <;> cases wait <;> cases test <;> simp [FaceRecord.sound, FaceRecord.steadyDark, and_assoc]

/-- A RETURNING record is sound when it shows a ranked aspect, is in no change and has an envelope up to CLOSED. -/
theorem FaceRecord.sound_returning {r : FaceRecord} (h : r.state = .returning) :
    r.sound = true ↔ (r.change = none ∧ r.env.ceiling = 2 ∧ r.env.floor ≤ 2 ∧ r.shown ≠ .dark) ∧
      r.relightAwaited = false ∧ r.testedWait = false := by
  obtain ⟨shown, state, env, change, pending, latch, lost, target, wait, test⟩ := r
  subst h
  cases change <;> cases wait <;> cases test <;> simp [FaceRecord.sound, FaceRecord.steadyDark, and_assoc]

/-- A sound face that shows a ranked aspect awaits no relight. -/
theorem FaceRecord.no_wait_of_ranked {r : FaceRecord} (hr : r.sound = true) (hd : r.shown ≠ .dark) :
    r.relightAwaited = false ∧ r.testedWait = false := by
  cases h : r.state with
  | steady =>
    obtain ⟨-, -, hw, ht⟩ := (FaceRecord.sound_steady h).mp hr
    have hw' : r.relightAwaited = false := by simpa using mt hw hd
    exact ⟨hw', by simpa [hw'] using ht⟩
  | changing => exact ((FaceRecord.sound_changing h).mp hr).2
  | returning => exact ((FaceRecord.sound_returning h).mp hr).2

/-- The floor of a sound record is a rank. -/
theorem FaceRecord.floor_le_of_sound {r : FaceRecord} (hr : r.sound = true) : r.env.floor ≤ 2 := by
  cases h : r.state with
  | steady =>
    obtain ⟨-, he, -⟩ := (FaceRecord.sound_steady h).mp hr
    rw [he]; cases r.shown <;> decide
  | changing =>
    obtain ⟨⟨c, -, he, -⟩, -⟩ := (FaceRecord.sound_changing h).mp hr
    rw [he]; cases c.src <;> cases c.dst <;> decide
  | returning => exact ((FaceRecord.sound_returning h).mp hr).1.2.2.1

/-- A face in no change is permissive by the aspect it shows. -/
theorem FaceRecord.permissive_of_no_change {r : FaceRecord} (h : r.change = none) :
    r.permissive = r.shown.permissive := by simp [FaceRecord.permissive, h]

/-- A face that shows a permissive aspect is permissive. -/
theorem FaceRecord.permissive_of_shown {r : FaceRecord} (h : r.shown.permissive = true) : r.permissive = true := by
  simp [FaceRecord.permissive, h]

/-- A sound face STEADY on CLOSED is not permissive. -/
theorem FaceRecord.not_permissive_of_steadyClosed {r : FaceRecord} (hr : r.sound = true) (h : r.steadyClosed = true) :
    r.permissive = false := by
  simp only [FaceRecord.steadyClosed, Bool.and_eq_true, beq_iff_eq] at h
  rw [FaceRecord.permissive_of_no_change ((FaceRecord.sound_steady h.1).mp hr).1, h.2]
  rfl

/-- The rank of a ranked aspect is at most that of CLOSED. -/
theorem FaceRecord.rank_le (r : FaceRecord) : r.rank ≤ 2 := by
  unfold FaceRecord.rank; cases r.shown <;> decide

/-! ### Updates of one record -/

/-- What soundness and R9's law read of a record. -/
def FaceRecord.core (r : FaceRecord) : Aspect × FaceState × Envelope × Option Change × Bool × Bool :=
  (r.shown, r.state, r.env, r.change, r.relightAwaited, r.testedWait)

/-- A sound record is followed by a sound one that is permissive only if it was. -/
def FaceRecord.Tame (r q : FaceRecord) : Prop :=
  r.sound = true → q.sound = true ∧ (q.permissive = true → r.permissive = true)

/-- An update of the pending target, the latches or the current target is tame. -/
theorem FaceRecord.tame_of_core {r q : FaceRecord} (h : q.core = r.core) : r.Tame q := by
  obtain ⟨⟩ := r
  obtain ⟨⟩ := q
  simp only [FaceRecord.core, Prod.mk.injEq] at h
  obtain ⟨rfl, rfl, rfl, rfl, rfl, rfl⟩ := h
  exact fun h => ⟨h, id⟩

theorem FaceRecord.tame_latchElement (r : FaceRecord) : r.Tame r.latchElement := by
  apply FaceRecord.tame_of_core; unfold FaceRecord.latchElement; split <;> rfl

/-- A lamp fault leaves any record sound and not permissive, R19. -/
theorem FaceRecord.tame_darken (r : FaceRecord) : r.Tame r.darken :=
  fun _ => ⟨rfl, fun h => absurd h (by simp [FaceRecord.darken, FaceRecord.permissive, Aspect.permissive])⟩

theorem FaceRecord.tame_stayDark (r : FaceRecord) : r.Tame r.stayDark := by
  intro h
  refine ⟨?_, id⟩
  simp only [FaceRecord.sound, FaceRecord.stayDark, Bool.and_eq_true] at h ⊢
  simp [h.1.1]

/-- The start of a return, R16, R18. -/
theorem FaceRecord.tame_toReturning {r : FaceRecord} {floor : Nat} (hf : floor ≤ 2) (hd : r.shown ≠ .dark) :
    r.Tame (r.toReturning floor) := by
  intro h
  have hw := FaceRecord.no_wait_of_ranked h hd
  refine ⟨(FaceRecord.sound_returning rfl).mpr ⟨⟨rfl, rfl, hf, hd⟩, hw⟩, fun hp => ?_⟩
  rw [FaceRecord.permissive_of_no_change rfl] at hp
  exact FaceRecord.permissive_of_shown hp

/-- The two ends of a return, R17. -/
theorem FaceRecord.tame_returnDark {r : FaceRecord} (hs : r.state = .returning) : r.Tame r.returnDark := by
  intro h
  obtain ⟨⟨hc, -⟩, hw, ht⟩ := (FaceRecord.sound_returning hs).mp h
  have hc' : r.returnDark.change = none := hc
  refine ⟨(FaceRecord.sound_steady rfl).mpr ⟨hc, rfl, fun _ => rfl, fun h => ?_⟩, fun hp => ?_⟩
  · exact absurd (ht.symm.trans h) (by decide)
  · rw [FaceRecord.permissive_of_no_change hc'] at hp
    exact Bool.noConfusion hp

theorem FaceRecord.returnClosed_eq (r : FaceRecord) :
    r.returnClosed = { r with
      shown := .closed, state := .steady, env := ⟨2, 2⟩
      pending := if r.latch = .none then r.pending else r.pending.map fun p => { p with reason := .fault } } := by
  unfold FaceRecord.returnClosed; split <;> rfl

theorem FaceRecord.tame_returnClosed {r : FaceRecord} (hs : r.state = .returning) : r.Tame r.returnClosed := by
  intro h
  obtain ⟨⟨hc, -⟩, hw, ht⟩ := (FaceRecord.sound_returning hs).mp h
  have hc' : r.returnClosed.change = none := by rw [FaceRecord.returnClosed_eq]; exact hc
  refine ⟨?_, fun hp => ?_⟩
  · rw [FaceRecord.returnClosed_eq]
    exact (FaceRecord.sound_steady rfl).mpr ⟨hc, rfl, by simp [hw], by simp [ht]⟩
  · rw [FaceRecord.permissive_of_no_change hc', FaceRecord.returnClosed_eq] at hp
    exact Bool.noConfusion hp

/-- A change completes on its destination, R15. -/
theorem FaceRecord.tame_settleOn {r : FaceRecord} {c : Change} (hs : r.state = .changing) (hc : r.change = some c) :
    r.Tame (r.settleOn c.dst) := by
  intro h
  obtain ⟨-, hw, ht⟩ := (FaceRecord.sound_changing hs).mp h
  refine ⟨(FaceRecord.sound_steady rfl).mpr ⟨rfl, rfl, ?_, ?_⟩, fun hp => ?_⟩
  · simp [FaceRecord.settleOn, hw]
  · simp [FaceRecord.settleOn, ht]
  · rw [FaceRecord.permissive_of_no_change rfl] at hp
    have hp' : c.dst.permissive = true := hp
    simp [FaceRecord.permissive, hc, hp']

/-- The step field of a change plays no part in soundness, R10-R12. -/
theorem FaceRecord.tame_stepTwo (r : FaceRecord) : r.Tame r.stepTwo := by
  intro h
  cases hc : r.change with
  | none => exact FaceRecord.tame_of_core (by simp [FaceRecord.core, FaceRecord.stepTwo, hc]) h
  | some c =>
    cases hs : r.state with
    | changing =>
      obtain ⟨⟨d, hd, he, hsrc, hl⟩, hw⟩ := (FaceRecord.sound_changing hs).mp h
      obtain rfl : c = d := by simpa [hc] using hd
      refine ⟨(FaceRecord.sound_changing (r := r.stepTwo) hs).mpr
        ⟨⟨{ c with phase := .two }, by simp [FaceRecord.stepTwo, hc], he, hsrc, hl⟩, hw⟩, fun hp => ?_⟩
      simpa [FaceRecord.permissive, FaceRecord.stepTwo, hc] using hp
    | steady => simp [FaceRecord.sound, hs, hc] at h
    | returning => simp [FaceRecord.sound, hs, hc] at h

/-- A change placed on a STEADY ranked face leaves a sound record, R9. -/
theorem FaceRecord.sound_place {r : FaceRecord} {dst : Aspect} (h : r.sound = true) (hd : r.shown ≠ .dark)
    (hne : r.shown ≠ dst) : (r.place dst).sound = true := by
  have hw := FaceRecord.no_wait_of_ranked h hd
  exact (FaceRecord.sound_changing rfl).mpr ⟨⟨_, rfl, rfl, rfl, by simp [Change.legal, hd, hne]⟩, hw⟩

theorem FaceRecord.permissive_place (r : FaceRecord) (dst : Aspect) :
    (r.place dst).permissive = (r.shown.permissive || dst.permissive) := by
  simp [FaceRecord.permissive, FaceRecord.place]

/-- A change placed on a ranked face is tame where its destination is not permissive or the face shows a permissive
aspect already. -/
theorem FaceRecord.tame_place {r : FaceRecord} {dst : Aspect} (hd : r.shown ≠ .dark) (hne : r.shown ≠ dst)
    (hp : dst.permissive = true → r.shown.permissive = true) : r.Tame (r.place dst) := by
  intro h
  refine ⟨FaceRecord.sound_place h hd hne, fun hq => FaceRecord.permissive_of_shown ?_⟩
  rw [FaceRecord.permissive_place, Bool.or_eq_true] at hq
  exact hq.elim id hp

/-- The change of R14 placed on a DARK face. -/
theorem FaceRecord.tame_relight {r : FaceRecord} (hd : r.shown = .dark) :
    r.Tame { r.place .closed with relightAwaited := false, testedWait := false } := by
  intro _
  refine ⟨(FaceRecord.sound_changing rfl).mpr ⟨⟨_, rfl, rfl, rfl, by simp [Change.legal, hd]⟩, rfl, rfl⟩, fun h => ?_⟩
  simp [FaceRecord.permissive, FaceRecord.place, hd, Aspect.permissive] at h

/-! ### Operations on the node -/

theorem State.facesSound_iff (s : State) : s.facesSound = true ↔ ∀ f, (s.face f).sound = true := by
  simp only [State.facesSound, Bool.and_eq_true]
  exact ⟨fun h f => by cases f; exacts [h.1, h.2], fun h => ⟨h .e, h .w⟩⟩

theorem State.oneWay_iff (s : State) :
    s.oneWay = true ↔ ∀ f, (s.face f).permissive = true → (s.face (otherFace f)).permissive = false := by
  have hn : s.oneWay = true ↔ (s.faces.e.permissive = true → s.faces.w.permissive = false) := by
    unfold State.oneWay
    cases s.faces.e.permissive <;> cases s.faces.w.permissive <;> decide
  rw [hn]
  refine ⟨fun h f hf => ?_, fun h => h .e⟩
  cases f with
  | e => exact h hf
  | w =>
    cases he : s.faces.e.permissive with
    | false => exact he
    | true => exact absurd (h he) (by simpa [State.face] using hf)

/-- From sound face records an operation leads to sound ones, and makes no face permissive. -/
def State.Tame (s t : State) : Prop :=
  s.facesSound = true → t.facesSound = true ∧ ∀ f, (t.face f).permissive = true → (s.face f).permissive = true

/-- Both face records are sound and at most one face is permissive, R9. -/
def State.Safe (s : State) : Prop := s.facesSound = true ∧ s.oneWay = true

theorem State.Tame.of_faces {s t : State} (h : t.faces = s.faces) : s.Tame t := by
  intro hs
  refine ⟨by simpa [State.facesSound, h] using hs, fun f => by rw [State.face_of_faces h]; exact id⟩

theorem State.Tame.refl (s : State) : s.Tame s := .of_faces rfl

theorem State.Tame.trans {s t u : State} (h : s.Tame t) (h' : t.Tame u) : s.Tame u := by
  intro hs
  obtain ⟨ht, hp⟩ := h hs
  obtain ⟨hu, hq⟩ := h' ht
  exact ⟨hu, fun f hf => hp f (hq f hf)⟩

/-- An operation is tame if it is so from sound records. -/
theorem State.Tame.of_sound {s t : State} (h : (∀ f, (s.face f).sound = true) → s.Tame t) : s.Tame t :=
  fun hs => h (s.facesSound_iff.mp hs) hs

theorem State.Tame.setFace {s : State} {f : Face} {r : FaceRecord} (h : (s.face f).Tame r) : s.Tame (s.setFace f r) := by
  intro hs
  rw [State.facesSound_iff] at hs ⊢
  have key : ∀ g, ((s.setFace f r).face g).sound = true ∧
      (((s.setFace f r).face g).permissive = true → (s.face g).permissive = true) := by
    intro g
    by_cases hg : g = f
    · subst hg; simpa using h (hs g)
    · rw [eq_otherFace_of_ne hg]; simpa using hs _
  exact ⟨fun g => (key g).1, fun g => (key g).2⟩

theorem State.Tame.safe {s t : State} (h : s.Tame t) (hs : s.Safe) : t.Safe := by
  obtain ⟨hsound, hone⟩ := hs
  obtain ⟨ht, hp⟩ := h hsound
  rw [State.oneWay_iff] at hone
  refine ⟨ht, t.oneWay_iff.mpr fun f hf => ?_⟩
  cases hg : (t.face (otherFace f)).permissive with
  | false => rfl
  | true => exact absurd (hp _ hg) (by simp [hone f (hp f hf)])

/-- A later state with the same face records. -/
theorem State.Tame.then_faces {s t u : State} (h : s.Tame t) (hu : u.faces = t.faces) : s.Tame u := h.trans (.of_faces hu)

/-! Returns and faults, R16-R19. -/

theorem State.returnTest_tame (s : State) (f : Face) : s.Tame (s.returnTest f) := by
  unfold State.returnTest State.endReturn
  split
  case isFalse => exact .refl s
  case isTrue h =>
    have hs : (s.face f).state = .returning := by simp_all
    split
    · exact (State.Tame.of_faces (t := s.lampOff f) (by simp)).trans
        (.setFace (by rw [State.face_of_faces (s := s) (by simp)]; exact FaceRecord.tame_returnDark hs))
    · exact .setFace (FaceRecord.tame_returnClosed hs)

theorem State.startReturn_tame {s : State} {f : Face} {floor : Nat} (hf : floor ≤ 2) (hd : (s.face f).shown ≠ .dark) :
    s.Tame (s.startReturn f floor) :=
  ((State.Tame.setFace (FaceRecord.tame_toReturning hf hd)).then_faces (State.releaseDriven_faces _ f)).trans
    (State.returnTest_tame _ f)

/-- A sound face in a change that neither starts nor ends DARK shows a ranked aspect. -/
theorem FaceRecord.ranked_of_changing {r : FaceRecord} (hr : r.sound = true) (hs : r.state = .changing)
    (h : r.relighting = false) : r.shown ≠ .dark := by
  obtain ⟨⟨c, hc, -, hsrc, -⟩, -⟩ := (FaceRecord.sound_changing hs).mp hr
  simpa [FaceRecord.relighting, hs, hc, hsrc] using h

theorem Aspect.ranked_of_permissive {a : Aspect} (h : a.permissive = true) : a ≠ .dark := by
  rintro rfl; exact absurd h (by decide)

@[simp] theorem FaceRecord.latchElement_shown (r : FaceRecord) : r.latchElement.shown = r.shown := by
  unfold FaceRecord.latchElement; split <;> rfl

theorem State.elementFault_tame (s : State) (f : Face) : s.Tame (s.elementFault f) := by
  refine .of_sound fun hs => ?_
  have hl := State.Tame.setFace (s := s) (f := f) (FaceRecord.tame_latchElement (s.face f))
  have hr : ∀ floor, floor ≤ 2 → (s.face f).shown ≠ .dark →
      s.Tame ((s.setFace f (s.face f).latchElement).startReturn f floor) :=
    fun floor hf hd => hl.trans (State.startReturn_tame hf (by simpa using hd))
  unfold State.elementFault
  split
  next => exact .refl s
  next hc =>
    split
    · exact .refl s
    · exact hr _ (FaceRecord.floor_le_of_sound (hs f)) (FaceRecord.ranked_of_changing (hs f) hc (by simp_all))
  next =>
    split
    next hp => exact hr _ (FaceRecord.rank_le _) (Aspect.ranked_of_permissive hp)
    next => exact hl

theorem State.lampFault_tame (s : State) (f : Face) : s.Tame (s.lampFault f) :=
  (State.Tame.setFace (FaceRecord.tame_darken _)).then_faces (State.releaseDriven_faces _ f)

/-! Changes into and out of DARK, R13, R14. -/

theorem State.requestPull_tame (s : State) (f : Face) (k : Shutter) : s.Tame (s.requestPull f k) := by
  unfold State.requestPull
  split
  · exact (State.Tame.of_faces (by simp)).trans (State.elementFault_tame _ f)
  · exact .of_faces (by simp)

theorem State.relight_tame {s : State} {f : Face} (hd : (s.face f).shown = .dark) : s.Tame (s.relight f) := by
  have hp := State.Tame.setFace (s := s) (f := f) (FaceRecord.tame_relight hd)
  unfold State.relight
  split
  · exact hp.then_faces (State.setLamp_faces _ f _)
  · exact hp
  · refine hp.trans (.setFace ?_)
    rw [State.setFace_face]
    exact FaceRecord.tame_settleOn (c := ⟨_, .closed, .one⟩) rfl rfl
  · exact (hp.then_faces (State.reportLamp_faces _ f _)).trans (State.lampFault_tame _ f)

theorem FaceRecord.steadyDark_iff (r : FaceRecord) : r.steadyDark = true ↔ r.state = .steady ∧ r.shown = .dark := by
  simp [FaceRecord.steadyDark]

theorem State.relightTest_tame (s : State) (f : Face) : s.Tame (s.relightTest f) := by
  unfold State.relightTest
  split
  case isFalse => exact .refl s
  case isTrue h =>
    split
    · refine State.relight_tame ((FaceRecord.steadyDark_iff _).mp ?_).2
      simp_all
    · exact .setFace (FaceRecord.tame_stayDark _)

/-- The marks of a wait on a STEADY DARK record keep it sound where R39's stands in a wait alone. -/
theorem FaceRecord.tame_await {r : FaceRecord} (h : r.steadyDark = true) {w b : Bool} (hb : b = true → w = true) :
    r.Tame { r with relightAwaited := w, testedWait := b } := by
  obtain ⟨hs, hd⟩ := (FaceRecord.steadyDark_iff r).mp h
  intro hr
  obtain ⟨hc, he, -⟩ := (FaceRecord.sound_steady hs).mp hr
  exact ⟨(FaceRecord.sound_steady (r := { r with relightAwaited := w, testedWait := b }) hs).mpr
    ⟨hc, he, fun _ => hd, hb⟩, id⟩

theorem State.awaitRelight_tame {s : State} {f : Face} (h : (s.face f).steadyDark = true) : s.Tame (s.awaitRelight f) :=
  ((State.Tame.setFace (FaceRecord.tame_await h fun _ => rfl)).then_faces (State.releaseDriven_faces _ f)).trans
    (State.relightTest_tame _ f)

theorem State.beginClose_tame {s : State} {f : Face} (hp : (s.face f).shown.permissive = true) :
    s.Tame (s.beginClose f) := by
  have hne : (s.face f).shown ≠ .closed := by
    intro h; rw [h] at hp; exact Bool.noConfusion hp
  exact (State.Tame.setFace (FaceRecord.tame_place (Aspect.ranked_of_permissive hp) hne fun _ => hp)).then_faces
    (State.releaseShutter_faces _ f _)

theorem State.askClose_tame {s : State} {f : Face} (hs : (s.face f).state = .steady) : s.Tame (s.askClose f) := by
  unfold State.askClose
  split
  next => exact .refl s
  next h => exact State.awaitRelight_tame ((FaceRecord.steadyDark_iff _).mpr ⟨hs, h⟩)
  all_goals next h => exact State.beginClose_tame (by rw [h]; rfl)

theorem State.endingClose_tame (s : State) (f : Face) : s.Tame (s.endingClose f) := by
  unfold State.endingClose
  split
  · exact State.askClose_tame (by simp_all)
  · exact .refl s

theorem State.completeChange_tame {s : State} {f : Face} {c : Change} (hs : (s.face f).state = .changing)
    (hc : (s.face f).change = some c) : s.Tame (s.completeChange f c.dst) :=
  (State.Tame.setFace (FaceRecord.tame_settleOn hs hc)).trans (State.endingClose_tame _ f)

/-- A face that is changing to an aspect has that aspect as its change's destination. -/
theorem FaceRecord.changingTo_iff (r : FaceRecord) (a : Aspect) :
    r.changingTo a = true ↔ r.state = .changing ∧ ∃ c, r.change = some c ∧ c.dst = a := by
  simp [FaceRecord.changingTo, Option.map_eq_some_iff]

theorem State.darkTest_tame (s : State) (f : Face) : s.Tame (s.darkTest f) := by
  unfold State.darkTest
  split
  case isFalse => exact .refl s
  case isTrue h =>
    rw [Bool.and_eq_true, FaceRecord.changingTo_iff] at h
    obtain ⟨⟨hs, c, hc, hd⟩, -⟩ := h
    refine State.Tame.trans ?_ (State.endingClose_tame _ f)
    refine (State.Tame.of_faces (t := s.lampOff f) (by simp)).trans (.setFace ?_)
    rw [State.face_of_faces (s := s) (by simp)]
    have ht := hd ▸ FaceRecord.tame_settleOn hs hc
    intro hr
    split
    · exact ht hr
    · exact ht hr

theorem State.beginDark_tame {s : State} {f : Face} (hd : (s.face f).shown ≠ .dark) : s.Tame (s.beginDark f) :=
  ((State.Tame.setFace (FaceRecord.tame_place hd hd (fun h => Bool.noConfusion h))).then_faces
    (State.releaseDriven_faces _ f)).trans (State.darkTest_tame _ f)

theorem State.channelTests_tame (s : State) (f : Face) : s.Tame (s.channelTests f) :=
  ((State.returnTest_tame s f).trans (State.darkTest_tame _ f)).trans (State.relightTest_tame _ f)

/-! The steps of a change, R10-R12. -/

theorem State.movedStep_tame (s : State) (f : Face) (k : Shutter) : s.Tame (s.movedStep f k) := by
  have h2 : s.Tame (s.setFace f (s.face f).stepTwo) := .setFace (FaceRecord.tame_stepTwo _)
  unfold State.movedStep
  split
  case h_2 => exact .refl s
  case h_1 c hs hc =>
    split
    · split
      · split
        · exact h2.trans (State.requestPull_tame _ f _)
        · exact h2.then_faces (State.releaseShutter_faces _ f _)
      · exact .refl s
    · split
      · exact State.completeChange_tame hs hc
      · exact .refl s

theorem State.droppedStep_tame (s : State) (f : Face) (k : Shutter) : s.Tame (s.droppedStep f k) := by
  unfold State.droppedStep
  split
  case h_2 => exact .refl s
  case h_1 c hs hc =>
    split
    · exact .refl s
    · split
      · split
        · exact (State.Tame.setFace (FaceRecord.tame_stepTwo _)).then_faces (State.releaseShutter_faces _ f _)
        · exact .refl s
      · split
        · exact State.completeChange_tame hs hc
        · exact .refl s

theorem State.litStep_tame (s : State) (f : Face) : s.Tame (s.litStep f) := by
  refine .of_sound fun hs => ?_
  unfold State.litStep
  split
  case isFalse => exact .refl s
  case isTrue h =>
    simp only [FaceRecord.relighting, Bool.and_eq_true, beq_iff_eq, Option.map_eq_some_iff] at h
    obtain ⟨hc, c, hchange, hsrc⟩ := h
    obtain ⟨⟨d, hd, -, -, hl⟩, -⟩ := (FaceRecord.sound_changing hc).mp (hs f)
    obtain rfl : c = d := by simpa [hchange] using hd
    have hdst : c.dst = .closed := by simp_all [Change.legal]
    exact hdst ▸ State.completeChange_tame hc hchange

end Sys2Proof.Machine
end

section
/-! SUPPORT. The law of R9 and sound face records (R4, R5) through targets, gates, maintenance and forced closure: each
operation keeps both, most by being tame, the start of a change by what admits it. -/

namespace Sys2Proof.Machine

/-! ### The start of a change -/

/-- A permissive change may start on a face: the face is permissive already, or the other face is not, R9. -/
def State.MayOpen (s : State) (f : Face) : Prop :=
  (s.face f).permissive = true ∨ (s.face (otherFace f)).permissive = false

/-- A change placed on a STEADY ranked face keeps R9's law where it may start. -/
theorem State.Safe.place {s : State} (h : s.Safe) {f : Face} {dst : Aspect} (hd : (s.face f).shown ≠ .dark)
    (hne : (s.face f).shown ≠ dst) (ho : s.MayOpen f) : (s.setFace f ((s.face f).place dst)).Safe := by
  obtain ⟨hs, hone⟩ := h
  rw [State.facesSound_iff] at hs
  rw [State.oneWay_iff] at hone
  have hother : ((s.face f).place dst).permissive = true → (s.face (otherFace f)).permissive = false :=
    fun _ => ho.elim (hone f) id
  refine ⟨(State.facesSound_iff _).mpr fun g => ?_, (State.oneWay_iff _).mpr fun g => ?_⟩
  · by_cases hg : g = f
    · subst hg; simpa using FaceRecord.sound_place (hs g) hd hne
    · rw [eq_otherFace_of_ne hg]; simpa using hs _
  · by_cases hg : g = f
    · subst hg; simpa using hother
    · rw [eq_otherFace_of_ne hg, otherFace_otherFace]
      simp only [State.setFace_face, State.setFace_face_other]
      intro hp
      cases hq : ((s.face f).place dst).permissive with
      | false => rfl
      | true => exact absurd hp (by simp [hother hq])

/-- The symbol of a permissive aspect, R10. -/
theorem Aspect.symbol_isSome (a : Aspect) : a.symbol.isSome = a.permissive := by cases a <;> rfl

/-- A change that starts on a STEADY face keeps R9's law, R9-R14: one to a permissive aspect not on a DARK face, and where
it may start. -/
theorem State.Safe.beginChange {s : State} (h : s.Safe) {f : Face} {a : Aspect} (hs : (s.face f).state = .steady)
    (hne : (s.face f).shown ≠ a) (hd : a.permissive = true → (s.face f).shown ≠ .dark)
    (ho : a.permissive = true → s.MayOpen f) : (s.beginChange f a).Safe := by
  unfold State.beginChange
  split
  next k hk =>
    have ha : a.permissive = true := by rw [← Aspect.symbol_isSome, hk]; rfl
    exact (State.requestPull_tame _ f k).safe (h.place (hd ha) hne (ho ha))
  next =>
    split
    next hdark => exact (State.beginDark_tame (hdark ▸ hne)).safe h
    next => exact (State.askClose_tame hs).safe h

/-! ### Targets, R8 -/

theorem State.pend_tame (s : State) (f : Face) (t : Target) (why : Reason) (keep : Bool) :
    s.Tame (s.pend f t why keep) := by
  have hp : ∀ x, s.Tame (s.setFace f { s.face f with pending := x }) := fun x => .setFace (FaceRecord.tame_of_core (by rfl))
  unfold State.pend
  dsimp only
  split
  · exact hp _
  · split
    · exact hp _
    · exact (hp _).then_faces (State.countSuperseded_faces _)

theorem State.unpend_tame (s : State) (f : Face) : s.Tame (s.unpend f) := .setFace (FaceRecord.tame_of_core (by rfl))

theorem State.supersede_tame (s : State) (f : Face) : s.Tame (s.supersede f) := by
  unfold State.supersede
  split
  · exact .refl s
  · exact (State.unpend_tame s f).then_faces (State.countSuperseded_faces _)

theorem State.MayOpen.of_core {s : State} {f : Face} {r : FaceRecord} (h : s.MayOpen f) (hr : r.core = (s.face f).core) :
    (s.setFace f r).MayOpen f := by
  have hp : r.permissive = (s.face f).permissive := by
    simp only [FaceRecord.core, Prod.mk.injEq] at hr
    simp [FaceRecord.permissive, hr.1, hr.2.2.2.1]
  simpa [State.MayOpen, hp] using h

/-- A target taken keeps R9's law where its gates pass a permissive aspect only on a face that may open. -/
theorem State.Safe.takeTarget {s : State} (h : s.Safe) {f : Face} {t : Target} {g : GateOutcome}
    (ho : g = .pass → t.aspect.permissive = true → s.MayOpen f) : (s.takeTarget f t g).Safe := by
  have hu : (s.setFace f { s.face f with target := t }).Safe :=
    (State.Tame.setFace (FaceRecord.tame_of_core (by rfl))).safe h
  have hpend : ∀ why keep, ((s.setFace f { s.face f with target := t }).pend f t why keep).Safe :=
    fun why keep => (State.pend_tame _ f t why keep).safe hu
  unfold State.takeTarget
  simp only [State.setFace_face, State.setFace_sup]
  split
  next hs =>
    split
    · exact (State.unpend_tame _ f).safe hu
    next hne =>
      split
      · exact hpend _ _
      next hd =>
        split
        · exact hpend _ _
        · exact hpend _ _
        · split
          · exact hu
          · refine ((State.unpend_tame _ f).safe hu).beginChange ?_ ?_ ?_ ?_
            · simpa [State.unpend] using hs
            · simpa [State.unpend] using fun h => hne h.symm
            · intro _; simp_all [State.unpend]
            · exact fun hp => ((ho rfl hp).of_core (r := { s.face f with target := t }) rfl).of_core (by simp; rfl)
  next => split; exacts [(State.supersede_tame _ f).safe hu, hpend _ _]
  next => split; exacts [(State.supersede_tame _ f).safe hu, hpend _ _]

/-- Where the gates pass a permissive aspect the face may open: it shows a permissive aspect, or PAIR has found the other
face STEADY on CLOSED, R107, R109. -/
theorem State.mayOpen_of_gate {s : State} (hs : s.facesSound = true) {f : Face} {v : PassView} {a : Aspect}
    (hg : s.gate f v a = .pass) (ha : a.permissive = true) : s.MayOpen f := by
  cases hp : (s.face f).shown.permissive with
  | true => exact .inl (FaceRecord.permissive_of_shown hp)
  | false =>
    cases hc : (s.face (otherFace f)).steadyClosed with
    | true => exact .inr (FaceRecord.not_permissive_of_steadyClosed (s.facesSound_iff.mp hs _) hc)
    | false =>
      have hl : s.lowerGate f v a ≠ .pass := by simp [State.lowerGate, hc]
      have hno : s.gate f v a ≠ .pass := by
        unfold State.gate
        cases hshown : (s.face f).shown <;> cases a <;> simp_all [Aspect.rank, Aspect.permissive] <;> split <;> simp_all
      exact absurd hg hno

theorem State.MayOpen.of_faces {s t : State} {f : Face} (h : s.MayOpen f) (ht : t.faces = s.faces) : t.MayOpen f := by
  simpa [State.MayOpen, State.face_of_faces ht] using h

theorem State.Safe.of_faces {s t : State} (h : s.Safe) (ht : t.faces = s.faces) : t.Safe := (State.Tame.of_faces ht).safe h

theorem State.Safe.decide {s : State} (h : s.Safe) (f : Face) (v : PassView) : (s.decide f v).Safe :=
  (h.of_faces (State.latchIf_faces _ _ _)).takeTarget fun hg ha =>
    (State.mayOpen_of_gate h.1 hg ha).of_faces (State.latchIf_faces _ _ _)

/-! ### The work of a pass, R84, R103 -/

theorem State.advanceAge_tame (s : State) (f : Face) : s.Tame (s.advanceAge f) :=
  (State.Tame.setFace (FaceRecord.tame_of_core (by rfl))).then_faces (State.latchIf_faces _ _ _)

theorem State.clearMergeLost_tame (s : State) (f : Face) : s.Tame (s.clearMergeLost f) :=
  .setFace (FaceRecord.tame_of_core (by rfl))

theorem State.mergeCheck_tame (s : State) (f : Face) : s.Tame (s.mergeCheck f) := by
  unfold State.mergeCheck
  refine State.Tame.trans (t := s.mergeFound f) ?_ ?_
  · unfold State.mergeFound
    split
    · exact .refl s
    · split
      · exact State.clearMergeLost_tame s f
      · exact .refl s
  · unfold State.mergeTest
    split
    · exact .refl _
    · split
      · exact .refl _
      · exact (State.Tame.setFace (FaceRecord.tame_of_core (by rfl))).then_faces (State.latch_faces _ _)

theorem State.Safe.faceWork {s : State} (h : s.Safe) (f : Face) (v : PassView) (acting : Bool) :
    (s.faceWork f v acting).Safe := by
  unfold State.faceWork
  split
  · refine State.Safe.decide ((State.mergeCheck_tame _ f).safe ?_) f v
    split
    · exact (State.advanceAge_tame s f).safe h
    · exact h
  · exact (State.mergeCheck_tame s f).safe h

theorem State.enterStandby_tame (s : State) : s.Tame s.enterStandby :=
  ((State.Tame.of_faces (by simp)).trans (State.clearMergeLost_tame _ .e)).trans (State.clearMergeLost_tame _ .w)

theorem State.nodeTests_tame (s : State) : s.Tame s.nodeTests := by
  unfold State.nodeTests
  split
  · exact State.enterStandby_tame s
  · split
    · exact State.enterStandby_tame s
    · exact .refl s

theorem State.Safe.validPass {s : State} (h : s.Safe) (f : Frame) (b : SweepBody) : (s.validPass f b).1.Safe :=
  ((h.of_faces (t := (s.arrive f.pass b).takePass f.pass b.seq _) (by simp)).faceWork .e _ _).faceWork .w _ _

theorem State.Safe.sweepPass {s : State} (h : s.Safe) (f : Frame) : (s.sweepPass f).1.Safe := by
  unfold State.sweepPass
  split
  · exact (State.nodeTests_tame _).safe (h.of_faces (by simp))
  next b _ =>
    refine (State.nodeTests_tame _).safe ?_
    split
    · split
      · exact h.of_faces (by simp)
      · exact h.validPass f _
      · exact h.validPass f b
    · exact h.of_faces (by simp)

/-! ### Forced closure, R18, R151 -/

theorem State.releaseAllFace_tame (s : State) (f : Face) : s.Tame (s.releaseAllFace f) := by
  refine .of_sound fun hs => ?_
  have ht : s.Tame (s.setFace f { s.face f with pending := none }) := .setFace (FaceRecord.tame_of_core (by rfl))
  have hr : ∀ floor, floor ≤ 2 → (s.face f).shown ≠ .dark →
      s.Tame ((s.setFace f { s.face f with pending := none }).startReturn f floor) :=
    fun floor hf hd => ht.trans (State.startReturn_tame hf (by simpa using hd))
  unfold State.releaseAllFace
  dsimp only
  split
  · exact ht.trans (State.returnTest_tame _ f)
  next hc =>
    split
    · exact ht
    · exact hr _ (FaceRecord.floor_le_of_sound (hs f)) (FaceRecord.ranked_of_changing (hs f) hc (by simp_all))
  next hst =>
    split
    next => exact ht
    next hd =>
      split
      · refine (ht.trans (.setFace ?_)).trans (State.relightTest_tame _ f)
        rw [State.setFace_face]
        exact FaceRecord.tame_await ((FaceRecord.steadyDark_iff _).mpr ⟨hst, hd⟩) fun _ => rfl
      · exact ht
    all_goals next h => exact hr _ (FaceRecord.rank_le _) (by rw [h]; decide)

theorem State.enterFailsafe_tame (s : State) (c : Cause) : s.Tame (s.enterFailsafe c) :=
  ((State.Tame.of_faces (by simp)).trans (State.releaseAllFace_tame _ .e)).trans (State.releaseAllFace_tame _ .w)

theorem State.arise_tame (s : State) (c : Cause) : s.Tame (s.arise c) := by
  unfold State.arise
  cases s.node.state with
  | unnumbered | numbered | failsafe => exact .of_faces (State.setNode_faces _ _)
  | standby | service | held | maintenance => exact State.enterFailsafe_tame s c

/-! ### Maintenance and CLEAR_FAULTS -/

theorem State.endFace_tame (s : State) (f : Face) : s.Tame (s.endFace f) := by
  have ht : s.Tame (s.setFace f { s.face f with target := ⟨.closed, .maint⟩ }) :=
    .setFace (FaceRecord.tame_of_core (by rfl))
  unfold State.endFace
  dsimp only
  split
  · exact .refl s
  · split
    next h => exact ht.trans (State.askClose_tame (by simpa using h))
    next => exact ht

/-- What FACE_SET has found of a face where its change starts, R21. -/
theorem State.faceSetAnswer_none {s : State} {f : Face} {a : Aspect} (h : s.faceSetAnswer f a = none) :
    (s.face f).state = .steady ∧ (s.face f).shown ≠ a ∧ (a.permissive = true → (s.face f).shown ≠ .dark) ∧
      (a.permissive = true → (s.face f).shown.permissive = true ∨ (s.face (otherFace f)).steadyClosed = true) := by
  unfold State.faceSetAnswer at h
  dsimp only at h
  split at h; · cases h
  split at h; · cases h
  split at h; · cases h
  split at h; · cases h
  split at h; · cases h
  split at h; · cases h
  next h1 h2 h3 _ _ h6 =>
    refine ⟨by simpa using h1, h2, fun ha hd => h3 (by simp [hd, ha]), fun ha => ?_⟩
    cases hshown : (s.face f).shown <;> simp_all [Aspect.permissive]

theorem State.Safe.faceSet {s : State} (h : s.Safe) (f : Face) (a : Aspect) : (s.faceSet f a).1.Safe := by
  unfold State.faceSet
  split
  · exact h
  next ha =>
    obtain ⟨hs, hne, hd, ho⟩ := State.faceSetAnswer_none ha
    have hopen : a.permissive = true → s.MayOpen f := fun hp => (ho hp).imp FaceRecord.permissive_of_shown
      (FaceRecord.not_permissive_of_steadyClosed (s.facesSound_iff.mp h.1 _))
    have ht : (s.setFace f { s.face f with target := ⟨a, .maint⟩ }).Safe :=
      (State.Tame.setFace (FaceRecord.tame_of_core (by rfl))).safe h
    exact ht.beginChange (by simpa using hs) (by simpa using hne) (by simpa using hd)
      fun hp => (hopen hp).of_core (by rfl)

theorem State.testPull_tame (s : State) (c : Channel) : s.Tame (s.testPull c).1 := by
  unfold State.testPull
  split
  · split
    · exact (State.Tame.of_faces (by simp)).trans (State.lampFault_tame _ _)
    · exact .of_faces (by simp)
    · exact .refl s
    · exact .refl s
  · exact State.requestPull_tame s _ _

theorem State.elementTest_tame (s : State) (c : Channel) (a : TestAction) : s.Tame (s.elementTest c a).1 := by
  unfold State.elementTest
  split
  · exact .refl s
  · split
    · exact .refl s
    · split
      · split
        · exact .refl s
        · exact (State.testPull_tame s c).trans (State.channelTests_tame _ _)
      · exact (State.Tame.of_faces (State.testRelease_faces s c)).trans (State.channelTests_tame _ _)

theorem State.clearFace_tame (s : State) (f : Face) : s.Tame (s.clearFace f) := by
  have hu : s.Tame (s.setFace f (s.face f).unlatch) := .setFace (FaceRecord.tame_of_core (by rfl))
  unfold State.clearFace
  split
  next hd =>
    obtain ⟨hst, hdark⟩ := (FaceRecord.steadyDark_iff _).mp hd
    split
    · refine (State.Tame.of_faces (t := s.lampOff f) (by simp)).trans (.setFace ?_)
      rw [State.face_of_faces (s := s) (by simp)]
      exact FaceRecord.tame_of_core (by rfl)
    · split
      · exact .setFace (FaceRecord.tame_of_core (by rfl))
      · split
        · exact hu.trans (State.relight_tame (by rw [State.setFace_face]; exact hdark))
        · exact .setFace fun hr => FaceRecord.tame_await (r := (s.face f).unlatch) hd
            (fun ht => by simp [((FaceRecord.sound_steady hst).mp hr).2.2.2 ht]) hr
  next => exact hu

theorem State.clearNamedFace_tame (s : State) (f : Face) (set : BitVec 12) : s.Tame (s.clearNamedFace f set) := by
  unfold State.clearNamedFace
  split
  · exact State.clearFace_tame s f
  · exact .refl s

theorem State.clearFaults_tame (s : State) (set : BitVec 12) (x : Sensed) : s.Tame (s.clearFaults set x) := by
  refine State.Tame.trans ?_ (State.nodeTests_tame _)
  refine State.Tame.trans ?_ (.of_faces ((State.relatchAll_faces _ _ _ _).trans (State.clearLatches_faces _ _)))
  exact ((State.Tame.of_faces (State.clearChannels_faces s set x)).trans (State.clearNamedFace_tame _ .e set)).trans
    (State.clearNamedFace_tame _ .w set)

/-- The close that a lock brings about at once starts no change, R143. -/
theorem State.Safe.coverNew {s : State} (h : s.Safe) (f : Face) (before : Bool) : (s.coverNew f before).Safe := by
  have hs : (s.setFace f { s.face f with target := ⟨.closed, .possession⟩ }).Safe :=
    (State.Tame.setFace (FaceRecord.tame_of_core (by rfl))).safe h
  have ht : (s.takeTarget f ⟨.closed, .possession⟩ .notNow).Safe := h.takeTarget fun hg => GateOutcome.noConfusion hg
  unfold State.coverNew State.coverFace
  split
  · cases s.node.state with
    | service | held => exact ht
    | unnumbered | numbered | standby | failsafe | maintenance => exact hs
  · exact h

theorem State.Safe.applyLock {s : State} (h : s.Safe) (id : Nat) (fs : LockFaces) : (s.applyLock id fs).Safe := by
  refine State.Safe.of_faces ?_ (State.lockWriteBegin_faces _)
  refine (State.nodeTests_tame _).safe (State.Safe.coverNew (State.Safe.coverNew (h.of_faces ?_) .e _) .w _)
  simp

end Sys2Proof.Machine
end

section
/-! SUPPORT. Start-up beside the law of R9: no frame is processed and no channel acts before the settle ends (R22,
R41, R58, R186), and what every command of the table keeps of it. -/

namespace Sys2Proof.Machine

/-! ### The invariant, phase by phase -/

/-- Sound face records, R9's law, and start-up as the spec gives it. -/
def State.FacesInv (s : State) : Prop := s.Safe ∧ s.startUpOk = true

theorem State.facesInv_iff (s : State) :
    s.FacesInv ↔ s.facesSound = true ∧ s.oneWay = true ∧ s.startUpOk = true := by
  simp only [State.FacesInv, State.Safe, and_assoc]

theorem State.startUpOk_running {s : State} (h : s.phase = .running) : s.startUpOk = true := by
  simp [State.startUpOk, h]

theorem State.startUpOk_relighting {s : State} {e w : Bool} (h : s.phase = .relighting e w) :
    s.startUpOk = s.unserved := by simp [State.startUpOk, h]

/-- The part is held in reset or settling. -/
def Phase.early : Phase → Bool
  | .held => true
  | .settling => true
  | .relighting _ _ => false
  | .running => false

theorem State.startUpOk_early {s : State} (h : s.phase.early = true) :
    s.startUpOk = true ↔ s.faces = ⟨.reset, .reset⟩ ∧ s.elem = .reset ∧ s.unserved = true := by
  cases hp : s.phase <;> simp_all [State.startUpOk, Phase.early, and_assoc]

/-- Before the part runs no frame is served. -/
theorem State.FacesInv.unserved {s : State} (h : s.FacesInv) (hp : s.phase ≠ .running) : s.unserved = true := by
  have hk := h.2
  cases hq : s.phase <;> simp_all [State.startUpOk]

theorem State.unserved_iff (s : State) :
    s.unserved = true ↔ s.node.state = .unnumbered ∧ s.line.role = .through ∧ s.line.resetWaits = false := by
  simp [State.unserved, and_assoc]

/-- Two states agree on what start-up fixes of the node and the line. -/
theorem State.unserved_congr {s t : State} (hn : t.node.state = s.node.state) (hr : t.line.role = s.line.role)
    (hw : t.line.resetWaits = s.line.resetWaits) : t.unserved = s.unserved := by simp [State.unserved, hn, hr, hw]

/-- A running part keeps the invariant by keeping R9's law. -/
theorem State.FacesInv.of_running {t : State} (hp : t.phase = .running) (h : t.Safe) : t.FacesInv :=
  ⟨h, State.startUpOk_running hp⟩

/-- An operation that leaves the faces, the channels and what start-up fixes of the node and the line. -/
theorem State.FacesInv.of_blocks {s t : State} (h : s.FacesInv) (hp : t.phase = s.phase) (hf : t.faces = s.faces)
    (he : s.phase.early = true → t.elem = s.elem) (hu : s.unserved = true → t.unserved = true) : t.FacesInv := by
  refine ⟨h.1.of_faces hf, ?_⟩
  have hk := h.2
  cases hq : s.phase with
  | running => exact State.startUpOk_running (hp.trans hq)
  | relighting a b =>
    rw [State.startUpOk_relighting hq] at hk
    rw [State.startUpOk_relighting (hp.trans hq)]
    exact hu hk
  | held | settling =>
    have hearly : s.phase.early = true := by rw [hq]; rfl
    rw [State.startUpOk_early hearly] at hk
    rw [State.startUpOk_early (hp ▸ hearly), hf, he hearly]
    exact ⟨hk.1, hk.2.1, hu hk.2.2⟩

/-- An operation that leaves the faces, the channels, the node's state and the line. -/
theorem State.FacesInv.of_frame {s t : State} (h : s.FacesInv) (hp : t.phase = s.phase) (hf : t.faces = s.faces)
    (he : t.elem = s.elem) (hn : t.node.state = s.node.state) (hl : t.line = s.line) : t.FacesInv :=
  h.of_blocks hp hf (fun _ => he) fun hu => by
    rwa [State.unserved_congr hn (by rw [hl]) (by rw [hl])]

/-- Any reset meets the invariant. -/
theorem State.doReset_facesInv (s : State) (c : ResetCause) (ph : Phase) : (s.doReset c ph).FacesInv := by
  refine ⟨⟨rfl, rfl⟩, ?_⟩
  cases ph <;> rfl

/-! ### The line -/

@[simp] theorem LineBlock.setCounters_role (l : LineBlock) (p : Port) (x : LineCounters) :
    (l.setCounters p x).role = l.role := by cases p <;> rfl
@[simp] theorem LineBlock.setCounters_resetWaits (l : LineBlock) (p : Port) (x : LineCounters) :
    (l.setCounters p x).resetWaits = l.resetWaits := by cases p <;> rfl
@[simp] theorem LineBlock.setRx_role (l : LineBlock) (p : Port) (x : Receiver) : (l.setRx p x).role = l.role := by
  cases p <;> rfl
@[simp] theorem LineBlock.setRx_resetWaits (l : LineBlock) (p : Port) (x : Receiver) :
    (l.setRx p x).resetWaits = l.resetWaits := by cases p <;> rfl
@[simp] theorem LineBlock.setLink_role (l : LineBlock) (p : Port) (x : Link) : (l.setLink p x).role = l.role := by
  cases p <;> rfl
@[simp] theorem LineBlock.setLink_resetWaits (l : LineBlock) (p : Port) (x : Link) :
    (l.setLink p x).resetWaits = l.resetWaits := by cases p <;> rfl
@[simp] theorem LineBlock.rxTo_role (l : LineBlock) (p : Port) (x : RxState) : (l.rxTo p x).role = l.role := by
  simp [LineBlock.rxTo]
@[simp] theorem LineBlock.rxTo_resetWaits (l : LineBlock) (p : Port) (x : RxState) :
    (l.rxTo p x).resetWaits = l.resetWaits := by simp [LineBlock.rxTo]
@[simp] theorem LineBlock.setQueue_role (l : LineBlock) (p : Port) (q : List QueuedFrame) :
    (l.setQueue p q).role = l.role := by cases p <;> rfl

/-- A RESET waits on a line exactly where a frame of one of its queues carries it, R79. -/
theorem LineBlock.resetWaits_iff (l : LineBlock) :
    l.resetWaits = false ↔ ∀ p, (l.queue p).any QueuedFrame.carriesReset = false := by
  simp only [LineBlock.resetWaits, Bool.or_eq_false_iff]
  exact ⟨fun h p => by cases p; exacts [h.2, h.1], fun h => ⟨h .b, h .a⟩⟩

theorem LineBlock.setQueue_queue (l : LineBlock) (p q : Port) (x : List QueuedFrame) :
    (l.setQueue p x).queue q = if q = p then x else l.queue q := by cases p <;> cases q <;> rfl

/-- A queue changed to one whose frames carry no RESET. -/
theorem LineBlock.setQueue_resetWaits {l : LineBlock} {p : Port} {x : List QueuedFrame}
    (hx : x.any QueuedFrame.carriesReset = false) (h : l.resetWaits = false) : (l.setQueue p x).resetWaits = false := by
  rw [LineBlock.resetWaits_iff] at h ⊢
  intro q
  rw [LineBlock.setQueue_queue]
  split
  · exact hx
  · exact h q

/-- Counting, and the moves of a port's receiver and link, keep the invariant. -/
theorem State.FacesInv.setLine {s : State} (h : s.FacesInv) {l : LineBlock} (hr : l.role = s.line.role)
    (hw : l.resetWaits = s.line.resetWaits) : (s.setLine l).FacesInv :=
  h.of_blocks (by simp) (by simp) (by simp) fun hu => by
    rwa [State.unserved_congr (s := s) (by simp) (by simpa using hr) (by simpa using hw)]

theorem State.FacesInv.latch {s : State} (h : s.FacesInv) (c : FaultClass) : (s.latch c).FacesInv :=
  h.of_frame (by simp) (by simp) (by simp) (by simp) (by simp)

theorem State.FacesInv.countOverrun {s : State} (h : s.FacesInv) (p : Port) : (s.countOverrun p).FacesInv :=
  (h.setLine (by simp) (by simp)).latch .line

theorem State.FacesInv.countUnknown {s : State} (h : s.FacesInv) (p : Port) : (s.countUnknown p).FacesInv :=
  (h.setLine (by simp) (by simp)).latch .line

theorem State.FacesInv.countFraming {s : State} (h : s.FacesInv) (p : Port) : (s.countFraming p).FacesInv :=
  (h.setLine (by simp) (by simp)).latch .line

theorem State.FacesInv.countError {s : State} (h : s.FacesInv) (p : Port) (e : FrameError) :
    (s.countError p e).FacesInv := by
  cases e with
  | framing => exact h.countFraming p
  | crc | direction => exact (h.setLine (by simp) (by simp)).latch .line

theorem State.FacesInv.received {s : State} (h : s.FacesInv) (p : Port) : (s.received p).FacesInv :=
  h.of_blocks (by simp) (by simp) (by simp) fun hu => by
    rwa [State.unserved_congr (s := s) (by simp) (by simp) (by simp)]

/-- A frame joins a queue, R49: a running part may hold one that carries a RESET. -/
theorem State.FacesInv.join {s : State} (h : s.FacesInv) (q p : Port) (f : Frame)
    (hf : s.phase = .running ∨ f.carriesReset = false) : (s.join q p f).FacesInv := by
  unfold State.join
  split
  · split
    · exact State.doReset_facesInv _ _ _
    · exact h.countOverrun p
  · rcases hf with hp | hf
    · exact .of_running (by simpa using hp) (h.1.of_faces (by simp))
    · refine h.of_blocks (by simp) (by simp) (by simp) fun hu => ?_
      obtain ⟨hn, hr, hw⟩ := s.unserved_iff.mp hu
      refine (State.unserved_iff _).mpr ⟨by simpa using hn, by simpa using hr, ?_⟩
      refine LineBlock.setQueue_resetWaits ?_ hw
      simpa [Frame.queued, hf] using (LineBlock.resetWaits_iff _).mp hw q

theorem State.FacesInv.forwardInStartUp {s : State} (h : s.FacesInv) (p : Port) {f : Frame}
    (hf : f.carriesReset = false) : (s.forwardInStartUp p f).FacesInv := by
  unfold State.forwardInStartUp
  refine State.FacesInv.join ?_ _ p f (.inr hf)
  split
  · exact h.countUnknown p
  · exact h

/-- A pass that keeps the invariant on a running part. -/
def PassKeeps (ret : State → Frame → State × Frame) : Prop :=
  ∀ (s : State) (f : Frame), s.phase = .running → s.FacesInv → (ret s f).1.FacesInv

/-- A frame joins a queue of whatever part a pass has left: one that is no longer running has just been reset. -/
theorem State.FacesInv.receiveA {s : State} (h : s.FacesInv) {f : Frame} {out ret : State → Frame → State × Frame}
    (hf : f.carriesReset = false) (ho : PassKeeps out) (hr : PassKeeps ret)
    (hp : ∀ u g, (ret u g).1.phase = u.phase) : (s.receiveA f out ret).FacesInv := by
  have hu := h.received .a
  unfold State.receiveA
  split
  case isFalse => exact h
  case isTrue =>
    cases hphase : s.phase with
    | held | settling | relighting _ _ => exact hu.forwardInStartUp .a hf
    | running =>
      have hrun : (s.received .a).phase = .running := by simpa using hphase
      have hout := ho _ f hrun hu
      show ((s.received .a).processA f out ret).FacesInv
      unfold State.processA
      dsimp only
      split
      next => exact hout
      next hq =>
        have hq' : (out (s.received .a) f).1.phase = .running := by simpa using hq
        split
        · exact (hr _ _ hq' hout).join _ _ _ (.inl ((hp _ _).trans hq'))
        · exact hout.join _ _ _ (.inl hq')

theorem State.FacesInv.receiveB {s : State} (h : s.FacesInv) {f : Frame} {ret : State → Frame → State × Frame}
    (hf : f.carriesReset = false) (hr : PassKeeps ret) (hp : ∀ u g, (ret u g).1.phase = u.phase) :
    (s.receiveB f ret).FacesInv := by
  have hu := h.received .b
  unfold State.receiveB
  split
  case isFalse => exact h
  case isTrue =>
    cases hphase : s.phase with
    | held | settling | relighting _ _ => exact hu.forwardInStartUp .b hf
    | running =>
      have hrun : (s.received .b).phase = .running := by simpa using hphase
      exact (hr _ _ hrun hu).join _ _ _ (.inl ((hp _ _).trans hrun))

/-- A pass that leaves the phase and the faces keeps the invariant. -/
theorem PassKeeps.of_faces {ret : State → Frame → State × Frame} (hp : ∀ s f, (ret s f).1.phase = s.phase)
    (hf : ∀ s f, (ret s f).1.faces = s.faces) : PassKeeps ret :=
  fun s f hs h => .of_running ((hp s f).trans hs) (h.1.of_faces (hf s f))

/-- A pass that leaves the phase and keeps R9's law keeps the invariant. -/
theorem PassKeeps.of_safe {ret : State → Frame → State × Frame} (hp : ∀ s f, (ret s f).1.phase = s.phase)
    (hf : ∀ s f, s.Safe → (ret s f).1.Safe) : PassKeeps ret :=
  fun s f hs h => .of_running ((hp s f).trans hs) (hf s f h.1)

theorem unchanged_keeps : PassKeeps unchanged := .of_faces (fun _ _ => rfl) (fun _ _ => rfl)

/-! ### The receiver and the links, R43, R44 -/

theorem State.FacesInv.takeSymbol {s t : State} (h : s.FacesInv) {p : Port} {x : Symbol}
    (ht : s.takeSymbol p x = some t) : t.FacesInv := by
  have hl := h.setLine (l := s.line.setRx p ((s.line.rx p).take x).1) (by simp) (by simp)
  unfold State.takeSymbol at ht
  dsimp only at ht
  split at ht
  · cases ht; exact hl
  · cases ht; exact hl.countFraming p
  · cases ht

theorem State.FacesInv.takeSymbols {s t : State} (h : s.FacesInv) {p : Port} {xs : List Symbol}
    (ht : s.takeSymbols p xs = some t) : t.FacesInv := by
  induction xs generalizing s with
  | nil => cases ht; exact h
  | cons x xs ih =>
    unfold State.takeSymbols at ht
    split at ht
    next => cases ht
    next u hu => exact ih (h.takeSymbol hu) ht

theorem State.FacesInv.listen {s : State} (h : s.FacesInv) (p : Port) (xs : List Symbol) : (s.listen p xs).FacesInv := by
  unfold State.listen
  split
  · exact h
  · cases ht : s.takeSymbols p xs with
    | none => exact h
    | some t => exact h.takeSymbols ht

theorem State.FacesInv.portLost {s : State} (h : s.FacesInv) (p : Port) (xs : List Symbol) :
    (s.portLost p xs).FacesInv := by
  have hl := (h.listen p xs).setLine (l := (s.listen p xs).line.setLink p .down) (by simp) (by simp)
  unfold State.portLost
  dsimp only
  split
  · exact (hl.setLine (by simp) (by simp)).countFraming p
  · exact hl

theorem State.FacesInv.portBack {s : State} (h : s.FacesInv) (p : Port) (xs : List Symbol) :
    (s.portBack p xs).FacesInv := (h.listen p xs).setLine (by simp) (by simp)

/-- The wrap of a running part, which may end in a reset, R53, R79. -/
theorem State.FacesInv.wrap {s : State} (h : s.FacesInv) (hp : s.phase = .running) : s.wrap.FacesInv := by
  unfold State.wrap
  dsimp only
  split
  · exact State.doReset_facesInv _ _ _
  · exact .of_running (by simpa using hp) (h.1.of_faces (by simp))

theorem State.FacesInv.of_running_faces {s t : State} (h : s.FacesInv) (hp : t.phase = .running)
    (hf : t.faces = s.faces) : t.FacesInv := .of_running hp (h.1.of_faces hf)

theorem execFrameSent_facesInv {s t : State} {p : Port} (h : s.FacesInv) (ht : execFrameSent p s = .next t) :
    t.FacesInv := by
  unfold execFrameSent at ht
  split at ht
  next => cases ht; exact h
  next f rest hq =>
    dsimp only at ht
    split at ht
    · cases ht; exact State.doReset_facesInv _ _ _
    next hf =>
      cases ht
      refine h.of_blocks (by simp) (by simp) (by simp) fun hu => ?_
      obtain ⟨hn, hr, hw⟩ := s.unserved_iff.mp hu
      refine (State.unserved_iff _).mpr ⟨by simpa using hn, by simpa using hr, ?_⟩
      have hall := (LineBlock.resetWaits_iff _).mp hw p
      rw [hq, List.any_cons, Bool.or_eq_false_iff] at hall
      exact LineBlock.setQueue_resetWaits hall.2 hw

theorem execPortDown_facesInv {s t : State} {p : Port} {xs : List Symbol} (h : s.FacesInv)
    (ht : execPortDown p xs s = .next t) : t.FacesInv := by
  unfold execPortDown at ht
  split at ht
  · cases ht; exact h
  · cases p with
    | a => cases ht; exact h.portLost .a xs
    | b =>
      dsimp only at ht
      split at ht
      next hr =>
        cases ht
        simp only [Bool.and_eq_true, decide_eq_true_eq] at hr
        exact (h.portLost .b xs).wrap (by simpa using hr.1)
      next => cases ht; exact h.portLost .b xs

theorem execPortUp_facesInv {s t : State} {p : Port} {xs : List Symbol} (h : s.FacesInv)
    (ht : execPortUp p xs s = .next t) : t.FacesInv := by
  unfold execPortUp at ht
  split at ht
  · cases ht; exact h
  · cases p with
    | a => cases ht; exact h.portBack .a xs
    | b =>
      dsimp only at ht
      split at ht
      next hr =>
        cases ht
        simp only [Bool.and_eq_true, decide_eq_true_eq] at hr
        exact (h.portBack .b xs).of_running_faces (by simpa using hr.1) (by simp)
      next => cases ht; exact h.portBack .b xs

/-! ### Commands, R64-R69 -/

/-- A command's effect on a running part keeps the invariant. -/
def EffectKeeps (effect : Effect) : Prop :=
  ∀ (s : State) (args : List Word), s.phase = .running → s.FacesInv → (effect s args).1.FacesInv

theorem EffectKeeps.of_safe {effect : Effect} (hp : ∀ s args, (effect s args).1.phase = s.phase)
    (hf : ∀ s args, s.Safe → (effect s args).1.Safe) : EffectKeeps effect :=
  fun s args hs h => .of_running ((hp s args).trans hs) (hf s args h.1)

theorem EffectKeeps.of_faces {effect : Effect} (hp : ∀ s args, (effect s args).1.phase = s.phase)
    (hf : ∀ s args, (effect s args).1.faces = s.faces) : EffectKeeps effect :=
  .of_safe hp fun s args h => h.of_faces (hf s args)

theorem State.judge_keeps {c : Cmd} {target : BitVec 8} {effect : Effect} (he : EffectKeeps effect) :
    PassKeeps (fun t f => t.judge c target effect f) := by
  intro s f hp h
  dsimp only
  unfold State.judge
  split
  · exact h
  · exact h.latch _
  · exact h.latch _
  · exact h
  · exact h
  · exact he _ _ (by simpa using hp) (h.of_running_faces (by simpa using hp) (by simp))

theorem State.FacesInv.command {s : State} (h : s.FacesInv) {c : Cmd} {x : CommandPayload} {effect : Effect}
    (he : EffectKeeps effect) : (s.command c x effect).FacesInv :=
  h.receiveA rfl (State.judge_keeps he) unchanged_keeps fun _ _ => rfl

theorem judgeSilent_keeps (target : BitVec 8) : PassKeeps (fun t f => t.judgeSilent target f) :=
  .of_faces (fun s f => State.judgeSilent_phase s target f) (fun s f => State.judgeSilent_faces s target f)

end Sys2Proof.Machine
end

section
/-! SUPPORT. What each command of the table keeps of the face records, R9's law and start-up, row by row. -/

namespace Sys2Proof.Machine

/-! ### The effects of the commands -/

theorem writeSite_keeps (b : Bool) : EffectKeeps (writeSite b) := by
  intro s args hp h
  unfold writeSite
  split
  · exact h
  · split
    · exact h
    next x _ =>
      split
      · have ht : ∀ t : State, t.phase = .running → t.faces = s.faces → t.FacesInv :=
          fun t hq hf => h.of_running_faces hq hf
        dsimp only
        unfold State.takeSite State.writeRole
        split
        · exact ht _ (by simpa using hp) (by simp)
        · exact ht _ (by simpa using hp) (by simp)
        · exact ht _ (by simpa using hp) (by simp)
        · exact ht _ (by simpa using hp) (by simp)
        · exact ht _ (by simpa using hp) (by simp)
        · split
          · exact ht _ (by simpa using hp) (by simp)
          · exact (ht _ (by simpa using hp) (by simp)).wrap (by simpa using hp)
      · exact h

theorem readFace_keeps : EffectKeeps readFace :=
  .of_faces (fun s a => by unfold readFace; split <;> rfl) (fun s a => by unfold readFace; split <;> rfl)

theorem readChannel_keeps (raw : Nat) : EffectKeeps (readChannel raw) :=
  .of_faces (fun s a => by unfold readChannel; split <;> rfl) (fun s a => by unfold readChannel; split <;> rfl)

theorem readPlan_keeps : EffectKeeps readPlan :=
  .of_faces (fun s a => by unfold readPlan; dsimp only; (repeat' split) <;> rfl)
    (fun s a => by unfold readPlan; dsimp only; (repeat' split) <;> rfl)

theorem writeFace_keeps : EffectKeeps writeFace :=
  .of_faces (fun s a => by unfold writeFace; (repeat' split) <;> simp)
    (fun s a => by unfold writeFace; (repeat' split) <;> simp)

theorem setMasks_keeps : EffectKeeps setMasks :=
  .of_faces (fun s a => by unfold setMasks; split <;> simp) (fun s a => by unfold setMasks; split <;> simp)

theorem clearFaults_keeps (x : Sensed) : EffectKeeps (clearFaults x) :=
  .of_safe (fun s a => by unfold clearFaults; (repeat' split) <;> simp) fun s a h => by
    unfold clearFaults
    split
    · exact h
    · split
      · exact h
      · exact (State.clearFaults_tame s _ x).safe h

theorem loadBegin_keeps : EffectKeeps loadBegin :=
  .of_faces (fun s a => by unfold loadBegin; dsimp only; split <;> simp)
    (fun s a => by unfold loadBegin; dsimp only; split <;> simp)

theorem loadBlock_keeps : EffectKeeps loadBlock :=
  .of_faces (fun s a => by unfold loadBlock; dsimp only; (repeat' split) <;> simp)
    (fun s a => by unfold loadBlock; dsimp only; (repeat' split) <;> simp)

theorem loadEnd_keeps : EffectKeeps loadEnd :=
  .of_faces (fun s a => by unfold loadEnd; dsimp only; (repeat' split) <;> simp)
    (fun s a => by unfold loadEnd; dsimp only; (repeat' split) <;> simp)

theorem swap_keeps : EffectKeeps swap :=
  .of_faces (fun s a => by unfold swap; (repeat' split) <;> simp) (fun s a => by unfold swap; (repeat' split) <;> simp)

theorem store_keeps : EffectKeeps store :=
  .of_faces (fun s a => by unfold store; split <;> simp) (fun s a => by unfold store; split <;> simp)

theorem eraseStore_keeps : EffectKeeps eraseStore :=
  .of_faces (fun s a => by unfold eraseStore; split <;> simp) (fun s a => by unfold eraseStore; split <;> simp)

theorem commission_keeps : EffectKeeps commission :=
  .of_safe (fun s a => by unfold commission; split <;> simp) fun s a h => by
    unfold commission
    split
    · exact h
    · exact (State.enterStandby_tame s).safe h

theorem enterService_keeps : EffectKeeps enterService :=
  .of_faces (fun s a => by unfold enterService; (repeat' split) <;> simp)
    (fun s a => by unfold enterService; (repeat' split) <;> simp)

theorem leaveService_keeps : EffectKeeps leaveService :=
  .of_safe (fun s a => by simp [leaveService])
    fun _ _ h => (State.nodeTests_tame _).safe (h.of_faces (State.setNode_faces _ _))

theorem release_keeps (ms : Nat) : EffectKeeps (release ms) :=
  .of_safe (fun s a => by unfold release; dsimp only; (repeat' split) <;> simp) fun s a h => by
    unfold release
    dsimp only
    split
    · split
      · exact (State.enterStandby_tame _).safe (h.of_faces (by simp))
      · exact h.of_faces (by simp)
    · exact h.of_faces (by simp)

theorem maintain_keeps : EffectKeeps maintain :=
  .of_faces (fun s _ => State.setNode_phase s _) (fun s _ => State.setNode_faces s _)

theorem endMaintain_keeps : EffectKeeps endMaintain :=
  .of_safe (fun s a => by unfold endMaintain; split <;> simp) fun s a h => by
    unfold endMaintain
    split
    · exact h
    · exact (((State.Tame.of_faces (State.setNode_faces _ _)).trans (State.endFace_tame _ .e)).trans
        (State.endFace_tame _ .w)).trans (State.nodeTests_tame _) |>.safe h

theorem faceSetCommand_keeps : EffectKeeps faceSetCommand :=
  .of_safe (fun s a => by unfold faceSetCommand; (repeat' split) <;> simp) fun s a h => by
    unfold faceSetCommand
    split
    · split
      · exact h
      · exact (State.nodeTests_tame _).safe (h.faceSet _ _)
    · exact h
    · exact h

theorem elementTestCommand_keeps : EffectKeeps elementTestCommand :=
  .of_safe (fun s a => by unfold elementTestCommand; (repeat' split) <;> simp) fun s a h => by
    unfold elementTestCommand
    split
    · exact h
    · split
      · exact h
      · split
        · exact h
        · exact (State.elementTest_tame s _ _).safe h

theorem possFrom_keeps : EffectKeeps possFrom :=
  .of_faces (fun s a => by unfold possFrom; dsimp only; (repeat' split) <;> simp)
    (fun s a => by unfold possFrom; dsimp only; (repeat' split) <;> simp)

theorem possTo_keeps : EffectKeeps possTo :=
  .of_faces (fun s a => by unfold possTo; dsimp only; (repeat' split) <;> simp)
    (fun s a => by unfold possTo; dsimp only; (repeat' split) <;> simp)

theorem possExcept_keeps : EffectKeeps possExcept :=
  .of_faces (fun s a => by unfold possExcept; dsimp only; (repeat' split) <;> simp)
    (fun s a => by unfold possExcept; dsimp only; (repeat' split) <;> simp)

theorem possApply_keeps : EffectKeeps possApply :=
  .of_safe (fun s a => by unfold possApply; dsimp only; (repeat' split) <;> simp) fun s a h => by
    unfold possApply
    dsimp only
    split
    · exact h
    · split
      · exact h.of_faces (by simp)
      · split
        · exact h.of_faces (by simp)
        · split
          · exact h.of_faces (by simp)
          · split
            · exact h.of_faces (by simp)
            · exact h.applyLock _ _

theorem possLift_keeps (target : BitVec 8) : EffectKeeps (possLift target) :=
  .of_faces (fun s a => by unfold possLift; dsimp only; (repeat' split) <;> simp)
    (fun s a => by unfold possLift; dsimp only; (repeat' split) <;> simp)

/-- A command that answers and changes nothing. -/
theorem EffectKeeps.of_still {reply : State → Reply} : EffectKeeps (fun s _ => (s, reply s)) := fun _ _ _ h => h

/-! ### Frames -/

theorem sweepPass_keeps : PassKeeps State.sweepPass := .of_safe State.sweepPass_phase fun _ f h => h.sweepPass f

theorem sweepReturn_keeps : PassKeeps State.sweepReturn :=
  .of_safe State.sweepReturn_phase fun _ _ h => h.sweepPass _

theorem closeAll_keeps : PassKeeps State.closeAll :=
  .of_safe State.closeAll_phase fun s _ h => (State.arise_tame s .closeAll).safe h

theorem State.misplaced_tame (s : State) : s.Tame s.misplaced := by
  have hl : s.Tame (s.latch .position) := .of_faces (State.latch_faces _ _)
  unfold State.misplaced
  dsimp only
  cases s.node.state with
  | service | held => exact hl.trans (State.arise_tame _ .position)
  | unnumbered | numbered | standby | failsafe | maintenance => exact hl

theorem State.enumerated_tame (s : State) (c : Nat) : s.Tame (s.enumerated c) := by
  have hn : ∀ n, s.Tame (s.setNode n) := fun n => .of_faces (State.setNode_faces s n)
  unfold State.enumerated
  split
  · split
    · split
      · exact hn _
      · exact (hn _).trans (State.misplaced_tame _)
    · exact (hn _).trans (State.misplaced_tame _)
  · split
    · exact hn _
    · exact (hn _).then_faces (State.latch_faces _ _)

theorem enumerate_keeps : PassKeeps State.enumerate :=
  .of_safe State.enumerate_phase fun s _ h => (State.enumerated_tame s _).safe h

theorem rollcall_keeps : PassKeeps State.rollcall := .of_faces State.rollcall_phase State.rollcall_faces

theorem unknownPass_keeps (p : Port) : PassKeeps (unknownPass p) :=
  .of_faces (fun s _ => State.countUnknown_phase s p) (fun s _ => State.countUnknown_faces s p)

theorem clashPass_keeps (x : Payload) : PassKeeps (clashPass x) :=
  .of_faces (fun s _ => State.latchIf_phase s _ _) (fun s _ => State.latchIf_faces s _ _)

theorem execSweep_facesInv {s t : State} {p : Port} {x : Payload} (h : s.FacesInv) (ht : execSweep p x s = .next t) :
    t.FacesInv := by
  cases p with
  | a => cases ht; exact h.receiveA rfl sweepPass_keeps sweepReturn_keeps State.sweepReturn_phase
  | b => cases ht; exact h.receiveB rfl sweepPass_keeps State.sweepPass_phase

theorem execCloseall_facesInv {s t : State} {p : Port} {x : Payload} (h : s.FacesInv)
    (ht : execCloseall p x s = .next t) : t.FacesInv := by
  cases p with
  | a => cases ht; exact h.receiveA rfl closeAll_keeps closeAll_keeps State.closeAll_phase
  | b => cases ht; exact h.receiveB rfl closeAll_keeps State.closeAll_phase

theorem execUnknownFrame_facesInv {s t : State} {p : Port} {k : BitVec 4} {x : Payload} (h : s.FacesInv)
    (ht : execUnknownFrame p k x s = .next t) : t.FacesInv := by
  unfold execUnknownFrame at ht
  split at ht
  · cases p with
    | a => cases ht; exact h.receiveA rfl (unknownPass_keeps .a) unchanged_keeps fun _ _ => rfl
    | b => cases ht; exact h.receiveB rfl (unknownPass_keeps .b) fun s _ => State.countUnknown_phase s .b
  · cases ht; exact h

theorem execForwardUnchanged_facesInv {s t : State} {p : Port} {k : BitVec 4} {x : Payload} (h : s.FacesInv)
    (ht : execForwardUnchanged p k x s = .next t) : t.FacesInv := by
  cases p with
  | a =>
    unfold execForwardUnchanged at ht
    dsimp only at ht
    split at ht
    · cases ht; exact h.receiveA rfl (clashPass_keeps x) unchanged_keeps fun _ _ => rfl
    · cases ht; exact h
  | b =>
    unfold execForwardUnchanged at ht
    dsimp only at ht
    split at ht
    · cases ht; exact h.receiveB rfl unchanged_keeps fun _ _ => rfl
    · cases ht; exact h

theorem execStartUpForward_facesInv {s t : State} {p : Port} {k : BitVec 4} {x : Payload} (h : s.FacesInv)
    (ht : execStartUpForward p k x s = .next t) : t.FacesInv := by
  have hf := (h.received p).forwardInStartUp p (f := payloadFrame x k p) rfl
  unfold execStartUpForward at ht
  split at ht
  · split at ht <;> cases ht
    exacts [hf, hf, hf, h]
  · cases ht; exact h

theorem execFrameCheckFailed_facesInv {s t : State} {p : Port} {ws : List Word} (h : s.FacesInv)
    (ht : execFrameCheckFailed p ws s = .next t) : t.FacesInv := by
  unfold execFrameCheckFailed at ht
  split at ht
  · cases ht; exact h
  · split at ht <;> cases ht
    exacts [h, (h.setLine (by simp) (by simp)).countError p _]

theorem execUndefinedCommand_facesInv {s t : State} {c : BitVec 8} {x : CommandPayload} (h : s.FacesInv)
    (ht : execUndefinedCommand c x s = .next t) : t.FacesInv := by
  have hs := h.receiveA (f := commandFrame c x) rfl (judgeSilent_keeps x.target) unchanged_keeps fun _ _ => rfl
  unfold execUndefinedCommand at ht
  split at ht
  · cases ht; exact hs
  · split at ht <;> cases ht
    exacts [h, hs]

theorem execDiscardingEnd_facesInv {s t : State} {p : Port} (h : s.FacesInv) (ht : execDiscardingEnd p s = .next t) :
    t.FacesInv := by
  unfold execDiscardingEnd at ht
  split at ht <;> cases ht
  exacts [h.setLine (by simp) (by simp), h]

/-! ### Channel events -/

/-- The channels act: the part relights or runs. -/
theorem State.FacesInv.awake {s : State} (h : s.FacesInv) {f : Face}
    (hc : (∃ k, (s.shutter f k).state ≠ .off) ∨ (s.lamp f).state ≠ .off) : s.phase.early = false := by
  cases he : s.phase.early with
  | false => rfl
  | true =>
    obtain ⟨-, helem, -⟩ := (State.startUpOk_early he).mp h.2
    exfalso
    rcases hc with ⟨k, hk⟩ | hl
    · exact hk (by cases f <;> cases k <;> simp [State.shutter, State.channels, helem] <;> rfl)
    · exact hl (by cases f <;> simp [State.lamp, State.channels, helem] <;> rfl)

/-- An operation past the settle that keeps R9's law, the node's state and the line. -/
theorem State.FacesInv.of_awake {s t : State} (h : s.FacesInv) (ha : s.phase.early = false) (ht : s.Tame t)
    (hp : t.phase = s.phase) (hn : t.node.state = s.node.state) (hl : t.line = s.line) : t.FacesInv := by
  refine ⟨ht.safe h.1, ?_⟩
  cases hq : s.phase with
  | held | settling => simp [hq, Phase.early] at ha
  | running => exact State.startUpOk_running (hp.trans hq)
  | relighting a b =>
    rw [State.startUpOk_relighting (hp.trans hq), State.unserved_congr hn (by rw [hl]) (by rw [hl])]
    exact h.unserved (by simp [hq])

/-- The tests of R75 and R77 concern a served node. -/
theorem State.FacesInv.nodeTests {s : State} (h : s.FacesInv) (ha : s.phase.early = false) : s.nodeTests.FacesInv := by
  cases hq : s.phase with
  | held | settling => simp [hq, Phase.early] at ha
  | running => exact .of_running (by simpa using hq) ((State.nodeTests_tame s).safe h.1)
  | relighting a b =>
    have hn := ((State.unserved_iff s).mp (h.unserved (by simp [hq]))).1
    have hs : s.nodeTests = s := by simp [State.nodeTests, hn]
    rwa [hs]

/-- A channel's report on an awake part, and the tests that follow it. -/
theorem State.FacesInv.report {s u : State} (h : s.FacesInv) (ha : s.phase.early = false) (f : Face) (ht : s.Tame u)
    (hp : u.phase = s.phase) (hn : u.node = s.node) (hl : u.line = s.line) : (u.afterReport f).FacesInv := by
  have hu := h.of_awake ha (ht.trans (State.channelTests_tame u f)) (by simp [hp]) (by simp [hn]) (by simp [hl])
  exact hu.nodeTests (by simpa [hp] using ha)

/-- The end of start-up sets the role, R58, R189. -/
theorem State.FacesInv.startUpEnd {s : State} (h : s.FacesInv) : s.startUpEnd.FacesInv := by
  have hr : (s.setPhase .running).FacesInv := h.of_running_faces rfl (by simp)
  unfold State.startUpEnd
  dsimp only
  split
  · exact h.of_running_faces (by simp) (by simp)
  · split
    · exact hr.wrap rfl
    · exact h.of_running_faces (by simp) (by simp)

theorem State.FacesInv.lampReported {s : State} (h : s.FacesInv) (f : Face) : (s.lampReported f).FacesInv := by
  have hphase : ∀ a b, s.phase = .relighting a b → ∀ x y, (s.setPhase (.relighting x y)).FacesInv := by
    intro a b hq x y
    have hu := h.unserved (by simp [hq])
    refine ⟨h.1.of_faces (by simp), (State.startUpOk_relighting (e := x) (w := y) (by simp)).trans ?_⟩
    rw [State.unserved_congr (s := s) (by simp) (by simp) (by simp), hu]
  unfold State.lampReported
  split
  next hq => split; exacts [h.startUpEnd, hphase _ _ hq _ _]
  next hq => split; exacts [h.startUpEnd, hphase _ _ hq _ _]
  next => exact h
  next => exact h
  next => exact h

theorem execMoved_facesInv {s t : State} {f : Face} {k : Shutter} {a b : Nat} (h : s.FacesInv)
    (ht : execMoved f k a b s = .next t) : t.FacesInv := by
  unfold execMoved at ht
  dsimp only at ht
  split at ht
  next hg =>
    cases ht
    have hne : (s.shutter f k).state ≠ .off := by
      intro ho; simp [ho] at hg
    exact h.report (h.awake (.inl ⟨k, hne⟩)) f ((State.Tame.of_faces (by simp)).trans (State.movedStep_tame _ f k))
      (by simp) (by simp) (by simp)
  next => cases ht; exact h

theorem execHitTimeEnd_facesInv {s t : State} {f : Face} {k : Shutter} (h : s.FacesInv)
    (ht : execHitTimeEnd f k s = .next t) : t.FacesInv := by
  unfold execHitTimeEnd at ht
  dsimp only at ht
  split at ht
  next hg =>
    have ha := h.awake (f := f) (.inl ⟨k, by simp [hg]⟩)
    split at ht <;> cases ht
    · exact h.report ha f (.of_faces (by simp)) (by simp) (by simp) (by simp)
    · exact h.report ha f ((State.Tame.of_faces (by simp)).trans (State.elementFault_tame _ f)) (by simp) (by simp)
        (by simp)
  next => cases ht; exact h

theorem execHoldLost_facesInv {s t : State} {f : Face} {k : Shutter} {raw : Nat} (h : s.FacesInv)
    (ht : execHoldLost f k raw s = .next t) : t.FacesInv := by
  unfold execHoldLost at ht
  dsimp only at ht
  split at ht
  next hg =>
    cases ht
    have hne : (s.shutter f k).state ≠ .off := by
      intro ho; simp [ho] at hg
    exact h.report (h.awake (.inl ⟨k, hne⟩)) f ((State.Tame.of_faces (by simp)).trans (State.elementFault_tame _ f))
      (by simp) (by simp) (by simp)
  next => cases ht; exact h

theorem execDropped_facesInv {s t : State} {f : Face} {k : Shutter} {raw : Nat} (h : s.FacesInv)
    (ht : execDropped f k raw s = .next t) : t.FacesInv := by
  unfold execDropped at ht
  dsimp only at ht
  split at ht
  next hg =>
    cases ht
    have hne : (s.shutter f k).state ≠ .off := by
      intro ho; simp [ho] at hg
    exact h.report (h.awake (.inl ⟨k, hne⟩)) f ((State.Tame.of_faces (by simp)).trans (State.droppedStep_tame _ f k))
      (by simp) (by simp) (by simp)
  next => cases ht; exact h

theorem execNotDropped_facesInv {s t : State} {f : Face} {k : Shutter} {raw : Nat} (h : s.FacesInv)
    (ht : execNotDropped f k raw s = .next t) : t.FacesInv := by
  unfold execNotDropped at ht
  dsimp only at ht
  split at ht
  next hg =>
    cases ht
    have hne : (s.shutter f k).state ≠ .off := by
      intro ho; simp [ho] at hg
    exact h.report (h.awake (.inl ⟨k, hne⟩)) f ((State.Tame.of_faces (by simp)).trans (State.elementFault_tame _ f))
      (by simp) (by simp) (by simp)
  next => cases ht; exact h

theorem execOvercurrent_facesInv {s t : State} {f : Face} {k : Shutter} {raw : Nat} (h : s.FacesInv)
    (ht : execOvercurrent f k raw s = .next t) : t.FacesInv := by
  unfold execOvercurrent at ht
  dsimp only at ht
  split at ht
  next hg =>
    cases ht
    have hne : (s.shutter f k).state ≠ .off := by
      intro ho; simp [ho, ShutterChannel.active] at hg
    exact h.report (h.awake (.inl ⟨k, hne⟩)) f ((State.Tame.of_faces (by simp)).trans (State.elementFault_tame _ f))
      (by simp) (by simp) (by simp)
  next => cases ht; exact h

theorem execLit_facesInv {s t : State} {f : Face} {raw : Nat} (h : s.FacesInv) (ht : execLit f raw s = .next t) :
    t.FacesInv := by
  unfold execLit at ht
  dsimp only at ht
  split at ht
  next hg =>
    cases ht
    have hne : (s.lamp f).state ≠ .off := by
      intro ho; simp [ho] at hg
    exact (h.report (h.awake (.inr hne)) f ((State.Tame.of_faces (by simp)).trans (State.litStep_tame _ f))
      (by simp) (by simp) (by simp)).lampReported f
  next => cases ht; exact h

theorem State.FacesInv.lampFails {s : State} (h : s.FacesInv) {f : Face} (hl : (s.lamp f).state ≠ .off) (c : LampChannel)
    (x : ChannelFault) : (s.lampFails f c x).FacesInv :=
  (h.report (h.awake (.inr hl)) f ((State.Tame.of_faces (by simp)).trans (State.lampFault_tame _ f))
    (by simp) (by simp) (by simp)).lampReported f

theorem execNotLit_facesInv {s t : State} {f : Face} (h : s.FacesInv) (ht : execNotLit f s = .next t) :
    t.FacesInv := by
  unfold execNotLit at ht
  split at ht
  next hg => cases ht; exact h.lampFails (by simp [hg]) _ _
  next => cases ht; exact h

theorem execLampOpen_facesInv {s t : State} {f : Face} {raw : Nat} (h : s.FacesInv)
    (ht : execLampOpen f raw s = .next t) : t.FacesInv := by
  unfold execLampOpen at ht
  dsimp only at ht
  split at ht
  next hg => cases ht; exact h.lampFails (fun ho => by simp [ho] at hg) _ _
  next => cases ht; exact h

theorem execLampOvercurrent_facesInv {s t : State} {f : Face} {raw : Nat} (h : s.FacesInv)
    (ht : execLampOvercurrent f raw s = .next t) : t.FacesInv := by
  unfold execLampOvercurrent at ht
  dsimp only at ht
  split at ht
  next hg => cases ht; exact h.lampFails (fun ho => by simp [ho] at hg) _ _
  next => cases ht; exact h

theorem execLampCurrentMoveEnd_facesInv {s : State} (h : s.FacesInv) (f : Face) :
    (s.setLamp f { s.lamp f with moveFrom := none }).FacesInv := by
  refine h.of_blocks (by simp) (by simp) (fun he => ?_) fun hu => ?_
  · obtain ⟨-, helem, -⟩ := (State.startUpOk_early he).mp h.2
    cases f <;> simp [State.setLamp, State.setChannels, State.lamp, State.channels, helem, ElementBlock.reset,
      FaceChannels.reset, LampChannel.reset]
  · rwa [State.unserved_congr (s := s) (by simp) (by simp) (by simp)]

/-! ### Supervision, power and start-up -/

theorem State.FacesInv.arise {s : State} (h : s.FacesInv) (c : Cause) : (s.arise c).FacesInv := by
  by_cases hp : s.phase = .running
  · exact .of_running (by simpa using hp) ((State.arise_tame s c).safe h.1)
  · have hn := ((State.unserved_iff s).mp (h.unserved hp)).1
    have hs : s.arise c = s.setNode (s.node.addCause c) := by simp [State.arise, hn]
    rw [hs]
    exact h.of_frame (by simp) (by simp) (by simp) rfl (by simp)

theorem State.FacesInv.setSup {s : State} (h : s.FacesInv) (x : SupBlock) : (s.setSup x).FacesInv :=
  h.of_frame (by simp) (by simp) (by simp) (by simp) (by simp)

theorem execTHoldExpiry_facesInv {s t : State} (h : s.FacesInv) (ht : execTHoldExpiry s = .next t) : t.FacesInv := by
  unfold execTHoldExpiry at ht
  split at ht
  · split at ht
    next hn =>
      cases ht
      have hp : s.phase = .running := by
        by_contra hp
        have := ((State.unserved_iff s).mp (h.unserved hp)).1
        simp [hn] at this
      exact h.of_running_faces (by simpa using hp) (by simp)
    next => cases ht; exact h
  · cases ht; exact h
  · cases ht; exact h

theorem execTCloseExpiry_facesInv {s t : State} (h : s.FacesInv) (ht : execTCloseExpiry s = .next t) :
    t.FacesInv := by
  unfold execTCloseExpiry at ht
  split at ht
  · split at ht <;> cases ht
    exacts [(h.setSup _).arise _, h]
  · cases ht; exact h
  · cases ht; exact h

theorem execLoopOpen_facesInv {s t : State} {x : Nat} (h : s.FacesInv) (ht : execLoopOpen x s = .next t) :
    t.FacesInv := by
  unfold execLoopOpen at ht
  split at ht <;> cases ht
  exacts [(h.setSup _).arise _, h]

theorem execLoopRestored_facesInv {s t : State} {x : Nat} (h : s.FacesInv) (ht : execLoopRestored x s = .next t) :
    t.FacesInv := by
  unfold execLoopRestored at ht
  split at ht <;> cases ht
  exacts [h.setSup _, h]

theorem execSupplyLow_facesInv {s t : State} {x : Nat} (h : s.FacesInv) (ht : execSupplyLow x s = .next t) :
    t.FacesInv := by
  unfold execSupplyLow at ht
  split at ht <;> cases ht
  exacts [((h.setSup _).latch _).arise _, h]

theorem execSupplyNormal_facesInv {s t : State} {x y : Nat} (h : s.FacesInv) (ht : execSupplyNormal x y s = .next t) :
    t.FacesInv := by
  unfold execSupplyNormal at ht
  split at ht <;> cases ht
  exacts [h.setSup _, h]

theorem execSupplyDipReset_facesInv {s t : State} {x : Nat} (h : s.FacesInv)
    (ht : execSupplyDipReset x s = .next t) : t.FacesInv := by
  unfold execSupplyDipReset at ht
  split at ht
  · split at ht
    · cases ht; exact State.doReset_facesInv _ _ _
    · split at ht <;> cases ht
      exacts [h.of_frame (by simp) (by simp) (by simp) rfl (by simp), h]
  · cases ht; exact h

theorem execResetEnd_facesInv {s t : State} {x : Nat} (h : s.FacesInv) (ht : execResetEnd x s = .next t) :
    t.FacesInv := by
  unfold execResetEnd at ht
  split at ht
  next hg =>
    cases ht
    have hp : s.phase = .held := by
      simp only [State.runs, Bool.and_eq_true, Bool.not_eq_true', bne_eq_false_iff_eq, decide_eq_true_eq] at hg
      exact hg.1
    obtain ⟨hf, he, hu⟩ := (State.startUpOk_early (s := s) (by rw [hp]; rfl)).mp h.2
    exact ⟨h.1.of_faces (by simp), (State.startUpOk_early (s := s.setPhase .settling) rfl).mpr ⟨hf, he, hu⟩⟩
  next => cases ht; exact h

theorem State.relight_face_other (s : State) (f : Face) :
    (s.relight f).face (otherFace f) = s.face (otherFace f) := by
  unfold State.relight
  split <;> simp [State.lampFault]

theorem execStartUpSettleEnd_facesInv {s t : State} (h : s.FacesInv) (ht : execStartUpSettleEnd s = .next t) :
    t.FacesInv := by
  unfold execStartUpSettleEnd at ht
  split at ht
  next hp =>
    cases ht
    obtain ⟨hf, -, hu⟩ := (State.startUpOk_early (s := s) (by rw [hp]; rfl)).mp h.2
    have hdark : ∀ f, (s.face f).shown = .dark := fun f => by cases f <;> simp [State.face, hf] <;> rfl
    have hload : s.Tame (s.loadAll.setPhase (.relighting false false)) := .of_faces (by simp)
    have hw : (((s.loadAll.setPhase (.relighting false false)).relight .e).face (otherFace .e)).shown = .dark := by
      rw [State.relight_face_other _ .e, State.face_of_faces (s := s) (by simp)]
      exact hdark _
    have ht := (hload.trans (State.relight_tame (f := .e) (by simpa [State.face_of_faces (s := s)] using hdark .e))).trans
      (State.relight_tame (f := .w) hw)
    refine ⟨ht.safe h.1, (State.startUpOk_relighting (e := false) (w := false) (by simp)).trans ?_⟩
    rw [State.unserved_congr (s := s) (by simp) (by simp) (by simp)]
    exact hu
  next => cases ht; exact h

/-! ### The storage writer -/

theorem execStoreImageDone_facesInv {s t : State} (h : s.FacesInv) (ht : execStoreImageDone s = .next t) :
    t.FacesInv := by
  unfold execStoreImageDone at ht
  split at ht <;> cases ht
  · exact h.of_frame (by simp) (by simp) (by simp) (by simp) (by simp)
  · exact h.of_frame (by simp) (by simp) (by simp) (by simp) (by simp)
  · exact h.of_frame (by simp) (by simp) (by simp) (by simp) (by simp)
  all_goals exact h

theorem execEraseImageDone_facesInv {s t : State} (h : s.FacesInv) (ht : execEraseImageDone s = .next t) :
    t.FacesInv := by
  unfold execEraseImageDone at ht
  split at ht <;> cases ht
  · exact h.of_frame (by simp) (by simp) (by simp) (by simp) (by simp)
  · exact h.of_frame (by simp) (by simp) (by simp) (by simp) (by simp)
  all_goals exact h

theorem execLockWriteDone_facesInv {s t : State} (h : s.FacesInv) (ht : execLockWriteDone s = .next t) :
    t.FacesInv := by
  unfold execLockWriteDone at ht
  split at ht <;> cases ht
  · exact h.of_frame (by simp) (by simp) (by simp) (by simp) (by simp)
  all_goals exact h

/-! ### Every step -/

theorem exec_facesInv {s t : State} {i : Instr} (h : s.FacesInv) (ht : exec i s = .next t) : t.FacesInv := by
  cases i with
  | sweep p x => exact execSweep_facesInv h ht
  | rollcall x => cases ht; exact h.receiveA rfl rollcall_keeps unchanged_keeps fun _ _ => rfl
  | enumerate x => cases ht; exact h.receiveA rfl enumerate_keeps unchanged_keeps fun _ _ => rfl
  | closeall p x => exact execCloseall_facesInv h ht
  | unknownFrame p k x => exact execUnknownFrame_facesInv h ht
  | forwardUnchanged p k x => exact execForwardUnchanged_facesInv h ht
  | startUpForward p k x => exact execStartUpForward_facesInv h ht
  | frameCheckFailed p ws => exact execFrameCheckFailed_facesInv h ht
  | framingError p xs => cases ht; exact h.listen p xs
  | frameSent p => exact execFrameSent_facesInv h ht
  | portDown p xs => exact execPortDown_facesInv h ht
  | portUp p xs => exact execPortUp_facesInv h ht
  | readIdentity x => cases ht; exact h.command .of_still
  | readSite x => cases ht; exact h.command .of_still
  | readStatus x => cases ht; exact h.command .of_still
  | readFace x => cases ht; exact h.command readFace_keeps
  | readChannel x raw => cases ht; exact h.command (readChannel_keeps raw)
  | readPlan x => cases ht; exact h.command readPlan_keeps
  | readLocks x => cases ht; exact h.command .of_still
  | readCounters x => cases ht; exact h.command .of_still
  | writeSite x b => cases ht; exact h.command (writeSite_keeps b)
  | writeFace x => cases ht; exact h.command writeFace_keeps
  | setMasks x => cases ht; exact h.command setMasks_keeps
  | clearFaults x sense => cases ht; exact h.command (clearFaults_keeps sense)
  | loadBegin x => cases ht; exact h.command loadBegin_keeps
  | loadBlock x => cases ht; exact h.command loadBlock_keeps
  | loadEnd x => cases ht; exact h.command loadEnd_keeps
  | swap x => cases ht; exact h.command swap_keeps
  | store x => cases ht; exact h.command store_keeps
  | eraseStore x => cases ht; exact h.command eraseStore_keeps
  | commission x => cases ht; exact h.command commission_keeps
  | enterService x => cases ht; exact h.command enterService_keeps
  | leaveService x => cases ht; exact h.command leaveService_keeps
  | release x ms => cases ht; exact h.command (release_keeps ms)
  | maintain x => cases ht; exact h.command maintain_keeps
  | endMaintain x => cases ht; exact h.command endMaintain_keeps
  | reset x => cases ht; exact h.command .of_still
  | faceSet x => cases ht; exact h.command faceSetCommand_keeps
  | elementTest x => cases ht; exact h.command elementTestCommand_keeps
  | possFrom x => cases ht; exact h.command possFrom_keeps
  | possTo x => cases ht; exact h.command possTo_keeps
  | possExcept x => cases ht; exact h.command possExcept_keeps
  | possApply x => cases ht; exact h.command possApply_keeps
  | possLift x => cases ht; exact h.command (possLift_keeps x.target)
  | undefinedCommand c x => exact execUndefinedCommand_facesInv h ht
  | moved f k a b => exact execMoved_facesInv h ht
  | hitTimeEnd f k => exact execHitTimeEnd_facesInv h ht
  | holdLost f k raw => exact execHoldLost_facesInv h ht
  | dropped f k raw => exact execDropped_facesInv h ht
  | notDropped f k raw => exact execNotDropped_facesInv h ht
  | overcurrent f k raw => exact execOvercurrent_facesInv h ht
  | lit f raw => exact execLit_facesInv h ht
  | notLit f => exact execNotLit_facesInv h ht
  | lampOpen f raw => exact execLampOpen_facesInv h ht
  | lampOvercurrent f raw => exact execLampOvercurrent_facesInv h ht
  | lampCurrentMoveEnd f => cases ht; exact execLampCurrentMoveEnd_facesInv h f
  | tHoldExpiry => exact execTHoldExpiry_facesInv h ht
  | tCloseExpiry => exact execTCloseExpiry_facesInv h ht
  | loopOpen x => exact execLoopOpen_facesInv h ht
  | loopRestored x => exact execLoopRestored_facesInv h ht
  | supplyLow x => exact execSupplyLow_facesInv h ht
  | supplyNormal x ms => exact execSupplyNormal_facesInv h ht
  | supplyDipReset x => exact execSupplyDipReset_facesInv h ht
  | powerOn => cases ht; exact State.doReset_facesInv _ _ _
  | resetEnd x => exact execResetEnd_facesInv h ht
  | startUpSettleEnd => exact execStartUpSettleEnd_facesInv h ht
  | storeImageDone => exact execStoreImageDone_facesInv h ht
  | eraseImageDone => exact execEraseImageDone_facesInv h ht
  | lockWriteDone => exact execLockWriteDone_facesInv h ht
  | discardingEnd p => exact execDiscardingEnd_facesInv h ht

/-- Settles O55: an invariant over all commands. Every operation of the face controller keeps the records sound and makes no
face permissive; only a change that starts does, and FACE_SET and the gates of a pass admit it where the other face is STEADY on
CLOSED or this one is permissive already. -/
theorem facesStaySoundAndOneWay : Obligations.FacesStaySoundAndOneWay := by
  unfold Obligations.FacesStaySoundAndOneWay
  intro s t ht hs ho hu
  have h : s.FacesInv := s.facesInv_iff.mpr ⟨hs, ho, hu⟩
  rw [← State.facesInv_iff]
  cases hp : s.pending with
  | nil => simp only [step, hp, Host.Outcome.next.injEq] at ht; exact ht ▸ h
  | cons i rest =>
    rw [step_cons hp] at ht
    exact exec_facesInv (h.of_frame (by simp) (by simp) (by simp) (by simp) (by simp)) ht

end Sys2Proof.Machine
end

section
/-! SUPPORT. What the face controller's operations come to (R9-R21), case by case: the tests that follow a report, a return, the
start and the end of a change, the relight. The statements about commands and channel events are assembled from these. -/

namespace Sys2Proof.Machine

/-! ### The tests that follow a report -/

/-- The tests of R75 and R77 ask for both faces STEADY on CLOSED. -/
theorem State.nodeTests_of_open {s : State} {f : Face} (h : (s.face f).steadyClosed = false) : s.nodeTests = s := by
  have hb : s.bothClosed = false := by
    cases f with
    | e => simp_all [State.bothClosed, State.face]
    | w => simp_all [State.bothClosed, State.face]
  simp [State.nodeTests, hb]

theorem State.nodeTests_of_maintenance {s : State} (hm : s.node.state = .maintenance) (he : s.node.ending = false) :
    s.nodeTests = s := by simp [State.nodeTests, hm, he]

theorem State.returnTest_of_not_returning {s : State} {f : Face} (h : (s.face f).state ≠ .returning) :
    s.returnTest f = s := by simp [State.returnTest, h]

theorem State.returnTest_of_active {s : State} {f : Face} (h : s.quiet f = false) : s.returnTest f = s := by
  simp [State.returnTest, h]

theorem State.returnTest_quiet {s : State} {f : Face} (hs : (s.face f).state = .returning) (hq : s.quiet f = true) :
    s.returnTest f = s.endReturn f := by simp [State.returnTest, hs, hq]

theorem State.darkTest_of_not {s : State} {f : Face} (h : (s.face f).changingTo .dark = false) : s.darkTest f = s := by
  simp [State.darkTest, h]

theorem State.darkTest_of_active {s : State} {f : Face} (h : s.quiet f = false) : s.darkTest f = s := by
  simp [State.darkTest, h]

theorem State.relightTest_of_active {s : State} {f : Face} (h : s.quiet f = false) : s.relightTest f = s := by
  simp [State.relightTest, h]

/-- The relight of a face is tested where it stands STEADY DARK and awaits it. -/
theorem State.relightTest_of_not {s : State} {f : Face} (h : ((s.face f).relightAwaited && (s.face f).steadyDark) = false) :
    s.relightTest f = s := by simp [State.relightTest, h]

theorem State.relightTest_off {s : State} {f : Face} (hw : (s.face f).relightAwaited = true)
    (hd : (s.face f).steadyDark = true) (ho : s.allOff f = true) : s.relightTest f = s.relight f := by
  simp [State.relightTest, hw, hd, ho, State.quiet_of_allOff ho]

theorem State.relightTest_blocked {s : State} {f : Face} (hw : (s.face f).relightAwaited = true)
    (hd : (s.face f).steadyDark = true) (hq : s.quiet f = true) (hb : s.anyBlocked f = true) :
    s.relightTest f = s.setFace f (s.face f).stayDark := by
  simp [State.relightTest, hw, hd, hq, State.allOff_of_anyBlocked hb]

theorem FaceRecord.changingTo_of_not_changing {r : FaceRecord} (h : r.state ≠ .changing) (a : Aspect) :
    r.changingTo a = false := by simp [FaceRecord.changingTo, h]

/-- With a shutter active no wait of the face ends. -/
theorem State.channelTests_of_active {s : State} {f : Face} (h : s.quiet f = false) : s.channelTests f = s := by
  rw [State.channelTests, State.returnTest_of_active h, State.darkTest_of_active h, State.relightTest_of_active h]

/-- On a STEADY face the relight alone is tested. -/
theorem State.channelTests_steady {s : State} {f : Face} (h : (s.face f).state = .steady) :
    s.channelTests f = s.relightTest f := by
  rw [State.channelTests, State.returnTest_of_not_returning (by simp [h]),
    State.darkTest_of_not (FaceRecord.changingTo_of_not_changing (by simp [h]) _)]

theorem State.channelTests_at_rest {s : State} {f : Face} (h : (s.face f).state = .steady)
    (hw : ((s.face f).relightAwaited && (s.face f).steadyDark) = false) : s.channelTests f = s := by
  rw [State.channelTests_steady h, State.relightTest_of_not hw]

/-- On a face in a change to another aspect than DARK no wait ends. -/
theorem State.channelTests_changing {s : State} {f : Face} (h : (s.face f).state = .changing)
    (hd : (s.face f).changingTo .dark = false) : s.channelTests f = s := by
  rw [State.channelTests, State.returnTest_of_not_returning (by simp [h]), State.darkTest_of_not hd,
    State.relightTest_of_not (by simp [FaceRecord.steadyDark, h])]

/-- In a change to DARK the end of R13's wait is tested, and then the relight. -/
theorem State.channelTests_to_dark {s : State} {f : Face} (h : (s.face f).changingTo .dark = true) :
    s.channelTests f = (s.darkTest f).relightTest f := by
  have hs := ((FaceRecord.changingTo_iff _ _).mp h).1
  rw [State.channelTests, State.returnTest_of_not_returning (by simp [hs])]

/-- With a shutter active a report leaves the face where it is, and the node's tests follow. -/
theorem State.afterReport_of_active {s : State} {f : Face} (h : s.quiet f = false) : s.afterReport f = s.nodeTests := by
  rw [State.afterReport, State.channelTests_of_active h]

theorem State.afterReport_changing {s : State} {f : Face} (h : (s.face f).state = .changing)
    (hd : (s.face f).changingTo .dark = false) : s.afterReport f = s := by
  rw [State.afterReport, State.channelTests_changing h hd,
    State.nodeTests_of_open (f := f) (by simp [FaceRecord.steadyClosed, h])]

theorem State.afterReport_at_rest {s : State} {f : Face} (h : (s.face f).state = .steady)
    (hw : ((s.face f).relightAwaited && (s.face f).steadyDark) = false) : s.afterReport f = s.nodeTests := by
  rw [State.afterReport, State.channelTests_at_rest h hw]

/-- With a shutter active a report leaves a face that is not STEADY on CLOSED, and the node. -/
theorem State.afterReport_of_active_open {s : State} {f : Face} (h : s.quiet f = false)
    (hc : (s.face f).steadyClosed = false) : s.afterReport f = s := by
  rw [State.afterReport_of_active h, State.nodeTests_of_open hc]

/-! ### Returns, R16, R17 -/

/-- The latch a shutter fault leaves, R16. -/
theorem FaceRecord.latchElement_eq (r : FaceRecord) :
    r.latchElement = { r with latch := if r.latch = .none then .element else r.latch } := by
  unfold FaceRecord.latchElement; split <;> rfl

theorem State.endReturn_dark {s : State} {f : Face} (h : s.anyNotDropped f = true) :
    s.endReturn f = (s.lampOff f).setFace f (s.face f).returnDark := by simp [State.endReturn, h]

theorem State.endReturn_closed {s : State} {f : Face} (h : s.anyNotDropped f = false) :
    s.endReturn f = s.setFace f (s.face f).returnClosed := by simp [State.endReturn, h]

theorem State.startReturn_active {s : State} {f : Face} (floor : Nat) (h : s.quiet f = false) :
    s.startReturn f floor = (s.setFace f ((s.face f).toReturning floor)).releaseDriven f := by
  rw [State.startReturn, State.returnTest_of_active (by simpa using h)]

theorem State.startReturn_quiet {s : State} {f : Face} (floor : Nat) (h : s.quiet f = true) :
    s.startReturn f floor = (s.setFace f ((s.face f).toReturning floor)).endReturn f := by
  rw [State.startReturn, State.releaseDriven_quiet_self (by simpa using h),
    State.returnTest_quiet (by rw [State.setFace_face]; rfl) (by simpa using h)]

/-- A face that a shutter fault sends RETURNING, R16: permissive and STEADY, or in a change between ranked aspects. -/
def FaceRecord.Returns (r : FaceRecord) : Prop :=
  (r.state = .steady ∧ r.shown.permissive = true ∧ r.env = steadyEnv r.shown) ∨
    (r.state = .changing ∧ r.changingTo .dark = false ∧ r.relighting = false)

theorem State.elementFault_returns {s : State} {f : Face} (h : (s.face f).Returns) :
    s.elementFault f = (s.setFace f (s.face f).latchElement).startReturn f (s.face f).env.floor := by
  rcases h with ⟨hs, hp, he⟩ | ⟨hs, hd, hr⟩
  · have hf : (s.face f).rank = (s.face f).env.floor := by
      rw [he, FaceRecord.rank]
      cases hshown : (s.face f).shown <;> simp_all [Aspect.permissive, steadyEnv, Aspect.rank]
    simp [State.elementFault, hs, hp, hf]
  · simp [State.elementFault, hs, hd, hr]

/-- A face sent RETURNING with a shutter active, R5, R16. -/
theorem State.elementFault_active {s : State} {f : Face} (h : (s.face f).Returns) (hq : s.quiet f = false) :
    s.elementFault f = (s.setFace f { s.face f with
      state := .returning, env := ⟨(s.face f).env.floor, 2⟩, change := none
      latch := if (s.face f).latch = .none then .element else (s.face f).latch
      pending := (s.face f).pending.map fun p => { p with reason := .inChange } }).releaseDriven f := by
  rw [State.elementFault_returns h, State.startReturn_active _ (by simpa using hq), FaceRecord.latchElement_eq]
  simp [FaceRecord.toReturning, FaceRecord.reasonAll]

/-- A return that ends at once on DARK, R17. -/
theorem State.elementFault_dark {s : State} {f : Face} (h : (s.face f).Returns) (hq : s.quiet f = true)
    (hn : s.anyNotDropped f = true) :
    s.elementFault f = (s.lampOff f).setFace f { s.face f with
      shown := .dark, state := .steady, env := ⟨0, 2⟩, change := none
      latch := if (s.face f).latch = .lamp then .lamp else .element
      pending := (s.face f).pending.map fun p => { p with reason := .fault } } := by
  rw [State.elementFault_returns h, State.startReturn_quiet _ (by simpa using hq),
    State.endReturn_dark (by simpa using hn), FaceRecord.latchElement_eq]
  cases hl : (s.face f).latch <;>
    simp [FaceRecord.toReturning, FaceRecord.reasonAll, FaceRecord.returnDark, Envelope.wide, Function.comp_def]

/-- A return that ends at once on CLOSED, R17. -/
theorem State.elementFault_closed {s : State} {f : Face} (h : (s.face f).Returns) (hq : s.quiet f = true)
    (hn : s.anyNotDropped f = false) :
    s.elementFault f = s.setFace f { s.face f with
      shown := .closed, state := .steady, env := ⟨2, 2⟩, change := none
      latch := if (s.face f).latch = .none then .element else (s.face f).latch
      pending := (s.face f).pending.map fun p => { p with reason := .fault } } := by
  rw [State.elementFault_returns h, State.startReturn_quiet _ (by simpa using hq),
    State.endReturn_closed (by simpa using hn), FaceRecord.latchElement_eq]
  cases hl : (s.face f).latch <;>
    simp [FaceRecord.toReturning, FaceRecord.reasonAll, FaceRecord.returnClosed_eq, Function.comp_def]

/-- A face STEADY on CLOSED or DARK takes the latch alone, R16. -/
theorem State.elementFault_at_rest {s : State} {f : Face} (hs : (s.face f).state = .steady)
    (hp : (s.face f).shown.permissive = false) :
    s.elementFault f = s.setFace f { s.face f with
      latch := if (s.face f).latch = .none then .element else (s.face f).latch } := by
  simp [State.elementFault, hs, hp, FaceRecord.latchElement_eq]

theorem State.elementFault_returning {s : State} {f : Face} (hs : (s.face f).state = .returning) :
    s.elementFault f = s := by simp [State.elementFault, hs]

/-- In a change to DARK the destination stands, R13. -/
theorem State.elementFault_to_dark {s : State} {f : Face} (h : (s.face f).changingTo .dark = true) :
    s.elementFault f = s := by
  simp [State.elementFault, h, ((FaceRecord.changingTo_iff _ _).mp h).1]

/-! ### The end of a change, R15, R21 -/

/-- A change completes with no target of another aspect pending. -/
theorem FaceRecord.settleOn_eq {r : FaceRecord} {a : Aspect} (h : r.pending.all (fun p => p.aspect == a) = true) :
    r.settleOn a =
      { r with shown := a, state := .steady, env := steadyEnv a, change := none, pending := none } := by
  unfold FaceRecord.settleOn
  cases hp : r.pending with
  | none => rfl
  | some p =>
    have ha : p.aspect = a := by simpa [hp] using h
    simp [ha]

theorem steadyEnv_of_rank {a : Aspect} {n : Nat} (h : a.rank = some n) : steadyEnv a = ⟨n, n⟩ := by
  simp [steadyEnv, h]

theorem State.endingClose_of_not {s : State} {f : Face}
    (h : ¬(s.node.state = .maintenance ∧ s.node.ending = true)) : s.endingClose f = s := by
  unfold State.endingClose
  rw [if_neg]
  simp only [Bool.and_eq_true, beq_iff_eq]
  exact fun hc => h hc.1

theorem State.endingClose_on_closed {s : State} {f : Face} (h : (s.face f).shown = .closed) : s.endingClose f = s := by
  simp [State.endingClose, State.askClose, h]

/-- A change completes, R15, where no close follows it at once (R21). -/
theorem State.completeChange_eq {s : State} {f : Face} {a : Aspect} {n : Nat} (hr : a.rank = some n)
    (hp : (s.face f).pending.all (fun p => p.aspect == a) = true)
    (he : a = .closed ∨ ¬(s.node.state = .maintenance ∧ s.node.ending = true)) :
    s.completeChange f a = s.setFace f { s.face f with
      shown := a, state := .steady, env := ⟨n, n⟩, change := none, pending := none } := by
  rw [State.completeChange, FaceRecord.settleOn_eq hp, steadyEnv_of_rank hr]
  rcases he with rfl | he
  · exact State.endingClose_on_closed (by simp)
  · exact State.endingClose_of_not (by simpa using he)

/-- R13's wait ends where no close follows it. -/
theorem State.darkTest_quiet {s : State} {f : Face} (h : (s.face f).changingTo .dark = true) (hq : s.quiet f = true)
    (hp : (s.face f).pending = none) (he : ¬(s.node.state = .maintenance ∧ s.node.ending = true)) :
    s.darkTest f = (s.lampOff f).setFace f { s.face f with
      shown := .dark, state := .steady, env := ⟨0, 2⟩, change := none
      latch := if s.anyBlocked f = true then .element else (s.face f).latch } := by
  have hs : (s.face f).settleOn .dark =
      { s.face f with shown := .dark, state := .steady, env := ⟨0, 2⟩, change := none } := by
    rw [FaceRecord.settleOn_eq (by simp [hp])]
    simp [steadyEnv, Aspect.rank, Envelope.wide, hp]
  simp only [State.darkTest, h, hq, Bool.and_self, if_true, hs]
  rw [State.endingClose_of_not (by simpa using he)]
  split <;> rfl

/-! ### The start of a change, R9-R14 -/

/-- The envelope of a change to CLOSED, R5. -/
theorem changeEnv_closed (a : Aspect) : changeEnv a .closed = ⟨a.rank.getD 0, 2⟩ := by cases a <;> rfl

theorem changeEnv_dark (a : Aspect) : changeEnv a .dark = ⟨0, 2⟩ := by cases a <;> rfl

theorem State.beginChange_symbol {s : State} {f : Face} {a : Aspect} {k : Shutter} (h : a.symbol = some k) :
    s.beginChange f a = (s.setFace f ((s.face f).place a)).requestPull f k := by
  simp [State.beginChange, h, State.beginSymbol]

theorem State.beginChange_closed (s : State) (f : Face) : s.beginChange f .closed = s.askClose f := rfl

theorem State.beginChange_dark (s : State) (f : Face) : s.beginChange f .dark = s.beginDark f := rfl

/-- A pull on an OFF shutter, R28. -/
theorem State.requestPull_off {s : State} {f : Face} {k : Shutter} (h : (s.shutter f k).state = .off)
    (ha : s.sup.releaseAll = false) :
    s.requestPull f k = s.setShutter f k { s.shutter f k with
      state := .pulling, movedSeen := false, peak := some (s.shutter f k).measured
      timer := some ((s.config f).params k).hitTime } := by
  simp [State.requestPull, State.pullRepeats, State.pullChannel, ShutterChannel.pull, h, ha]

/-- A pull on an active shutter changes nothing, R28. -/
theorem State.requestPull_active {s : State} {f : Face} {k : Shutter} (h : (s.shutter f k).active = true)
    (ha : s.sup.releaseAll = false) : s.requestPull f k = s := by
  rw [ShutterChannel.active_iff] at h
  have hp : ((s.shutter f k).pull ((s.config f).params k)).2 = s.shutter f k := by
    rcases h with h | h | h <;> simp [ShutterChannel.pull, h]
  have hb : (s.shutter f k).state ≠ .blocked := by rcases h with h | h | h <;> simp [h]
  simp [State.requestPull, State.pullRepeats, State.pullChannel, ha, hb, hp]

/-- A pull on a BLOCKED shutter repeats its fault, R28, R34. -/
theorem State.requestPull_blocked {s : State} {f : Face} {k : Shutter} (h : (s.shutter f k).state = .blocked)
    (ha : s.sup.releaseAll = false) :
    s.requestPull f k = (s.reportShutter f k (s.shutter f k).lastFault).elementFault f := by
  simp [State.requestPull, State.pullRepeats, h, ha]

/-- A close from a permissive aspect, R12. -/
theorem State.askClose_permissive {s : State} {f : Face} (h : (s.face f).shown.permissive = true) :
    s.askClose f = s.beginClose f := by
  cases hs : (s.face f).shown <;> simp_all [State.askClose, Aspect.permissive]

theorem State.askClose_dark {s : State} {f : Face} (h : (s.face f).shown = .dark) : s.askClose f = s.awaitRelight f := by
  simp [State.askClose, h]

/-- A DARK face asked to CLOSED with a shutter active waits, R39. -/
theorem State.awaitRelight_active {s : State} {f : Face} (h : s.quiet f = false) :
    s.awaitRelight f = (s.setFace f { s.face f with
      relightAwaited := true, testedWait := (s.face f).testedWait || s.anyDriven f }).releaseDriven f := by
  rw [State.awaitRelight, State.relightTest_of_active (by simpa using h)]

/-- A quiet DARK face asked to CLOSED has nothing to release: the test comes at once. -/
theorem State.awaitRelight_quiet {s : State} {f : Face} (h : s.quiet f = true) :
    s.awaitRelight f = (s.setFace f { s.face f with relightAwaited := true }).relightTest f := by
  rw [State.awaitRelight, State.releaseDriven_quiet_self (by simpa using h), State.anyDriven_of_quiet h, Bool.or_false]

/-- A quiet DARK face that awaits the relight already and is asked to CLOSED: the test alone. -/
theorem State.awaitRelight_again {s : State} {f : Face} (h : s.quiet f = true) (hw : (s.face f).relightAwaited = true) :
    s.awaitRelight f = s.relightTest f := by
  have hr : ({ s.face f with relightAwaited := true } : FaceRecord) = s.face f := by rw [← hw]
  rw [State.awaitRelight_quiet h, hr, State.setFace_self]

/-- A quiet DARK face with a shutter BLOCKED that is asked to CLOSED stays DARK, R18, R20, R39. -/
theorem State.awaitRelight_blocked {s : State} {f : Face} (hd : (s.face f).steadyDark = true) (hq : s.quiet f = true)
    (hb : s.anyBlocked f = true) :
    s.awaitRelight f = s.setFace f { s.face f with
      latch := if (s.face f).latch = .lamp ∧ (s.face f).testedWait = false then .lamp else .element
      relightAwaited := false, testedWait := false } := by
  have hd' : ({ s.face f with relightAwaited := true } : FaceRecord).steadyDark = true := hd
  rw [State.awaitRelight_quiet hq, State.relightTest_blocked (by simp) (by simpa using hd') (by simpa using hq)
    (by simpa using hb)]
  simp [FaceRecord.stayDark]

/-- A relight places the change from DARK to CLOSED, R14. -/
theorem FaceRecord.place_relight {r : FaceRecord} (h : r.shown = .dark) :
    ({ r.place .closed with relightAwaited := false, testedWait := false } : FaceRecord) = { r with
      state := .changing, env := ⟨0, 2⟩, change := some ⟨.dark, .closed, .one⟩
      relightAwaited := false, testedWait := false } := by
  simp [FaceRecord.place, h, changeEnv, Aspect.rank, Envelope.wide]

/-- A relight under an OFF lamp ramps it, R14, R35. -/
theorem State.relight_off {s : State} {f : Face} (hd : (s.face f).shown = .dark) (hl : (s.lamp f).state = .off) :
    s.relight f = (s.setFace f { s.face f with
      state := .changing, env := ⟨0, 2⟩, change := some ⟨.dark, .closed, .one⟩
      relightAwaited := false, testedWait := false }).setLamp f { s.lamp f with
        state := .ramping, timer := some (s.config f).rampTime } := by
  rw [State.relight, FaceRecord.place_relight hd]
  simp [hl, LampChannel.ramp]

theorem State.relight_ramping {s : State} {f : Face} (hd : (s.face f).shown = .dark) (hl : (s.lamp f).state = .ramping) :
    s.relight f = s.setFace f { s.face f with
      state := .changing, env := ⟨0, 2⟩, change := some ⟨.dark, .closed, .one⟩
      relightAwaited := false, testedWait := false } := by
  rw [State.relight, FaceRecord.place_relight hd]
  simp [hl]

/-- A LIT lamp completes the relight at once, R35. -/
theorem State.relight_lit {s : State} {f : Face} (hd : (s.face f).shown = .dark) (hl : (s.lamp f).state = .lit)
    (hp : (s.face f).pending = none) :
    s.relight f = s.setFace f { s.face f with
      shown := .closed, state := .steady, env := ⟨2, 2⟩, change := none, relightAwaited := false, testedWait := false } := by
  rw [State.relight, FaceRecord.place_relight hd]
  simp [hl, FaceRecord.settleOn, hp, steadyEnv, Aspect.rank]

/-- What a lamp fault leaves of a face, R19. -/
theorem FaceRecord.darken_eq (r : FaceRecord) : r.darken = { r with
    shown := .dark, state := .steady, env := ⟨0, 2⟩, change := none, latch := .lamp
    pending := r.pending.map fun p => { p with reason := .fault }, relightAwaited := false, testedWait := false } := rfl

/-- A BLOCKED lamp repeats its fault and the face stays DARK, R19, R37. -/
theorem State.relight_blocked {s : State} {f : Face} (hd : (s.face f).steadyDark = true) (hq : s.quiet f = true)
    (hl : (s.lamp f).state = .blocked) :
    s.relight f = (s.setFace f { s.face f with
      env := ⟨0, 2⟩, change := none, latch := .lamp, relightAwaited := false, testedWait := false
      pending := (s.face f).pending.map fun p => { p with reason := .fault } }).reportLamp f (s.lamp f).lastFault := by
  obtain ⟨hs, hdark⟩ := (FaceRecord.steadyDark_iff _).mp hd
  rw [State.relight, FaceRecord.place_relight hdark]
  simp only [hl, State.lampFault, State.setFace_reportLamp, State.setFace_face, State.setFace_setFace,
    State.setFace_releaseDriven, FaceRecord.darken_eq, hs, hdark]
  rw [State.releaseDriven_quiet_self (by simpa using hq)]

end Sys2Proof.Machine
end

section
/-! The channel events' statements: MOVED and HIT_TIME_END (O36), DROPPED (O37), the shutter faults (O38), the end of a
return (O39), LIT (O40), the lamp faults (O41). One rule per event says what it hands to the face controller. -/

namespace Sys2Proof.Machine

/-! ### MOVED and HIT_TIME_END, R29, R30 -/

/-- MOVED from a pull that has not reported it, on a dip below the running peak, R29. -/
theorem exec_moved {s : State} {f : Face} {k : Shutter} {rawPeak rawNow peak : Nat} (hs : (s.shutter f k).state = .pulling)
    (hm : (s.shutter f k).movedSeen = false)
    (hpeak : peak = max (max ((s.shutter f k).peak.getD 0) (s.measureShutter f k rawPeak)) (s.measureShutter f k rawNow))
    (hdip : s.measureShutter f k rawNow + ((s.config f).params k).dipThreshold < peak) :
    exec (.moved f k rawPeak rawNow) s = .next (((s.setShutter f k { s.shutter f k with
      measured := s.measureShutter f k rawNow, movedSeen := true, peak := some peak }).movedStep f k).afterReport f) := by
  subst hpeak
  show execMoved f k rawPeak rawNow s = _
  simp only [execMoved, hs, hm, hdip]
  rfl

/-- MOVED where the channel does not produce it (log 1). -/
theorem exec_moved_still {s : State} {f : Face} {k : Shutter} {rawPeak rawNow : Nat}
    (h : (s.shutter f k).state ≠ .pulling ∨ (s.shutter f k).movedSeen = true ∨
      max (max ((s.shutter f k).peak.getD 0) (s.measureShutter f k rawPeak)) (s.measureShutter f k rawNow) ≤
        s.measureShutter f k rawNow + ((s.config f).params k).dipThreshold) :
    exec (.moved f k rawPeak rawNow) s = .next s := by
  show execMoved f k rawPeak rawNow s = _
  unfold execMoved
  dsimp only
  rw [if_neg]
  simp only [Bool.and_eq_true, decide_eq_true_eq, Bool.not_eq_true']
  rintro ⟨⟨hs, hm⟩, hdip⟩
  rcases h with h | h | h
  · exact h hs
  · simp [hm] at h
  · exact absurd hdip (Nat.not_lt.mpr h)

/-- MOVED from the new symbol in step 1, where the change came from no symbol: MASK is pulled, R10. -/
theorem State.movedStep_opens {s : State} {f : Face} {k : Shutter} {a b : Aspect} (hs : (s.face f).state = .changing)
    (hc : (s.face f).change = some ⟨a, b, .one⟩) (hb : b.symbol = some k) (ha : a.symbol = none) :
    s.movedStep f k = (s.setFace f { s.face f with change := some ⟨a, b, .two⟩ }).requestPull f .mask := by
  simp [State.movedStep, FaceRecord.stepTwo, hs, hc, hb, ha]

/-- MOVED from the new symbol in step 1 between permissive aspects: the old symbol is released, R11. -/
theorem State.movedStep_sideways {s : State} {f : Face} {k old : Shutter} {a b : Aspect}
    (hs : (s.face f).state = .changing) (hc : (s.face f).change = some ⟨a, b, .one⟩) (hb : b.symbol = some k)
    (ha : a.symbol = some old) :
    s.movedStep f k = (s.setFace f { s.face f with change := some ⟨a, b, .two⟩ }).releaseShutter f old := by
  simp [State.movedStep, FaceRecord.stepTwo, hs, hc, hb, ha]

/-- MOVED from MASK in step 2 completes an opening change, R10, R15. -/
theorem State.movedStep_completes {s : State} {f : Face} {a : Aspect} (hs : (s.face f).state = .changing)
    (hc : (s.face f).change = some ⟨.closed, a, .two⟩) : s.movedStep f .mask = s.completeChange f a := by
  simp [State.movedStep, hs, hc]

/-- The symbol shutters are not MASK, R10. -/
theorem Aspect.symbol_ne_mask {a : Aspect} {k : Shutter} (h : a.symbol = some k) : k ≠ .mask := by
  cases a <;> cases h <;> decide

theorem Aspect.permissive_of_symbol {a : Aspect} {k : Shutter} (h : a.symbol = some k) : a.permissive = true := by
  rw [← Aspect.symbol_isSome, h]; rfl

theorem Aspect.ranked_of_symbol {a : Aspect} {k : Shutter} (h : a.symbol = some k) : a ≠ .dark :=
  Aspect.ranked_of_permissive (Aspect.permissive_of_symbol h)

/-- A change to a ranked aspect is none to DARK. -/
theorem FaceRecord.not_to_dark {r : FaceRecord} {c : Change} (hc : r.change = some c) (hd : c.dst ≠ .dark) :
    r.changingTo .dark = false := by simp [FaceRecord.changingTo, hc, hd]

theorem FaceRecord.not_relighting {r : FaceRecord} {c : Change} (hc : r.change = some c) (hd : c.src ≠ .dark) :
    r.relighting = false := by simp [FaceRecord.relighting, hc, hd]

/-- A release on a HOLDING shutter, R28, R32. -/
theorem State.releaseShutter_holding {s : State} {f : Face} {k : Shutter} (h : (s.shutter f k).state = .holding) :
    s.releaseShutter f k = s.setShutter f k { s.shutter f k with
      state := .releasing, peak := none, timer := some ((s.config f).params k).settle } := by
  simp [State.releaseShutter, ShutterChannel.release, ShutterChannel.letGo, h]

theorem FaceRecord.returns_of_change {r : FaceRecord} {c : Change} (hs : r.state = .changing) (hc : r.change = some c)
    (hsrc : c.src ≠ .dark) (hdst : c.dst ≠ .dark) : r.Returns :=
  .inr ⟨hs, FaceRecord.not_to_dark hc hdst, FaceRecord.not_relighting hc hsrc⟩

/-- A BLOCKED shutter asked to pull abandons a change between ranked aspects, R16, R28: RETURNING with a shutter active. -/
theorem State.requestPull_returns {s : State} {f : Face} {k : Shutter} (h : (s.shutter f k).state = .blocked)
    (ha : s.sup.releaseAll = false) (hr : (s.face f).Returns) (hq : s.quiet f = false) :
    s.requestPull f k = ((s.reportShutter f k (s.shutter f k).lastFault).setFace f { s.face f with
      state := .returning, env := ⟨(s.face f).env.floor, 2⟩, change := none
      latch := if (s.face f).latch = .none then .element else (s.face f).latch
      pending := (s.face f).pending.map fun p => { p with reason := .inChange } }).releaseDriven f := by
  have hq' : (s.reportShutter f k (s.shutter f k).lastFault).quiet f = s.quiet f :=
    State.quiet_congr (State.reportShutter_channels rfl f)
  rw [State.requestPull_blocked h ha, State.elementFault_active (by simpa using hr) (hq'.trans hq)]
  simp

/-- Settles O36: each clause is the rule of the event, the rule of the step it brings, and the tests after it, which find the
face in a change, RETURNING, or open. -/
theorem movedDrivesAnOpeningChange : Obligations.MovedDrivesAnOpeningChange := by
  unfold Obligations.MovedDrivesAnOpeningChange
  refine ⟨?opening, ?sideways, ?completing, ?rest⟩
  case opening =>
    intro s f k a rawPeak rawNow peak hp hm hpeak hdip hs hc hk hall
    have hne : Shutter.mask ≠ k := (Aspect.symbol_ne_mask hk).symm
    have hd : a ≠ .dark := Aspect.ranked_of_symbol hk
    rw [exec_moved hp hm hpeak hdip, State.movedStep_opens (by simpa using hs) (by simpa using hc) hk rfl]
    have hmask : ∀ c, (s.setShutter f k c).shutter f .mask = s.shutter f .mask :=
      fun c => State.setShutter_shutter_ne s f c hne
    refine ⟨fun ho => ?_, fun ho => ?_, fun hb => ?_⟩
    · rw [State.requestPull_off (by simpa [hmask] using ho) (by simpa using hall), State.afterReport_changing]
      · simp [hmask]; rfl
      · simpa using hs
      · exact FaceRecord.not_to_dark (by simp; rfl) hd
    · rw [State.requestPull_active (by simpa [hmask, ShutterChannel.active_iff] using ho) (by simpa using hall),
        State.afterReport_changing (by simpa using hs)]
      · simp
      · exact FaceRecord.not_to_dark (by simp; rfl) hd
    · have hq : (s.setShutter f k { s.shutter f k with
          measured := s.measureShutter f k rawNow, movedSeen := true, peak := some peak }).quiet f = false :=
        State.quiet_of_active (k := k) (by simp [ShutterChannel.active, hp])
      rw [State.requestPull_returns (by simpa [hmask] using hb) (by simpa using hall)
        (FaceRecord.returns_of_change (by simpa using hs) (by simp; rfl) (by simp) hd) (by simpa using hq)]
      rw [State.afterReport_of_active_open]
      · simp [hmask]
      · simpa [hmask] using (State.quiet_congr (State.reportShutter_channels (hmask _ ▸ rfl) f)).trans hq
      · simp [FaceRecord.steadyClosed]
  case sideways =>
    intro s f k old a b rawPeak rawNow peak hp hm hpeak hdip hs hc hk hold hne ho
    have hd : b ≠ .dark := Aspect.ranked_of_symbol hk
    have hold' : ∀ c, (s.setShutter f k c).shutter f old = s.shutter f old :=
      fun c => State.setShutter_shutter_ne s f c hne
    rw [exec_moved hp hm hpeak hdip, State.movedStep_sideways (by simpa using hs) (by simpa using hc) hk hold,
      State.releaseShutter_holding (by simpa [hold'] using ho), State.afterReport_changing (by simpa using hs)]
    · simp [hold']
    · exact FaceRecord.not_to_dark (by simp; rfl) hd
  case completing =>
    intro s f a rawPeak rawNow peak rank hp hm hpeak hdip hs hc ha hr he hpend
    rw [exec_moved hp hm hpeak hdip, State.movedStep_completes (by simpa using hs) (by simpa using hc),
      State.completeChange_eq hr (by simpa using hpend) (.inr (by simp [he]))]
    rw [State.afterReport_at_rest, State.nodeTests_of_open (f := f)]
    · simp
    all_goals cases a <;> simp_all [Aspect.permissive, FaceRecord.steadyClosed, FaceRecord.steadyDark]
  case rest =>
    intro s f k rawPeak rawNow
    refine ⟨exec_moved_still, fun h => ?_, fun h hm => ?_⟩
    · show execHitTimeEnd f k s = _
      simp [execHitTimeEnd, h]
    · have he : exec (.hitTimeEnd f k) s = .next ((s.setShutter f k { s.shutter f k with
          state := .holding, peak := none, timer := none }).afterReport f) := by
        show execHitTimeEnd f k s = _
        simp [execHitTimeEnd, h, hm]
      rw [he, State.afterReport_of_active (State.quiet_of_active (k := k) (by simp [ShutterChannel.active]))]

/-! ### DROPPED, R32 -/

/-- DROPPED from a RELEASING shutter whose current has reached zero, R32. -/
theorem exec_dropped {s : State} {f : Face} {k : Shutter} {raw : Nat} (hs : (s.shutter f k).state = .releasing)
    (hm : s.measureShutter f k raw = 0) :
    exec (.dropped f k raw) s = .next (((s.setShutter f k { s.shutter f k with
      state := .off, measured := 0, peak := none, timer := none }).droppedStep f k).afterReport f) := by
  show execDropped f k raw s = _
  simp [execDropped, hs, hm, ShutterChannel.rest]

/-- DROPPED from MASK in step 1 of a closing change: the symbol is released, R12. -/
theorem State.droppedStep_first {s : State} {f : Face} {k : Shutter} {a : Aspect} (hs : (s.face f).state = .changing)
    (hc : (s.face f).change = some ⟨a, .closed, .one⟩) (ha : a.symbol = some k) :
    s.droppedStep f .mask = (s.setFace f { s.face f with change := some ⟨a, .closed, .two⟩ }).releaseShutter f k := by
  simp [State.droppedStep, FaceRecord.stepTwo, hs, hc, ha]

/-- DROPPED from the old symbol in step 2 completes the change, R11, R12, R15. -/
theorem State.droppedStep_completes {s : State} {f : Face} {k : Shutter} {a b : Aspect}
    (hs : (s.face f).state = .changing) (hc : (s.face f).change = some ⟨a, b, .two⟩) (ha : a.symbol = some k) :
    s.droppedStep f k = s.completeChange f b := by simp [State.droppedStep, hs, hc, ha]

/-- In a change to DARK a DROPPED takes no step, R13. -/
theorem State.droppedStep_to_dark {s : State} {f : Face} {k : Shutter} {a : Aspect} (hs : (s.face f).state = .changing)
    (hc : (s.face f).change = some ⟨a, .dark, .one⟩) : s.droppedStep f k = s := by
  cases ha : a.symbol <;> simp [State.droppedStep, hs, hc, ha]

theorem State.droppedStep_still {s : State} {f : Face} {k : Shutter} (hs : (s.face f).state ≠ .changing) :
    s.droppedStep f k = s := by
  cases h : (s.face f).state <;> simp_all [State.droppedStep]

/-- A ranked aspect is not DARK. -/
theorem Aspect.ranked_of_rank {a : Aspect} {n : Nat} (h : a.rank = some n) : a ≠ .dark := by
  rintro rfl; cases h

/-- Settles O37: the rule of DROPPED, the step it brings, and the tests after it, which end the wait of R13 and the wait for the
relight on a quiet face alone. -/
theorem droppedDrivesAClosingChange : Obligations.DroppedDrivesAClosingChange := by
  unfold Obligations.DroppedDrivesAClosingChange
  refine ⟨?first, ?completes, ?waits⟩
  case first =>
    intro s f k a raw hr hm hs hc ha hk
    have hne : k ≠ .mask := Aspect.symbol_ne_mask ha
    have hk' : ∀ c, (s.setShutter f .mask c).shutter f k = s.shutter f k :=
      fun c => State.setShutter_shutter_ne s f c hne
    rw [exec_dropped hr hm, State.droppedStep_first (by simpa using hs) (by simpa using hc) ha,
      State.releaseShutter_holding (by simpa [hk'] using hk), State.afterReport_changing (by simpa using hs)]
    · simp [hk']
    · exact FaceRecord.not_to_dark (by simp; rfl) (by simp)
  case completes =>
    intro s f k a b raw rank hr hm hs hc ha hb he hp
    have hd : b ≠ .dark := Aspect.ranked_of_rank hb
    rw [exec_dropped hr hm, State.droppedStep_completes (by simpa using hs) (by simpa using hc) ha,
      State.completeChange_eq hb (by simpa using hp) (by simpa using he),
      State.afterReport_at_rest (by simp) (by simp [FaceRecord.steadyDark, hd])]
    simp
  case waits =>
    rintro s t f k a raw hr hm rfl
    refine ⟨fun hs hc hw => ?_, fun hd hw => ?_⟩
    · rw [exec_dropped hr hm, State.droppedStep_to_dark (by simpa using hs) (by simpa using hc)]
      refine ⟨fun hq => ?_, fun hq hp he => ?_⟩
      · rw [State.afterReport_of_active_open hq (by simp [FaceRecord.steadyClosed, hs])]
      · rw [State.afterReport, State.channelTests_to_dark (by simp [FaceRecord.changingTo, hs, hc]),
          State.darkTest_quiet (by simp [FaceRecord.changingTo, hs, hc]) hq (by simpa using hp) (by simpa using he),
          State.relightTest_of_not (by simp [hw]), State.nodeTests_of_open (f := f) (by simp [FaceRecord.steadyClosed])]
        simp
    · obtain ⟨hs, hdark⟩ := (FaceRecord.steadyDark_iff _).mp hd
      rw [exec_dropped hr hm, State.droppedStep_still (by simp [hs])]
      refine ⟨fun hq => ?_, fun hq => ?_⟩
      · rw [State.afterReport_of_active_open hq (by simp [FaceRecord.steadyClosed, hdark])]
      · rw [State.afterReport, State.channelTests_steady (by simpa using hs), State.beginChange_closed,
          State.askClose_dark (by simpa using hdark), State.awaitRelight_again hq (by simpa using hw)]

end Sys2Proof.Machine
end

section
/-! The statements about faults and the ends of waits: the shutter faults (O38), the end of a return (O39), LIT (O40), the
lamp faults (O41). -/

namespace Sys2Proof.Machine

/-! ### A shutter that lets go, R30, R31 -/

/-- The report after a fault sets the last fault, whatever the channel held. -/
theorem State.reportShutter_setShutter (s : State) (f : Face) (k : Shutter) (c : ShutterChannel) (x : ChannelFault) :
    (s.setShutter f k { c with lastFault := x }).reportShutter f k x = (s.setShutter f k c).reportShutter f k x := by
  simp [State.reportShutter]

/-- A pull that ends without MOVED, R30. -/
theorem exec_hitTimeEnd_fault {s : State} {f : Face} {k : Shutter} (hs : (s.shutter f k).state = .pulling)
    (hm : (s.shutter f k).movedSeen = false) :
    exec (.hitTimeEnd f k) s = .next ((((s.setShutter f k { s.shutter f k with
      state := .releasing, lastFault := .notMoved, peak := none
      timer := some ((s.config f).params k).settle }).reportShutter f k .notMoved).elementFault f).afterReport f) := by
  show execHitTimeEnd f k s = _
  rw [State.reportShutter_setShutter s f k { s.shutter f k with
    state := .releasing, peak := none, timer := some ((s.config f).params k).settle }]
  simp [execHitTimeEnd, hs, hm, ShutterChannel.letGo]

/-- A hold below its floor, R31. -/
theorem exec_holdLost {s : State} {f : Face} {k : Shutter} {raw : Nat} (hs : (s.shutter f k).state = .holding)
    (hm : s.measureShutter f k raw < max 1 (((s.config f).params k).hold / 2)) :
    exec (.holdLost f k raw) s = .next ((((s.setShutter f k { s.shutter f k with
      measured := s.measureShutter f k raw, state := .releasing, lastFault := .holdLost, peak := none
      timer := some ((s.config f).params k).settle }).reportShutter f k .holdLost).elementFault f).afterReport f) := by
  have hf : s.measureShutter f k raw < floorOf ((s.config f).params k).hold := hm
  show execHoldLost f k raw s = _
  rw [State.reportShutter_setShutter s f k { s.shutter f k with
    measured := s.measureShutter f k raw, state := .releasing, peak := none
    timer := some ((s.config f).params k).settle }]
  simp [execHoldLost, hs, hf, ShutterChannel.letGo]

/-- A count of a fault, R165. -/
theorem FaultDetail.add_count (d : FaultDetail) (x : ChannelFault) : (d.add x).count = min 255 (d.count + 1) := rfl

theorem FaultDetail.add_kinds (d : FaultDetail) (x : ChannelFault) : (d.add x).kinds = d.kinds ||| x.kindBit := rfl

/-- A class latch reads the fault block alone. -/
theorem State.latched_congr {s t : State} (h : t.fault = s.fault) (c : FaultClass) : t.latched c = s.latched c := by
  simp [State.latched, h]

/-- A fault that lets a shutter of an open face go sends the face RETURNING, R16, R30, R31. -/
theorem State.fault_returns {s : State} {f : Face} {k : Shutter} {x : ChannelFault} {c : ShutterChannel}
    (hc : c.state = .releasing) (hr : (s.face f).Returns) :
    (((s.setShutter f k c).reportShutter f k x).elementFault f).afterReport f =
      (((s.setShutter f k c).reportShutter f k x).setFace f { s.face f with
        state := .returning, env := ⟨(s.face f).env.floor, 2⟩, change := none
        latch := if (s.face f).latch = .none then .element else (s.face f).latch
        pending := (s.face f).pending.map fun p => { p with reason := .inChange } }).releaseDriven f := by
  have hq : ((s.setShutter f k c).reportShutter f k x).quiet f = false :=
    State.quiet_of_active (k := k) (by simp [State.reportShutter_shutter, ShutterChannel.active, hc])
  rw [State.elementFault_active (by simpa using hr) hq,
    State.afterReport_of_active_open (by simpa using hq) (by simp [FaceRecord.steadyClosed])]
  simp

/-- A fault on a face STEADY on CLOSED or DARK that awaits no relight latches it, R16. -/
theorem State.fault_at_rest {s : State} {f : Face} (hs : (s.face f).state = .steady)
    (hp : (s.face f).shown.permissive = false) (hw : (s.face f).relightAwaited = false) :
    (s.elementFault f).afterReport f = (s.setFace f { s.face f with
      latch := if (s.face f).latch = .none then .element else (s.face f).latch }).nodeTests := by
  rw [State.elementFault_at_rest hs hp, State.afterReport_at_rest (by simpa using hs) (by simp [hw])]

/-! ### A shutter that is blocked, R32, R33 -/

/-- A shutter BLOCKED by a fault, with its report, R32, R33, R165. -/
def State.blockShutter (s : State) (f : Face) (k : Shutter) (m : Nat) (x : ChannelFault) : State :=
  (s.setShutter f k { s.shutter f k with
    measured := m, state := .blocked, lastFault := x, peak := none, timer := none }).reportShutter f k x

/-- NOT_DROPPED or OVERCURRENT with the channel and the current that produce it, R32, R33. -/
def State.Blocks (s : State) (f : Face) (k : Shutter) (raw : Nat) (x : ChannelFault) (i : Instr) : Prop :=
  (x = .notDropped ∧ i = .notDropped f k raw ∧ (s.shutter f k).state = .releasing ∧ 0 < s.measureShutter f k raw) ∨
    (x = .overcurrent ∧ i = .overcurrent f k raw ∧ (s.shutter f k).active = true ∧ 159 < s.measureShutter f k raw)

theorem State.Blocks.active {s : State} {f : Face} {k : Shutter} {raw : Nat} {x : ChannelFault} {i : Instr}
    (h : s.Blocks f k raw x i) : (s.shutter f k).active = true := by
  rcases h with ⟨-, -, hs, -⟩ | ⟨-, -, ha, -⟩
  · simp [ShutterChannel.active, hs]
  · exact ha

/-- The event blocks the shutter, and the report goes to the face controller. -/
theorem State.Blocks.exec {s : State} {f : Face} {k : Shutter} {raw : Nat} {x : ChannelFault} {i : Instr}
    (h : s.Blocks f k raw x i) : exec i s =
      .next (((s.blockShutter f k (s.measureShutter f k raw) x).elementFault f).afterReport f) := by
  rcases h with ⟨rfl, rfl, hs, hm⟩ | ⟨rfl, rfl, ha, hm⟩
  · show execNotDropped f k raw s = _
    simp [execNotDropped, hs, hm, ShutterChannel.block, State.blockShutter]
  · have ha' : ({ s.shutter f k with measured := s.measureShutter f k raw } : ShutterChannel).active = true := ha
    have hm' : overcurrentLimit < s.measureShutter f k raw := hm
    show execOvercurrent f k raw s = _
    simp [execOvercurrent, ha', hm', ShutterChannel.block, State.blockShutter]

section
variable (s : State) (f : Face) (k : Shutter) (m : Nat) (x : ChannelFault)

@[simp] theorem State.blockShutter_face (g : Face) : (s.blockShutter f k m x).face g = s.face g := by
  simp [State.blockShutter]
@[simp] theorem State.blockShutter_node : (s.blockShutter f k m x).node = s.node := by simp [State.blockShutter]
@[simp] theorem State.blockShutter_line : (s.blockShutter f k m x).line = s.line := by simp [State.blockShutter]
@[simp] theorem State.blockShutter_plan : (s.blockShutter f k m x).plan = s.plan := by simp [State.blockShutter]
@[simp] theorem State.blockShutter_poss : (s.blockShutter f k m x).poss = s.poss := by simp [State.blockShutter]
@[simp] theorem State.blockShutter_sweep : (s.blockShutter f k m x).sweep = s.sweep := by simp [State.blockShutter]
@[simp] theorem State.blockShutter_store : (s.blockShutter f k m x).store = s.store := by simp [State.blockShutter]
@[simp] theorem State.blockShutter_phase : (s.blockShutter f k m x).phase = s.phase := by simp [State.blockShutter]
@[simp] theorem State.blockShutter_channels_other :
    (s.blockShutter f k m x).channels (otherFace f) = s.channels (otherFace f) := by simp [State.blockShutter]
@[simp] theorem State.blockShutter_lamp : (s.blockShutter f k m x).lamp f = s.lamp f := by
  simp [State.blockShutter, State.reportShutter, State.lamp, State.setShutter]

theorem State.blockShutter_shutter : (s.blockShutter f k m x).shutter f k = { s.shutter f k with
    measured := m, state := .blocked, lastFault := x, peak := none, timer := none } := by
  simp [State.blockShutter, State.reportShutter_shutter]

theorem State.blockShutter_shutter_ne {j : Shutter} (h : j ≠ k) :
    (s.blockShutter f k m x).shutter f j = s.shutter f j := by
  rw [← State.setShutter_shutter_ne s f (s.shutter f k) h]
  simp only [State.blockShutter, State.shutter]
  rw [State.reportShutter_channels (by simp)]
  simp [State.setShutter, FaceChannels.setShutter_shutter_ne _ _ h]

theorem State.blockShutter_detail : ((s.blockShutter f k m x).details f).shutter k =
    ((s.details f).shutter k).add x := by
  simp [State.blockShutter, State.reportShutter_detail]

theorem State.blockShutter_latched : (s.blockShutter f k m x).latched .element = true :=
  State.reportShutter_latched _ f k x

theorem State.blockShutter_anyBlocked : (s.blockShutter f k m x).anyBlocked f = true :=
  (State.anyBlocked_iff _ f).mpr ⟨k, by rw [State.blockShutter_shutter]⟩

/-- With its shutter BLOCKED a face is quiet where the other shutters are. -/
theorem State.blockShutter_quiet_iff : (s.blockShutter f k m x).quiet f = true ↔
    ∀ j, j ≠ k → (s.shutter f j).active = false := by
  rw [State.quiet_iff]
  constructor
  · intro h j hj
    rw [← State.blockShutter_shutter_ne s f k m x hj]; exact h j
  · intro h j
    by_cases hj : j = k
    · subst hj; simp [State.blockShutter_shutter, ShutterChannel.active]
    · rw [State.blockShutter_shutter_ne s f k m x hj]; exact h j hj

/-- A shutter is BLOCKED by NOT_DROPPED where this fault is NOT_DROPPED, or where one was before. -/
theorem State.blockShutter_anyNotDropped (hk : (s.shutter f k).state ≠ .blocked) :
    (s.blockShutter f k m x).anyNotDropped f = true ↔ x = .notDropped ∨ s.anyNotDropped f = true := by
  rw [State.anyNotDropped_iff, State.anyNotDropped_iff]
  constructor
  · rintro ⟨j, hj⟩
    by_cases hjk : j = k
    · subst hjk; rw [State.blockShutter_shutter] at hj; exact .inl hj.2
    · rw [State.blockShutter_shutter_ne s f k m x hjk] at hj; exact .inr ⟨j, hj⟩
  · rintro (hx | ⟨j, hj⟩)
    · exact ⟨k, by rw [State.blockShutter_shutter]; exact ⟨rfl, hx⟩⟩
    · have hjk : j ≠ k := by rintro rfl; exact hk hj.1
      exact ⟨j, by rw [State.blockShutter_shutter_ne s f k m x hjk]; exact hj⟩

end

theorem ShutterChannel.not_blocked_of_active {c : ShutterChannel} (h : c.active = true) : c.state ≠ .blocked := by
  rw [ShutterChannel.active_iff] at h
  rcases h with h | h | h <;> simp [h]

/-- After a return that ends on DARK the tests find nothing to do. -/
theorem State.afterReport_dark {s : State} {f : Face} {r : FaceRecord} (hd : r.steadyDark = true)
    (hw : r.relightAwaited = false) : (s.setFace f r).afterReport f = s.setFace f r := by
  obtain ⟨hs, hdark⟩ := (FaceRecord.steadyDark_iff r).mp hd
  rw [State.afterReport_at_rest (by simpa using hs) (by simp [hw]),
    State.nodeTests_of_open (f := f) (by simp [FaceRecord.steadyClosed, hdark])]

/-- A close that follows at once on a quiet DARK face with a shutter BLOCKED leaves it STEADY DARK, R20, R21. -/
theorem State.endingClose_blocked {s : State} {f : Face} (hd : (s.face f).steadyDark = true) (hq : s.quiet f = true)
    (hb : s.anyBlocked f = true) (hl : (s.face f).latch = .element) (hw : (s.face f).relightAwaited = false) :
    ∃ b, s.endingClose f = s.setFace f { s.face f with testedWait := b } := by
  by_cases he : s.node.state = .maintenance ∧ s.node.ending = true
  · refine ⟨false, ?_⟩
    have ⟨hs, hdark⟩ := (FaceRecord.steadyDark_iff _).mp hd
    have hclose : s.endingClose f = s.awaitRelight f := by
      simp [State.endingClose, he.1, he.2, hs, State.askClose_dark hdark]
    rw [hclose, State.awaitRelight_blocked hd hq hb]
    simp [hl, hw]
  · exact ⟨(s.face f).testedWait, (State.endingClose_of_not he).trans (State.setFace_self s f).symm⟩

/-- R13's wait that ends with a shutter BLOCKED leaves the face STEADY DARK with latch ELEMENT, whether or not a close is to
follow. -/
theorem State.darkTest_blocked {s : State} {f : Face} (h : (s.face f).changingTo .dark = true) (hq : s.quiet f = true)
    (hb : s.anyBlocked f = true) (hw : (s.face f).relightAwaited = false) :
    ∃ b, s.darkTest f = (s.lampOff f).setFace f
      { (s.face f).settleOn .dark with latch := .element, testedWait := b } := by
  have hdark : s.darkTest f =
      ((s.lampOff f).setFace f { (s.face f).settleOn .dark with latch := .element }).endingClose f := by
    simp [State.darkTest, h, hq, hb]
  have hface : ((((s.lampOff f).setFace f { (s.face f).settleOn .dark with latch := .element })).face f).steadyDark = true := by
    rw [State.setFace_face]; rfl
  obtain ⟨b, hclose⟩ := State.endingClose_blocked hface (by simpa using hq) (by simpa using hb) (by simp)
    (by rw [State.setFace_face]; exact hw)
  exact ⟨b, by rw [hdark, hclose]; simp⟩

/-- Off is OFF for every lamp but a BLOCKED one, R35. -/
theorem LampChannel.turnOff_state (c : LampChannel) :
    c.turnOff.2.state = if c.state = .blocked then .blocked else .off := by
  cases hc : c.state <;> simp [LampChannel.turnOff, hc]

/-! ### The four shutter faults -/

theorem aShutterFaultStartsAReturn_active (s : State) (f : Face) (k : Shutter) (raw : Nat) (x : ChannelFault) (i : Instr)
    (h : (x = .notMoved ∧ i = .hitTimeEnd f k ∧ (s.shutter f k).state = .pulling ∧ (s.shutter f k).movedSeen = false) ∨
        (x = .holdLost ∧ i = .holdLost f k raw ∧ (s.shutter f k).state = .holding ∧
          s.measureShutter f k raw < max 1 (((s.config f).params k).hold / 2))) (hr : (s.face f).Returns) :
    ∃ c : ShutterChannel, c.state = .releasing ∧ c.lastFault = x ∧ c.timer = some ((s.config f).params k).settle ∧
      exec i s = .next ((((s.setShutter f k c).reportShutter f k x).setFace f { s.face f with
        state := .returning, env := ⟨(s.face f).env.floor, 2⟩, change := none
        latch := if (s.face f).latch = .none then .element else (s.face f).latch
        pending := (s.face f).pending.map fun p => { p with reason := .inChange } }).releaseDriven f) := by
  rcases h with ⟨rfl, rfl, hs, hm⟩ | ⟨rfl, rfl, hs, hm⟩
  · exact ⟨_, rfl, rfl, rfl, by rw [exec_hitTimeEnd_fault hs hm, State.fault_returns rfl hr]⟩
  · exact ⟨_, rfl, rfl, rfl, by rw [exec_holdLost hs hm, State.fault_returns rfl hr]⟩

/-- Settles O38. -/
theorem aShutterFaultStartsAReturn : Obligations.AShutterFaultStartsAReturn := by
  unfold Obligations.AShutterFaultStartsAReturn
  refine ⟨?lets_go, ?overcurrent_at_rest, ?blocks_open, ?blocks_to_dark, ?at_rest, ?awaiting⟩
  case lets_go =>
    intro s f k raw x i h hr
    obtain ⟨c, hc, hx, ht, he⟩ := aShutterFaultStartsAReturn_active s f k raw x i h hr
    have hk : ((s.setShutter f k c).reportShutter f k x).shutter f k = c := by
      rw [State.reportShutter_shutter, State.setShutter_shutter, ← hx]
    have hrel : ∀ p, c.release p = (.noEffect, c) := ShutterChannel.release_still (by simp [ShutterChannel.driven, hc])
    have hlatch (r : FaceRecord) : ((((s.setShutter f k c).reportShutter f k x).releaseDriven f).setFace f r).latched
        .element = true :=
      (State.latched_congr (by simp) _).trans (State.reportShutter_latched (s.setShutter f k c) f k x)
    refine ⟨_, he, ?_⟩
    simp [hk, hrel, hc, hx, ht, hlatch, State.reportShutter_detail, FaultDetail.add_count, FaultDetail.add_kinds]
  case overcurrent_at_rest =>
    intro s f k raw ha hm hs hp hw
    have hb : s.Blocks f k raw .overcurrent (.overcurrent f k raw) := .inr ⟨rfl, rfl, ha, hm⟩
    rw [hb.exec, State.fault_at_rest (by simpa using hs) (by simpa using hp) (by simpa using hw)]
    simp [State.blockShutter]
  case blocks_open =>
    intro s t f k raw x i (h : s.Blocks f k raw x i) (hr : (s.face f).Returns) hw ht
    obtain rfl : t = s.blockShutter f k (s.measureShutter f k raw) x := ht
    have hn := s.blockShutter_anyNotDropped f k (s.measureShutter f k raw) x
      (ShutterChannel.not_blocked_of_active h.active)
    rw [State.blockShutter_shutter, State.blockShutter_detail]
    refine ⟨rfl, rfl, rfl, rfl, rfl, State.blockShutter_latched s f k _ x, fun hq => ?_,
      fun hq => ⟨fun hx => ?_, fun hx hnd => ?_⟩⟩
    · rw [h.exec, State.elementFault_active (by simpa using hr) hq,
        State.afterReport_of_active_open (by simpa using hq) (by simp [FaceRecord.steadyClosed])]
      simp
    · rw [h.exec, State.elementFault_dark (by simpa using hr) hq (hn.mpr hx), State.afterReport_dark rfl (by simpa using hw)]
      simp
    · rw [h.exec, State.elementFault_closed (by simpa using hr) hq (by simpa [hx, hnd] using hn),
        State.afterReport_at_rest (by simp) (by simp [hw])]
      simp
  case blocks_to_dark =>
    intro s f k raw x i (h : s.Blocks f k raw x i) hd hw
    have he := h.exec
    rw [State.elementFault_to_dark (by simpa using hd)] at he
    have hs := ((FaceRecord.changingTo_iff _ _).mp hd).1
    have hquiet := s.blockShutter_quiet_iff f k (s.measureShutter f k raw) x
    cases hq : (s.blockShutter f k (s.measureShutter f k raw) x).quiet f with
    | false =>
      rw [State.afterReport_of_active_open hq (by simp [FaceRecord.steadyClosed, hs])] at he
      refine ⟨_, he, ?_⟩
      rw [hq] at hquiet
      simp only [State.blockShutter_shutter, State.blockShutter_latched, State.blockShutter_detail, FaultDetail.add_count]
      have hactive : ¬∀ j, j ≠ k → (s.shutter f j).active = false := fun hall => by simpa using hquiet.mpr hall
      simp [hactive]
    | true =>
      obtain ⟨b, hdark⟩ := State.darkTest_blocked (by simpa using hd) hq (State.blockShutter_anyBlocked s f k _ x)
        (by simpa using hw)
      rw [State.afterReport, State.channelTests_to_dark (by simpa using hd), hdark,
        State.relightTest_of_not (by simp [FaceRecord.settleOn, hw]),
        State.nodeTests_of_open (f := f) (by simp [FaceRecord.steadyClosed, FaceRecord.settleOn])] at he
      refine ⟨_, he, ?_⟩
      have hall := hquiet.mp hq
      have hother : ¬∃ j ∈ [Shutter.mask, .arrow, .diagL, .diagR], j ≠ k ∧ (s.shutter f j).active = true :=
        fun ⟨j, _, hj, ha⟩ => by simp [hall j hj] at ha
      have hlatch (r : FaceRecord) : (((s.blockShutter f k (s.measureShutter f k raw) x).lampOff f).setFace f r).latched
          .element = true :=
        (State.latched_congr (by simp) _).trans (State.blockShutter_latched s f k (s.measureShutter f k raw) x)
      simp only [State.setFace_shutter, State.lampOff_shutter, State.blockShutter_shutter, State.setFace_details,
        State.lampOff_details, State.blockShutter_detail, FaultDetail.add_count, hlatch, hother, false_imp_iff]
      simp [LampChannel.turnOff_state, FaceRecord.settleOn, steadyEnv, Aspect.rank, Envelope.wide]
  case at_rest =>
    intro s f k raw hs hp hw
    refine ⟨fun hk hm => ?_, fun hk hm => ?_, fun hk hm => ?_⟩
    · rw [exec_hitTimeEnd_fault hk hm, State.fault_at_rest (by simpa using hs) (by simpa using hp) (by simpa using hw)]
      simp
    · rw [exec_holdLost hk hm, State.fault_at_rest (by simpa using hs) (by simpa using hp) (by simpa using hw)]
      simp
    · have hb : s.Blocks f k raw .notDropped (.notDropped f k raw) := .inl ⟨rfl, rfl, hk, hm⟩
      rw [hb.exec, State.fault_at_rest (by simpa using hs) (by simpa using hp) (by simpa using hw)]
      simp [State.blockShutter]
  case awaiting =>
    intro s t f k raw x i (h : s.Blocks f k raw x i) hd hw ht
    obtain rfl : t = s.blockShutter f k (s.measureShutter f k raw) x := ht
    obtain ⟨hs, hdark⟩ := (FaceRecord.steadyDark_iff _).mp hd
    have he := h.exec
    rw [State.elementFault_at_rest (by simpa using hs) (by simp [hdark, Aspect.permissive])] at he
    refine ⟨fun hq => ?_, fun hq => ?_⟩
    · rw [he, State.afterReport_of_active_open (by simpa using hq) (by simp [FaceRecord.steadyClosed, hdark])]
      simp
    · rw [he, State.afterReport, State.channelTests_steady (by simpa using hs), State.relightTest_blocked (by simpa using hw)
        (by rw [State.setFace_face, State.blockShutter_face]; exact hd) (by simpa using hq)
        (by simpa using State.blockShutter_anyBlocked s f k _ x),
        State.nodeTests_of_open (f := f) (by simp [FaceRecord.steadyClosed, FaceRecord.stayDark, hdark])]
      cases hl : (s.face f).latch <;> simp [FaceRecord.stayDark, hl]

end Sys2Proof.Machine
end

section
/-! The statements about the ends of waits and the lamp: a return's last shutter (O39), LIT (O40), the lamp faults (O41). -/

namespace Sys2Proof.Machine

/-! ### The end of a return, R17 -/

/-- On a quiet RETURNING face that awaits no relight a report ends the return, and the node's tests follow. -/
theorem State.afterReport_returning {s : State} {f : Face} (hs : (s.face f).state = .returning)
    (hw : (s.face f).relightAwaited = false) (hq : s.quiet f = true) : s.afterReport f = (s.endReturn f).nodeTests := by
  have hend : ((s.endReturn f).face f).state = .steady ∧ ((s.endReturn f).face f).relightAwaited = false := by
    cases hn : s.anyNotDropped f with
    | true => rw [State.endReturn_dark hn, State.setFace_face]; exact ⟨rfl, hw⟩
    | false => rw [State.endReturn_closed hn, State.setFace_face, FaceRecord.returnClosed_eq]; exact ⟨rfl, hw⟩
  rw [State.afterReport, State.channelTests, State.returnTest_quiet hs hq,
    State.darkTest_of_not (FaceRecord.changingTo_of_not_changing (by simp [hend.1]) _),
    State.relightTest_of_not (by simp [hend.2])]

/-- A return ends on DARK where a shutter is BLOCKED by NOT_DROPPED. -/
theorem State.afterReport_returning_dark {s : State} {f : Face} (hs : (s.face f).state = .returning)
    (hw : (s.face f).relightAwaited = false) (hq : s.quiet f = true) (hn : s.anyNotDropped f = true) :
    s.afterReport f = (s.lampOff f).setFace f { s.face f with
      shown := .dark, state := .steady, env := ⟨0, 2⟩
      latch := if (s.face f).latch = .lamp then .lamp else .element
      pending := (s.face f).pending.map fun p => { p with reason := .fault } } := by
  rw [State.afterReport_returning hs hw hq, State.endReturn_dark hn,
    State.nodeTests_of_open (f := f) (by simp [FaceRecord.steadyClosed, FaceRecord.returnDark])]
  rfl

/-- A return ends on CLOSED where none is. -/
theorem State.afterReport_returning_closed {s : State} {f : Face} (hs : (s.face f).state = .returning)
    (hw : (s.face f).relightAwaited = false) (hq : s.quiet f = true) (hn : s.anyNotDropped f = false) :
    s.afterReport f = (s.setFace f { s.face f with
      shown := .closed, state := .steady, env := ⟨2, 2⟩
      pending := (s.face f).pending.map fun p =>
        if (s.face f).latch = .none then p else { p with reason := .fault } }).nodeTests := by
  rw [State.afterReport_returning hs hw hq, State.endReturn_closed hn, FaceRecord.returnClosed_eq]
  by_cases hl : (s.face f).latch = .none
  · simp only [if_pos hl, Option.map_id']
  · simp only [if_neg hl]

/-- An OFF shutter is not BLOCKED by NOT_DROPPED; one that was RELEASING was not either. -/
theorem State.anyNotDropped_setShutter_off {s : State} {f : Face} {k : Shutter} {c : ShutterChannel} (hc : c.state = .off)
    (hk : (s.shutter f k).state ≠ .blocked) : (s.setShutter f k c).anyNotDropped f = s.anyNotDropped f := by
  rw [Bool.eq_iff_iff, State.anyNotDropped_iff, State.anyNotDropped_iff]
  refine exists_congr fun j => ?_
  by_cases hj : j = k
  · subst hj; simp [hc, hk]
  · rw [State.setShutter_shutter_ne s f c hj]

/-- What the last RELEASING shutter of a RETURNING face reports: the event writes the channel and hands it to the tests. -/
theorem aReturnEndsByItsLastShutter_event {s t : State} {f : Face} {k : Shutter} {raw : Nat} {x : ChannelFault} {i : Instr}
    (hs : (s.face f).state = .returning) (hk : (s.shutter f k).state = .releasing)
    (hj : ∀ j : Shutter, j ≠ k → (s.shutter f j).active = false)
    (h : (x = .none ∧ i = .dropped f k raw ∧ s.measureShutter f k raw = 0 ∧
        t = s.setShutter f k { s.shutter f k with state := .off, measured := 0, peak := none, timer := none }) ∨
      (((x = .notDropped ∧ i = .notDropped f k raw ∧ 0 < s.measureShutter f k raw) ∨
          (x = .overcurrent ∧ i = .overcurrent f k raw ∧ 159 < s.measureShutter f k raw)) ∧
        t = s.blockShutter f k (s.measureShutter f k raw) x)) :
    exec i s = .next (t.afterReport f) ∧ t.face f = s.face f ∧ t.quiet f = true ∧
      (t.anyNotDropped f = true ↔ x = .notDropped ∨ s.anyNotDropped f = true) := by
  have ha : (s.shutter f k).active = true := by simp [ShutterChannel.active, hk]
  have hb : (s.shutter f k).state ≠ .blocked := by simp [hk]
  rcases h with ⟨rfl, rfl, hm, rfl⟩ | ⟨hx, rfl⟩
  · refine ⟨?_, by simp, (State.quiet_setShutter_iff s f k _).mpr ⟨rfl, hj⟩, ?_⟩
    · rw [exec_dropped hk hm, State.droppedStep_still (by simp [hs])]
    · rw [State.anyNotDropped_setShutter_off rfl hb]; simp
  · have hblocks : s.Blocks f k raw x i := by
      rcases hx with ⟨hx, hi, hm⟩ | ⟨hx, hi, hm⟩
      · exact .inl ⟨hx, hi, hk, hm⟩
      · exact .inr ⟨hx, hi, ha, hm⟩
    refine ⟨?_, by simp, (State.blockShutter_quiet_iff s f k _ x).mpr hj, State.blockShutter_anyNotDropped s f k _ x hb⟩
    rw [hblocks.exec, State.elementFault_returning (by simpa using hs)]

/-- Settles O39: the face is quiet after its last shutter's report, so that the return ends with it. -/
theorem aReturnEndsByItsLastShutter : Obligations.AReturnEndsByItsLastShutter := by
  unfold Obligations.AReturnEndsByItsLastShutter
  intro s t f k raw x i hs hw hk hj h
  obtain ⟨he, hface, hq, hn⟩ := aReturnEndsByItsLastShutter_event hs hk hj h
  rw [← hface] at hs hw ⊢
  refine ⟨fun hx => ?reported, fun hnd => ?dark, fun hx hnd => ?closed⟩
  case reported =>
    rcases h with ⟨hnone, -⟩ | ⟨-, ht⟩
    · exact absurd hnone hx
    · obtain rfl : t = s.blockShutter f k (s.measureShutter f k raw) x := ht
      rw [State.blockShutter_detail]
      exact ⟨State.blockShutter_latched s f k _ x, rfl, rfl⟩
  case dark => rw [he, State.afterReport_returning_dark hs hw hq (hn.mpr hnd)]
  case closed => rw [he, State.afterReport_returning_closed hs hw hq (by simpa [hx, hnd] using hn)]

/-! ### LIT and the lamp's move, R14, R35, R36 -/

/-- No report of a lamp ends start-up once it has ended. -/
theorem State.lampReported_running {s : State} {f : Face} (h : s.phase = .running) : s.lampReported f = s := by
  simp [State.lampReported, h]

/-- LIT inside the lamp window, R35. -/
theorem exec_lit {s : State} {f : Face} {raw : Nat} (hl : (s.lamp f).state = .ramping)
    (hlow : (s.config f).lampCurrent - max 1 ((s.config f).lampCurrent / 8) ≤ s.measureLamp f raw)
    (hhigh : s.measureLamp f raw ≤ (s.config f).lampCurrent + max 1 ((s.config f).lampCurrent / 8)) :
    exec (.lit f raw) s = .next ((((s.setLamp f { s.lamp f with
      state := .lit, measured := s.measureLamp f raw, timer := none }).litStep f).afterReport f).lampReported f) := by
  have hw : inLampWindow (s.config f).lampCurrent (s.measureLamp f raw) = true := by simp [inLampWindow, hlow, hhigh]
  show execLit f raw s = _
  simp [execLit, hl, hw]

/-- LIT in a relight completes it, R14, R15. -/
theorem State.litStep_relighting {s : State} {f : Face} (hr : (s.face f).relighting = true)
    (hp : (s.face f).pending = none) : s.litStep f = s.setFace f { s.face f with
      shown := .closed, state := .steady, env := ⟨2, 2⟩, change := none } := by
  rw [State.litStep, if_pos hr, State.completeChange_eq rfl (by simp [hp]) (.inl rfl), ← hp]

/-- Settles O40. -/
theorem litCompletesTheRelight : Obligations.LitCompletesTheRelight := by
  unfold Obligations.LitCompletesTheRelight
  refine ⟨?lit, ?move⟩
  case lit =>
    intro s f raw hph hl hlow hhigh hr hp
    rw [exec_lit hl hlow hhigh, State.litStep_relighting (by simpa using hr) (by simpa using hp),
      State.afterReport_at_rest (by simp) (by simp [FaceRecord.steadyDark]), State.lampReported_running]
    · simp
    · simpa using hph
  case move =>
    intro s f old
    refine ⟨rfl, fun hm => ?_, fun hm => ?_⟩
    · simp only [State.lampFloor, hm, floorOf]
    · simp only [State.lampFloor, hm, floorOf]

/-! ### The lamp faults, R19, R35, R36 -/

/-- The three lamp faults, each with the state and the current that produce it. -/
theorem exec_lampFault {s : State} {f : Face} {raw : Nat} {x : ChannelFault} {i : Instr}
    (h : (x = .notLit ∧ i = .notLit f ∧ (s.lamp f).state = .ramping) ∨
      (x = .lampOpen ∧ i = .lampOpen f raw ∧ (s.lamp f).state = .lit ∧ s.measureLamp f raw < s.lampFloor f) ∨
      (x = .overcurrent ∧ i = .lampOvercurrent f raw ∧ ((s.lamp f).state = .ramping ∨ (s.lamp f).state = .lit) ∧
        159 < s.measureLamp f raw)) : ∃ c, exec i s = .next (s.lampFails f c x) := by
  rcases h with ⟨rfl, rfl, hl⟩ | ⟨rfl, rfl, hl, hm⟩ | ⟨rfl, rfl, hl, hm⟩
  · refine ⟨s.lamp f, ?_⟩
    show execNotLit f s = _
    simp [execNotLit, hl]
  · refine ⟨{ s.lamp f with measured := s.measureLamp f raw }, ?_⟩
    show execLampOpen f raw s = _
    simp [execLampOpen, hl, hm]
  · have hm' : overcurrentLimit < s.measureLamp f raw := hm
    refine ⟨{ s.lamp f with measured := s.measureLamp f raw }, ?_⟩
    show execLampOvercurrent f raw s = _
    simp [execLampOvercurrent, hl, hm']

/-- A lamp fault on the running node: the lamp BLOCKED, its report, and the face DARK with its driven shutters released. -/
theorem State.lampFails_running {s : State} (f : Face) (c : LampChannel) (x : ChannelFault) (hph : s.phase = .running) :
    s.lampFails f c x =
      (((s.setLamp f (c.block x)).reportLamp f x).releaseDriven f).setFace f (s.face f).darken := by
  rw [State.lampFails, State.lampFault, State.setFace_releaseDriven, State.reportLamp_face, State.setLamp_face,
    State.afterReport_dark rfl rfl, State.lampReported_running (by simpa using hph)]

/-- Settles O41. -/
theorem aLampFaultDarkensTheFace : Obligations.ALampFaultDarkensTheFace := by
  unfold Obligations.ALampFaultDarkensTheFace
  intro s f raw x i hph h
  obtain ⟨c, he⟩ := exec_lampFault h
  rw [State.lampFails_running f c x hph] at he
  have hlatch (d : LampChannel) (r : FaceRecord) :
      ((((s.setLamp f d).reportLamp f x).releaseDriven f).setFace f r).latched .lamp = true :=
    (State.latched_congr (by simp) _).trans (State.reportLamp_latched (s.setLamp f d) f x)
  refine ⟨_, he, ?_⟩
  simp [hlatch, State.reportLamp_lamp, State.reportLamp_detail, FaultDetail.add_count, LampChannel.block,
    FaceRecord.darken_eq]

end Sys2Proof.Machine
end

section
/-! The statement about FACE_SET (O31), with the rules of a command's effect that ELEMENT_TEST shares. -/

namespace Sys2Proof.Machine

/-! ### The node as an executed command finds it, R57, R67 -/

section
variable (s : State) (c : Cmd)

@[simp] theorem State.handed_face (g : Face) : (s.handed c).face g = s.face g := State.face_of_faces (by simp) g
@[simp] theorem State.handed_channels (g : Face) : (s.handed c).channels g = s.channels g :=
  State.channels_of_elem (by simp) g
@[simp] theorem State.handed_shutter (g : Face) (k : Shutter) : (s.handed c).shutter g k = s.shutter g k := by
  simp [State.shutter]
@[simp] theorem State.handed_lamp (g : Face) : (s.handed c).lamp g = s.lamp g := by simp [State.lamp]
@[simp] theorem State.handed_config (g : Face) : (s.handed c).config g = s.config g := by cases g <;> simp [State.config]
@[simp] theorem State.handed_fitted (g : Face) (k : Shutter) : (s.handed c).fitted g k = s.fitted g k := by
  simp [State.fitted]
/-- A sequence that is abandoned holds no lock, R140. -/
@[simp] theorem State.handed_covered (g : Face) : (s.handed c).covered g = s.covered g := by
  unfold State.handed State.abandonSequence State.covered
  split <;> simp

end

/-- The first argument word is the body's first word, for a command with arguments. -/
theorem argWord_argsOf {c : Cmd} (x : CommandPayload) (h : 0 < c.row.args) : argWord (c.argsOf x.body) 0 = x.arg := by
  simp [argWord, Cmd.argsOf, CommandPayload.arg, List.getD_eq_getElem?_getD, h]

theorem hiByte_eq (w : Word) : hiByte w = w.toNat / 256 := by
  have := w.isLt
  simp only [hiByte, bits]
  omega

theorem loByte_eq (w : Word) : loByte w = w.toNat % 256 := by simp [loByte, bits]

/-- A command of MAINTENANCE alone is executed there, R67. -/
theorem State.maintenance_of_executes {s : State} {c : Cmd} {x : CommandPayload} (h : s.executes c x = true)
    (hc : c.row.states = .maintenanceOnly) : s.node.state = .maintenance := by
  simp only [State.executes, hc, Bool.and_eq_true] at h
  obtain ⟨⟨⟨-, hs⟩, -⟩, -⟩ := h
  cases hn : s.node.state <;> simp_all [States.has, States.maintenanceOnly]

theorem State.running_of_executes {s : State} {c : Cmd} {x : CommandPayload} (h : s.executes c x = true) :
    s.phase = .running := by
  simp only [State.executes, Bool.and_eq_true, beq_iff_eq] at h
  obtain ⟨⟨⟨⟨⟨⟨hp, -⟩, -⟩, -⟩, -⟩, -⟩, -⟩ := h
  exact hp

/-! ### FACE_SET, R21, R76 -/

/-- FACE_SET executed: where its argument names a face and an aspect and maintenance is not ending, R21 alone. -/
theorem exec_faceSet {s : State} {x : CommandPayload} (h : s.executes .faceSet x = true) :
    exec (.faceSet x) s = .next (match faceOfCode (x.arg.toNat / 256), Aspect.ofCode (x.arg.toNat % 256) with
      | some f, some a =>
        if s.node.ending then (s.handed .faceSet).sendReply .faceSet x (.refused .busy [])
        else ((s.handed .faceSet).faceSet f a).1.sendReply .faceSet x ((s.handed .faceSet).faceSet f a).2
      | _, _ => (s.handed .faceSet).sendReply .faceSet x (.refused .argument [])) := by
  have hm : s.node.state = .maintenance := State.maintenance_of_executes h rfl
  have hrun : s.phase = .running := State.running_of_executes h
  have harg : argWord (Cmd.faceSet.argsOf x.body) 0 = x.arg := argWord_argsOf x (by decide)
  have he : faceSetCommand (s.handed .faceSet) (Cmd.faceSet.argsOf x.body) =
      match faceOfCode (x.arg.toNat / 256), Aspect.ofCode (x.arg.toNat % 256) with
      | some f, some a =>
        if s.node.ending then (s.handed .faceSet, .refused .busy []) else (s.handed .faceSet).faceSet f a
      | _, _ => (s.handed .faceSet, .refused .argument []) := by
    rw [faceSetCommand, harg, hiByte_eq, loByte_eq]
    cases faceOfCode (x.arg.toNat / 256) with
    | none => rfl
    | some f =>
      cases Aspect.ofCode (x.arg.toNat % 256) with
      | none => rfl
      | some a =>
        cases hend : s.node.ending with
        | true => simp [hend]
        | false => simp [hend, State.nodeTests_of_maintenance (s := ((s.handed .faceSet).faceSet f a).1) (by simp [hm])]
  show Host.Outcome.next (s.command .faceSet x faceSetCommand) = _
  rw [State.command_executes h (by decide) faceSetCommand, he]
  · split
    · split <;> rfl
    · rfl
  · rw [he]
    split
    · split <;> simp [hrun]
    · simp [hrun]

/-- A diagonal that is not fitted is the one symbol shutter a face can lack, R23. -/
theorem State.unfitted_symbol_iff (s : State) (f : Face) (a : Aspect) :
    (a.symbol.any fun k => !s.fitted f k) = true ↔
      (a = .mergeL ∧ s.fitted f .diagL = false) ∨ (a = .mergeR ∧ s.fitted f .diagR = false) := by
  cases a <;> simp [Aspect.symbol, State.fitted, FaceConfig.fitted]

/-- R21's answers in their order, and the change that starts where none applies. -/
theorem State.faceSet_eq (s : State) (f : Face) (a : Aspect) : s.faceSet f a =
    if (s.face f).state ≠ .steady then (s, .refused .busy [])
    else if (s.face f).shown = a then (s, .done [])
    else if (s.face f).shown = .dark ∧ a.permissive = true then (s, .refused .argument [])
    else if (a = .mergeL ∧ s.fitted f .diagL = false) ∨ (a = .mergeR ∧ s.fitted f .diagR = false) then
      (s, .refused .argument [])
    else if a.permissive = true ∧ s.covered f = true then (s, .refused .locked [])
    else if a.permissive = true ∧ (s.face f).shown = .closed ∧ (s.face (otherFace f)).steadyClosed = false then
      (s, .refused .pair [])
    else ((s.setFace f { s.face f with target := ⟨a, .maint⟩ }).beginChange f a, .done []) := by
  simp only [State.faceSet, State.faceSetAnswer, State.unfitted_symbol_iff, Bool.and_eq_true, decide_eq_true_eq,
    Bool.not_eq_true', and_assoc]
  split_ifs <;> rfl

/-! ### The shutters and the lamp a change starts with, R10-R14, R28 -/

/-- A change to an aspect of which the symbol shutter is BLOCKED: the fault is reported again and the change abandoned, R16,
R28, R34. -/
theorem State.beginChange_repeats {s : State} {f : Face} {k : Shutter} {a : Aspect} (ha : a.symbol = some k)
    (hb : (s.shutter f k).state = .blocked) (hr : s.sup.releaseAll = false) :
    s.beginChange f a =
      ((s.reportShutter f k (s.shutter f k).lastFault).setFace f ((s.face f).place a)).elementFault f := by
  rw [State.beginChange_symbol ha, State.requestPull_blocked (by simpa using hb) (by simpa using hr)]
  simp

/-- Such a change is one between ranked aspects where the face is not DARK. -/
theorem FaceRecord.place_returns {r : FaceRecord} {k : Shutter} {a : Aspect} (ha : a.symbol = some k)
    (hd : r.shown ≠ .dark) : (r.place a).Returns :=
  FaceRecord.returns_of_change rfl rfl hd (Aspect.ranked_of_symbol ha)

/-- Settles O31: the command's judgement is R21's, and each change starts by the rule of its first request. -/
theorem faceSetStartsAChange : Obligations.FaceSetStartsAChange := by
  unfold Obligations.FaceSetStartsAChange
  refine ⟨?command, ?starts, ?blocked, ?relights⟩
  case command =>
    intro s x f a h
    refine ⟨fun hcode => ?_, fun hf ha => ⟨fun hend => ?_, fun hend => ?_⟩⟩
    · rw [exec_faceSet h]
      rcases hcode with hcode | hcode
      · rw [hcode]
      · rw [hcode]
        cases faceOfCode (x.arg.toNat / 256) <;> rfl
    · rw [exec_faceSet h, hf, ha]
      simp [hend]
    · rw [exec_faceSet h, hf, ha]
      simp only [hend, Bool.false_eq_true, if_false, State.faceSet_eq, State.handed_face, State.handed_fitted,
        State.handed_covered]
      split_ifs <;> rfl
  case starts =>
    intro s f k a
    refine ⟨fun ha hr => ⟨fun ho => ?_, fun ho => ?_⟩, fun hp => ?_, fun hq => ?_, fun hq hp he => ?_⟩
    · rw [State.beginChange_symbol ha, State.requestPull_off (by simpa using ho) (by simpa using hr)]
      simp [FaceRecord.place]
    · rw [State.beginChange_symbol ha, State.requestPull_active (by simpa [ShutterChannel.active_iff] using ho)
        (by simpa using hr)]
      rfl
    · rw [State.beginChange_closed, State.askClose_permissive hp, State.beginClose, FaceRecord.place, changeEnv_closed]
    · rw [State.beginChange_dark, State.beginDark, State.darkTest_of_active (by simpa using hq), FaceRecord.place,
        changeEnv_dark]
    · rw [State.beginChange_dark, State.beginDark, State.releaseDriven_quiet_self (by simpa using hq),
        State.darkTest_quiet (by simp [FaceRecord.place, FaceRecord.changingTo]) (by simpa using hq)
          (by simpa [FaceRecord.place] using hp) (by simpa using he)]
      simp [FaceRecord.place]
  case blocked =>
    rintro s t f k a ha hb hr hd rfl
    have hchannels := State.reportShutter_channels (s := s) (f := f) (k := k) rfl f
    have hquiet := State.quiet_congr hchannels
    have hnd := State.anyNotDropped_congr hchannels
    have hret : (((s.reportShutter f k (s.shutter f k).lastFault).setFace f ((s.face f).place a)).face f).Returns := by
      simpa using FaceRecord.place_returns ha hd
    rw [State.beginChange_repeats ha hb hr]
    refine ⟨fun hq => ?_, fun hq hn => ?_, fun hq hn => ?_⟩
    · rw [State.elementFault_active hret (by simpa using hquiet.trans hq)]
      simp [FaceRecord.place]
    · rw [State.elementFault_closed hret (by simpa using hquiet.trans hq) (by simpa using hnd.trans hn)]
      simp [FaceRecord.place]
    · rw [State.elementFault_dark hret (by simpa using hquiet.trans hq) (by simpa using hnd.trans hn)]
      simp [FaceRecord.place]
  case relights =>
    intro s f hdark
    obtain ⟨hs, hd⟩ := (FaceRecord.steadyDark_iff _).mp hdark
    rw [State.beginChange_closed, State.askClose_dark hd]
    refine ⟨State.awaitRelight_active, fun hq hb => State.awaitRelight_blocked hdark hq hb, fun ho => ?_⟩
    have hq : s.quiet f = true := State.quiet_of_allOff ho
    have hwait : s.awaitRelight f = (s.setFace f { s.face f with relightAwaited := true }).relight f := by
      rw [State.awaitRelight_quiet hq, State.relightTest_off (by simp) (by rw [State.setFace_face]; exact hdark)
        (by simpa using ho)]
    rw [hwait]
    refine ⟨fun hl => ?_, fun hl => ?_, fun hl hp => ?_, fun hl => ?_⟩
    · rw [State.relight_off (by simpa using hd) (by simpa using hl)]
      simp
    · rw [State.relight_ramping (by simpa using hd) (by simpa using hl)]
      simp
    · rw [State.relight_lit (by simpa using hd) (by simpa using hl) (by simpa using hp)]
      simp
    · rw [State.relight_blocked (by rw [State.setFace_face]; exact hdark) (by simpa using hq) (by simpa using hl)]
      simp

end Sys2Proof.Machine
end

section
/-! The statement about ELEMENT_TEST and the releases (O32). -/

namespace Sys2Proof.Machine

/-! ### ELEMENT_TEST, R39, R76 -/

/-- ELEMENT_TEST executed: where its argument names an action and a channel and maintenance is not ending, R39 alone. -/
theorem exec_elementTest {s : State} {x : CommandPayload} (h : s.executes .elementTest x = true) :
    exec (.elementTest x) s = .next (match TestAction.ofCode (x.arg.toNat % 256) with
      | none => (s.handed .elementTest).sendReply .elementTest x (.refused .argument [])
      | some a =>
        if s.node.ending then (s.handed .elementTest).sendReply .elementTest x (.refused .busy [])
        else
          match Channel.ofNumber (x.arg.toNat / 256) with
          | none => (s.handed .elementTest).sendReply .elementTest x (.refused .argument [])
          | some c => ((s.handed .elementTest).elementTest c a).1.sendReply .elementTest x
              ((s.handed .elementTest).elementTest c a).2) := by
  have hrun : s.phase = .running := State.running_of_executes h
  have harg : argWord (Cmd.elementTest.argsOf x.body) 0 = x.arg := argWord_argsOf x (by decide)
  have he : elementTestCommand (s.handed .elementTest) (Cmd.elementTest.argsOf x.body) =
      match TestAction.ofCode (x.arg.toNat % 256) with
      | none => (s.handed .elementTest, .refused .argument [])
      | some a =>
        if s.node.ending then (s.handed .elementTest, .refused .busy [])
        else
          match Channel.ofNumber (x.arg.toNat / 256) with
          | none => (s.handed .elementTest, .refused .argument [])
          | some c => (s.handed .elementTest).elementTest c a := by
    rw [elementTestCommand, harg, hiByte_eq, loByte_eq, State.handed_node] <;> rfl
  show Host.Outcome.next (s.command .elementTest x elementTestCommand) = _
  rw [State.command_executes h (by decide) elementTestCommand, he]
  · split
    · rfl
    · split
      · rfl
      · split <;> rfl
  · rw [he]
    split
    · simp [hrun]
    · split
      · simp [hrun]
      · split <;> simp [hrun]

/-- The actions, R194. -/
theorem TestAction.ofCode_eq_none_iff {n : Nat} : TestAction.ofCode n = none ↔ 2 < n ∨ n = 0 := by
  match n with
  | 0 | 1 | 2 => decide
  | n + 3 => simp [TestAction.ofCode]

theorem TestAction.ofCode_isSome {n : Nat} (h : n = 1 ∨ n = 2) : ∃ a, TestAction.ofCode n = some a := by
  rcases h with rfl | rfl
  exacts [⟨.pull, rfl⟩, ⟨.release, rfl⟩]

/-- The channels are numbered 0 to 9, R23. -/
theorem Channel.ofNumber_above {n : Nat} (h : 9 < n) : Channel.ofNumber n = none := by
  obtain ⟨m, rfl⟩ := Nat.exists_eq_add_of_lt h
  rw [show 9 + m + 1 = m + 10 by omega]
  rfl

section
variable {s : State} {x : CommandPayload} {a : TestAction} {c : Channel}

/-- ELEMENT_TEST of a channel, R39. -/
theorem exec_elementTest_channel (h : s.executes .elementTest x = true) (hend : s.node.ending = false)
    (ha : TestAction.ofCode (x.arg.toNat % 256) = some a) (hc : Channel.ofNumber (x.arg.toNat / 256) = some c) :
    exec (.elementTest x) s = .next (((s.handed .elementTest).elementTest c a).1.sendReply .elementTest x
      ((s.handed .elementTest).elementTest c a).2) := by
  rw [exec_elementTest h, ha, hc]
  simp [hend]

theorem State.elementTest_unfitted (a : TestAction) (h : s.channelFitted c = false) :
    s.elementTest c a = (s, .refused .argument []) := by simp [State.elementTest, h]

theorem State.elementTest_active (a : TestAction) (h : s.channelFitted c = true)
    (hd : (s.face c.face).steadyDark = false) : s.elementTest c a = (s, .refused .faceActive []) := by
  simp [State.elementTest, h, hd]

theorem State.elementTest_pair (h : s.channelFitted c = true) (hd : (s.face c.face).steadyDark = true)
    (ho : (s.face (otherFace c.face)).steadyAside = false) : s.elementTest c .pull = (s, .refused .pair []) := by
  simp [State.elementTest, h, hd, ho]

theorem State.elementTest_pull (h : s.channelFitted c = true) (hd : (s.face c.face).steadyDark = true)
    (ho : (s.face (otherFace c.face)).steadyAside = true) :
    s.elementTest c .pull = ((s.testPull c).1.channelTests c.face, (s.testPull c).2.reply) := by
  simp [State.elementTest, h, hd, ho]

theorem State.elementTest_release (h : s.channelFitted c = true) (hd : (s.face c.face).steadyDark = true) :
    s.elementTest c .release = ((s.testRelease c).1.channelTests c.face, (s.testRelease c).2.reply) := by
  simp [State.elementTest, h, hd]

end

/-- On a face STEADY DARK that awaits no relight the tests after a request find nothing. -/
theorem State.channelTests_dark {s : State} {f : Face} (hd : (s.face f).steadyDark = true)
    (hw : (s.face f).relightAwaited = false) : s.channelTests f = s :=
  State.channelTests_at_rest ((FaceRecord.steadyDark_iff _).mp hd).1 (by simp [hw])

theorem State.lampFault_face (s : State) (f : Face) : (s.lampFault f).face f = (s.face f).darken := by
  simp [State.lampFault]

section
variable {s : State} {f : Face}

/-- A release and an off are never refused, R28, R35. -/
theorem ShutterChannel.release_done (c : ShutterChannel) (p : ShutterParams) : (c.release p).1.reply = .done [] := by
  cases hc : c.state <;> simp [ShutterChannel.release, Answer.reply, hc]

theorem LampChannel.turnOff_done (c : LampChannel) : c.turnOff.1.reply = .done [] := by
  cases hc : c.state <;> simp [LampChannel.turnOff, Answer.reply, hc]

theorem State.elementTest_release_shutter {k : Shutter} (hf : s.fitted f k = true) (hd : (s.face f).steadyDark = true)
    (hw : (s.face f).relightAwaited = false) :
    s.elementTest (.shutter f k) .release = (s.releaseShutter f k, .done []) := by
  rw [State.elementTest_release (c := .shutter f k) hf hd]
  simp only [State.testRelease, ShutterChannel.release_done, Channel.face]
  rw [State.channelTests_dark (by simpa using hd) (by simpa using hw)]

theorem State.elementTest_release_lamp (hd : (s.face f).steadyDark = true) (hw : (s.face f).relightAwaited = false) :
    s.elementTest (.lamp f) .release = (s.lampOff f, .done []) := by
  rw [State.elementTest_release rfl hd]
  simp only [State.testRelease, LampChannel.turnOff_done, Channel.face]
  rw [State.channelTests_dark (by simpa using hd) (by simpa using hw)]

theorem State.elementTest_pull_lamp (hd : (s.face f).steadyDark = true) (hw : (s.face f).relightAwaited = false)
    (ho : (s.face (otherFace f)).steadyAside = true) :
    ((s.lamp f).state = .off → s.elementTest (.lamp f) .pull =
      (s.setLamp f { s.lamp f with state := .ramping, timer := some (s.config f).rampTime }, .done [])) ∧
    ((s.lamp f).state = .ramping ∨ (s.lamp f).state = .lit → s.elementTest (.lamp f) .pull = (s, .done [])) ∧
    ((s.lamp f).state = .blocked → s.elementTest (.lamp f) .pull =
      ((s.reportLamp f (s.lamp f).lastFault).lampFault f, .refused .busy [])) := by
  rw [State.elementTest_pull rfl hd ho]
  refine ⟨fun hl => ?_, fun hl => ?_, fun hl => ?_⟩
  · simp only [State.testPull, hl, LampChannel.ramp, Answer.reply, Channel.face]
    rw [State.channelTests_dark (by simpa using hd) (by simpa using hw)]
  · rcases hl with hl | hl
    all_goals
      simp only [State.testPull, hl, Answer.reply, Channel.face]
      rw [State.channelTests_dark hd hw]
  · simp only [State.testPull, hl, Answer.reply, Channel.face]
    rw [State.channelTests_dark (by rw [State.lampFault_face]; rfl) (by rw [State.lampFault_face]; rfl)]

theorem State.elementTest_pull_shutter {k : Shutter} (hf : s.fitted f k = true) (hd : (s.face f).steadyDark = true)
    (hw : (s.face f).relightAwaited = false) (ho : (s.face (otherFace f)).steadyAside = true)
    (hr : s.sup.releaseAll = false) :
    ((s.shutter f k).state = .off → s.elementTest (.shutter f k) .pull =
      (s.setShutter f k { s.shutter f k with
        state := .pulling, movedSeen := false, peak := some (s.shutter f k).measured
        timer := some ((s.config f).params k).hitTime }, .done [])) ∧
    ((s.shutter f k).state = .pulling ∨ (s.shutter f k).state = .holding →
      s.elementTest (.shutter f k) .pull = (s, .done [])) ∧
    ((s.shutter f k).state = .releasing → s.elementTest (.shutter f k) .pull = (s, .refused .busy [])) ∧
    ((s.shutter f k).state = .blocked → s.elementTest (.shutter f k) .pull =
      ((s.reportShutter f k (s.shutter f k).lastFault).setFace f { s.face f with
        latch := if (s.face f).latch = .none then .element else (s.face f).latch }, .refused .busy [])) := by
  obtain ⟨hs, hdark⟩ := (FaceRecord.steadyDark_iff _).mp hd
  have hactive (h : (s.shutter f k).active = true) :
      s.elementTest (.shutter f k) .pull = (s, (s.pullAnswer f k).reply) := by
    rw [State.elementTest_pull (c := .shutter f k) hf hd ho]
    simp only [State.testPull, Channel.face]
    rw [State.requestPull_active h hr, State.channelTests_dark hd hw]
  refine ⟨fun hk => ?_, fun hk => ?_, fun hk => ?_, fun hk => ?_⟩
  · rw [State.elementTest_pull (c := .shutter f k) hf hd ho]
    simp only [State.testPull, Channel.face, State.pullAnswer, hr, ShutterChannel.pull, hk, Answer.reply]
    rw [State.requestPull_off hk hr, State.channelTests_dark (by simpa using hd) (by simpa using hw)]
    rfl
  · rw [hactive (by rcases hk with hk | hk <;> simp [ShutterChannel.active, hk])]
    rcases hk with hk | hk <;> simp [State.pullAnswer, hr, ShutterChannel.pull, hk, Answer.reply]
  · rw [hactive (by simp [ShutterChannel.active, hk])]
    simp [State.pullAnswer, hr, ShutterChannel.pull, hk, Answer.reply]
  · rw [State.elementTest_pull (c := .shutter f k) hf hd ho]
    simp only [State.testPull, Channel.face, State.pullAnswer, hr, ShutterChannel.pull, hk, Answer.reply]
    rw [State.requestPull_blocked hk hr,
      State.elementFault_at_rest (by simpa using hs) (by simp [hdark, Aspect.permissive]),
      State.channelTests_dark (by rw [State.setFace_face, State.reportShutter_face]; exact hd) (by simpa using hw)]
    simp

end

/-! ### What a release and an off leave, R28, R32, R35 -/

/-- A release on a shutter, R28. -/
theorem ShutterChannel.release_snd (c : ShutterChannel) (p : ShutterParams) : (c.release p).2 =
    if c.state = .pulling ∨ c.state = .holding then
      { c with
        state := .releasing, peak := none, timer := some p.settle, movedSeen := c.movedSeen && c.state == .holding }
    else c := by
  split
  next h => rw [ShutterChannel.release_driven (c.driven_iff.mpr h)]
  next h => rw [ShutterChannel.release_still (by simpa [← c.driven_iff] using h)]

/-- The releases of a face reach its own shutters. -/
theorem State.releaseDriven_shutter_eq (s : State) (f g : Face) (j : Shutter) : (s.releaseDriven f).shutter g j =
    if g = f ∧ ((s.shutter f j).state = .pulling ∨ (s.shutter f j).state = .holding) then
      { s.shutter f j with
        state := .releasing, peak := none, timer := some ((s.config f).params j).settle
        movedSeen := (s.shutter f j).movedSeen && (s.shutter f j).state == .holding }
    else s.shutter g j := by
  by_cases hg : g = f
  · subst hg; simp [ShutterChannel.release_snd]
  · rw [if_neg (by simp [hg]), eq_otherFace_of_ne hg]; simp [State.shutter]

/-- A release reaches its own shutter. -/
theorem State.releaseShutter_shutter_eq (s : State) (f g : Face) (k j : Shutter) : (s.releaseShutter f k).shutter g j =
    if g = f ∧ j = k ∧ ((s.shutter f k).state = .pulling ∨ (s.shutter f k).state = .holding) then
      { s.shutter f k with
        state := .releasing, peak := none, timer := some ((s.config f).params k).settle
        movedSeen := (s.shutter f k).movedSeen && (s.shutter f k).state == .holding }
    else s.shutter g j := by
  rw [State.releaseShutter]
  by_cases hg : g = f
  · subst hg
    by_cases hj : j = k
    · subst hj; simp [ShutterChannel.release_snd]
    · rw [if_neg (by simp [hj]), State.setShutter_shutter_ne s g _ hj]
  · rw [if_neg (by simp [hg]), eq_otherFace_of_ne hg, State.setShutter_shutter_other]

/-- An off reaches the lamp of its face, unless it is BLOCKED. -/
theorem State.lampOff_lamp_eq (s : State) (f g : Face) : (s.lampOff f).lamp g =
    if g = f ∧ (s.lamp f).state ≠ .blocked then { s.lamp f with state := .off, timer := none, moveFrom := none }
    else s.lamp g := by
  by_cases hg : g = f
  · subst hg
    rw [State.lampOff_lamp]
    cases hl : (s.lamp g).state <;> simp [LampChannel.turnOff, hl]
  · rw [if_neg (by simp [hg]), eq_otherFace_of_ne hg]
    simp [State.lamp]

theorem State.releaseDriven_lamp_eq (s : State) (f g : Face) : (s.releaseDriven f).lamp g = s.lamp g := by
  by_cases hg : g = f
  · subst hg; simp
  · rw [eq_otherFace_of_ne hg]; simp [State.lamp]

theorem State.releaseShutter_lamp_eq (s : State) (f g : Face) (k : Shutter) : (s.releaseShutter f k).lamp g = s.lamp g := by
  simp [State.releaseShutter]

/-- Settles O32. -/
theorem elementTestNeedsADarkFace : Obligations.ElementTestNeedsADarkFace := by
  unfold Obligations.ElementTestNeedsADarkFace
  refine ⟨?judged, ?requests, ?releases⟩
  case judged =>
    intro s x c f k h
    have hfit (d : Channel) : (s.handed .elementTest).channelFitted d = s.channelFitted d := by
      cases d <;> simp [State.channelFitted]
    refine ⟨fun ha => ?_, fun ha hend => ?_, fun ha hend => ?_⟩
    · rw [exec_elementTest h, TestAction.ofCode_eq_none_iff.mpr ha]
    · obtain ⟨a, ha⟩ := TestAction.ofCode_isSome ha
      rw [exec_elementTest h, ha]
      simp [hend]
    obtain ⟨a, ha⟩ := TestAction.ofCode_isSome ha
    refine ⟨fun hc => ?_, fun hc hf => ?_, fun hc hf hd => ?_, fun hc hf hd hp ho => ?_, fun hc hf hd hw hp ho hr => ?_⟩
    · rw [exec_elementTest h, ha, Channel.ofNumber_above hc]
      simp [hend]
    · rw [exec_elementTest_channel h hend ha hc, State.elementTest_unfitted (c := .shutter f k) a ((hfit _).trans hf)]
    · rw [exec_elementTest_channel h hend ha hc, State.elementTest_active a ((hfit _).trans hf) (by simpa using hd)]
    · rw [exec_elementTest_channel h hend (by rw [hp]; rfl) hc,
        State.elementTest_pair ((hfit _).trans hf) (by simpa using hd) (by simpa using ho)]
    · rw [exec_elementTest_channel h hend (by rw [hp]; rfl) hc]
      obtain ⟨hoff, hon, hreleasing, hblocked⟩ := State.elementTest_pull_shutter (s := s.handed .elementTest) (f := f)
        (k := k) (by simpa using hf) (by simpa using hd) (by simpa using hw) (by simpa using ho) (by simpa using hr)
      simp only [State.handed_shutter, State.handed_config, State.handed_face] at hoff hon hreleasing hblocked
      exact ⟨fun hk => by rw [hoff hk], fun hk => by rw [hon hk], fun hk => by rw [hreleasing hk],
        fun hk => by rw [hblocked hk]⟩
  case requests =>
    intro s x f k h hend hd hw
    refine ⟨fun hc hf hp => ?_, fun hc => ⟨fun hp => ?_, fun hp ho => ?_⟩⟩
    · rw [exec_elementTest_channel h hend (by rw [hp]; rfl) hc,
        State.elementTest_release_shutter (by simpa using hf) (by simpa using hd) (by simpa using hw)]
    · rw [exec_elementTest_channel h hend (by rw [hp]; rfl) hc,
        State.elementTest_release_lamp (by simpa using hd) (by simpa using hw)]
    · rw [exec_elementTest_channel h hend (by rw [hp]; rfl) hc]
      obtain ⟨hoff, hon, hblocked⟩ := State.elementTest_pull_lamp (s := s.handed .elementTest) (f := f)
        (by simpa using hd) (by simpa using hw) (by simpa using ho)
      simp only [State.handed_lamp, State.handed_config] at hoff hon hblocked
      exact ⟨fun hl => by rw [hoff hl], fun hl => by rw [hon hl], fun hl => by rw [hblocked hl]⟩
  case releases =>
    intro s f g k j
    exact ⟨State.releaseDriven_shutter_eq s f g j, State.releaseDriven_lamp_eq s f g, State.releaseDriven_face s f g,
      State.releaseShutter_shutter_eq s f g k j, State.releaseShutter_lamp_eq s f g k, State.releaseShutter_face s f g k,
      State.lampOff_lamp_eq s f g, State.lampOff_shutter s f g j, State.lampOff_face s f g⟩

end Sys2Proof.Machine
end

section
/-! The statements about targets (O52) and about the state a reset leaves (O60). -/

namespace Sys2Proof.Machine

/-! ### Pending targets, R8, R107 -/

section
variable {s : State} {f : Face} (t : Target) (why : Reason) (keep : Bool)

/-- A target pends where none does. -/
theorem State.pend_fresh (h : (s.face f).pending = none) :
    (s.setFace f { s.face f with target := t }).pend f t why keep =
      s.setFace f { s.face f with target := t, pending := some ⟨t.aspect, t.cause, 0, why⟩ } := by simp [State.pend, h]

/-- A pending target of the same aspect keeps its age. -/
theorem State.pend_same {p : PendingTarget} (h : (s.face f).pending = some p) (ha : p.aspect = t.aspect) :
    (s.setFace f { s.face f with target := t }).pend f t why keep = s.setFace f { s.face f with
      target := t, pending := some ⟨p.aspect, t.cause, p.age, if keep then p.reason else why⟩ } := by
  simp [State.pend, h, ha]

/-- A pending target of another aspect is superseded. -/
theorem State.pend_other {p : PendingTarget} (h : (s.face f).pending = some p) (ha : p.aspect ≠ t.aspect) :
    (s.setFace f { s.face f with target := t }).pend f t why keep = (s.setFace f { s.face f with
      target := t, pending := some ⟨t.aspect, t.cause, 0, why⟩ }).countSuperseded := by
  simp [State.pend, h, ha]

theorem State.supersede_none (h : (s.face f).pending = none) :
    (s.setFace f { s.face f with target := t }).supersede f = s.setFace f { s.face f with target := t } := by
  simp [State.supersede, h]

theorem State.supersede_some {p : PendingTarget} (h : (s.face f).pending = some p) :
    (s.setFace f { s.face f with target := t }).supersede f =
      (s.setFace f { s.face f with target := t, pending := none }).countSuperseded := by
  simp [State.supersede, State.unpend, h]

end

/-- The reason of a raise and that of another change, between aspects that have a rank, R107. -/
theorem waitReason_of_ranked {a b : Aspect} (ha : a ≠ .dark) (hb : b ≠ .dark) :
    waitReason a b = if a.rank.getD 0 < b.rank.getD 0 then .upstream else .downstream := by
  cases a <;> cases b <;> simp_all [waitReason, Aspect.rank]

/-! ### A resolved target, R8 -/

section
variable {s : State} {f : Face} {t : Target}

/-- The target of the shown aspect: nothing pends. -/
theorem State.takeTarget_shown (hs : (s.face f).state = .steady) (ha : t.aspect = (s.face f).shown) (g : GateOutcome) :
    s.takeTarget f t g = s.setFace f { s.face f with target := t, pending := none } := by
  simp [State.takeTarget, State.unpend, hs, ha]

/-- A latch or DARK holds a target back. -/
theorem State.takeTarget_held (hs : (s.face f).state = .steady) (ha : t.aspect ≠ (s.face f).shown)
    (hl : (s.face f).latch ≠ .none ∨ (s.face f).shown = .dark) (g : GateOutcome) :
    s.takeTarget f t g = (s.setFace f { s.face f with target := t }).pend f t .fault (g = .notNow) := by
  simp [State.takeTarget, hs, ha, hl]

section
variable (hs : (s.face f).state = .steady) (ha : t.aspect ≠ (s.face f).shown) (hl : (s.face f).latch = .none)
  (hd : (s.face f).shown ≠ .dark)
include hs ha hl hd

theorem State.takeTarget_fail (why : Reason) :
    s.takeTarget f t (.fail why) = (s.setFace f { s.face f with target := t }).pend f t why false := by
  simp [State.takeTarget, hs, ha, hl, hd]

theorem State.takeTarget_notNow : s.takeTarget f t .notNow =
    (s.setFace f { s.face f with target := t }).pend f t (waitReason (s.face f).shown t.aspect) true := by
  simp [State.takeTarget, hs, ha, hl, hd]

/-- The gates pass: the change starts. -/
theorem State.takeTarget_pass (hr : s.sup.releaseAll = false) :
    s.takeTarget f t .pass = (s.setFace f { s.face f with target := t, pending := none }).beginChange f t.aspect := by
  simp [State.takeTarget, State.unpend, hs, ha, hl, hd, hr]

end

/-- A face in a change: the target is the one the change goes to, or it pends. -/
theorem State.takeTarget_in_change (hs : (s.face f).state = .changing) (g : GateOutcome) :
    s.takeTarget f t g =
      if (s.face f).changingTo t.aspect = true then (s.setFace f { s.face f with target := t }).supersede f
      else (s.setFace f { s.face f with target := t }).pend f t .inChange true := by
  simp only [State.takeTarget, State.setFace_face]
  split
  next h => exact absurd (hs.symm.trans h) (by decide)
  next => rfl
  next h => exact absurd (hs.symm.trans h) (by decide)

theorem State.takeTarget_reached (hs : (s.face f).state = .changing) (hc : (s.face f).changingTo t.aspect = true)
    (g : GateOutcome) : s.takeTarget f t g = (s.setFace f { s.face f with target := t }).supersede f := by
  rw [State.takeTarget_in_change hs, if_pos hc]

theorem State.takeTarget_changing (hs : (s.face f).state = .changing) (hc : (s.face f).changingTo t.aspect = false)
    (g : GateOutcome) :
    s.takeTarget f t g = (s.setFace f { s.face f with target := t }).pend f t .inChange true := by
  rw [State.takeTarget_in_change hs, if_neg (by simp [hc])]

/-- A return goes to CLOSED. -/
theorem State.takeTarget_returned (hs : (s.face f).state = .returning) (ht : t.aspect = .closed) (g : GateOutcome) :
    s.takeTarget f t g = (s.setFace f { s.face f with target := t }).supersede f := by
  simp [State.takeTarget, hs, ht]

theorem State.takeTarget_returning (hs : (s.face f).state = .returning) (ht : t.aspect ≠ .closed) (g : GateOutcome) :
    s.takeTarget f t g = (s.setFace f { s.face f with target := t }).pend f t .inChange true := by
  simp [State.takeTarget, hs, ht]

end

/-- Settles O52: the case of the face's state says what becomes of the target, and the pending target says how it pends. -/
theorem aTargetIsTakenByTheFaceState : Obligations.ATargetIsTakenByTheFaceState := by
  unfold Obligations.ATargetIsTakenByTheFaceState
  refine ⟨?steady, ?pending, ?fresh⟩
  case steady =>
    intro s f t why hs
    refine ⟨fun ha g _ => State.takeTarget_shown hs ha g,
      fun ha hl hd hr => State.takeTarget_pass hs ha hl hd hr, fun ha hp => ⟨fun hl g _ => ?_, fun hl hd => ?_,
        fun hl hd ht => ?_⟩⟩
    · rw [State.takeTarget_held hs ha hl g, State.pend_fresh t _ _ hp]
    · rw [State.takeTarget_fail hs ha hl hd why, State.pend_fresh t _ _ hp]
    · rw [State.takeTarget_notNow hs ha hl hd, waitReason_of_ranked hd ht, State.pend_fresh t _ _ hp]
  case pending =>
    intro s f t p why g hp
    refine ⟨fun hs hl hd ha => ⟨fun hsame => ⟨?_, ?_⟩, fun hne => ⟨?_, fun ht => ?_⟩⟩,
      fun hs hl ha => ⟨fun hsame => ⟨fun hg => ?_, ?_⟩, fun hne => ?_⟩,
      fun hs => ⟨fun hc => ?_, fun hc hsame => ?_, fun hc hne => ?_⟩,
      fun hs => ⟨fun ht => ?_, fun ht hsame => ?_, fun ht hne => ?_⟩⟩
    · rw [State.takeTarget_fail hs ha hl hd why, State.pend_same t _ _ hp hsame]; rfl
    · rw [State.takeTarget_notNow hs ha hl hd, State.pend_same t _ _ hp hsame]; rfl
    · rw [State.takeTarget_fail hs ha hl hd why, State.pend_other t _ _ hp hne]
    · rw [State.takeTarget_notNow hs ha hl hd, waitReason_of_ranked hd ht, State.pend_other t _ _ hp hne]
    · rw [State.takeTarget_held hs ha hl g, State.pend_same t _ _ hp hsame]; simp [hg]
    · rw [State.takeTarget_held hs ha hl .notNow, State.pend_same t _ _ hp hsame]; simp
    · rw [State.takeTarget_held hs ha hl g, State.pend_other t _ _ hp hne]
    · rw [State.takeTarget_reached hs hc g, State.supersede_some t hp]
    · rw [State.takeTarget_changing hs hc g, State.pend_same t _ _ hp hsame]; rfl
    · rw [State.takeTarget_changing hs hc g, State.pend_other t _ _ hp hne]
    · rw [State.takeTarget_returned hs ht g, State.supersede_some t hp]
    · rw [State.takeTarget_returning hs ht g, State.pend_same t _ _ hp hsame]; rfl
    · rw [State.takeTarget_returning hs ht g, State.pend_other t _ _ hp hne]
  case fresh =>
    intro s f t g hp
    refine ⟨fun hs => ⟨fun hc => ?_, fun hc => ?_⟩, fun hs => ⟨fun ht => ?_, fun ht => ?_⟩⟩
    · rw [State.takeTarget_reached hs hc g, State.supersede_none t hp]
    · rw [State.takeTarget_changing hs hc g, State.pend_fresh t _ _ hp]
    · rw [State.takeTarget_returned hs ht g, State.supersede_none t hp]
    · rw [State.takeTarget_returning hs ht g, State.pend_fresh t _ _ hp]

/-! ### Reset -/

/-- Settles O60: every invariant is a test that the state after a reset passes. -/
theorem resetMeetsEveryInvariant : Obligations.ResetMeetsEveryInvariant := by
  unfold Obligations.ResetMeetsEveryInvariant
  decide

end Sys2Proof.Machine
end

section
/-! The words of the layouts (R193) by value: a packed word's value is the sum of its fields', each at its place. The
rules below read a word from its lowest field up; a proof that uses them keeps simp from splitting the word first
(`-BitVec.toNat_or`). -/

namespace Sys2Proof.Machine

/-! ### Packed words -/

/-- Every field of the word lies at or above the bit. -/
def ClearBelow (w : Word) (k : Nat) : Prop := 2 ^ k ∣ w.toNat

@[simp] theorem ClearBelow.fld {lo len k : Nat} (v : Nat) (hk : k ≤ lo) (h : lo + len ≤ 16) :
    ClearBelow (fld v lo len) k := by
  rw [ClearBelow, fld_toNat v h]
  exact (Nat.pow_dvd_pow 2 hk).mul_left _

@[simp] theorem ClearBelow.flag {i k : Nat} (b : Bool) (hk : k ≤ i) (h : i < 16) : ClearBelow (flag b i) k :=
  ClearBelow.fld _ hk h

@[simp] theorem clearBelow_or {v w : Word} {k : Nat} :
    ClearBelow (v ||| w) k ↔ ClearBelow v k ∧ ClearBelow w k := by
  simp only [ClearBelow, BitVec.toNat_or, Nat.dvd_iff_mod_eq_zero, Nat.or_mod_two_pow, Nat.or_eq_zero_iff]

/-- Words of which one lies above the other add their values. -/
theorem ClearBelow.toNat_or {v w : Word} {k : Nat} (hv : ClearBelow v k) (hw : w.toNat < 2 ^ k) :
    (v ||| w).toNat = v.toNat + w.toNat := by
  obtain ⟨q, hq⟩ := hv
  rw [BitVec.toNat_or, hq, ← Nat.two_pow_add_eq_or_of_lt hw]

/-- A field below the others adds its value. -/
@[simp] theorem or_fld_toNat {w : Word} {lo len : Nat} (v : Nat) (hw : ClearBelow w (lo + len)) (h : lo + len ≤ 16) :
    (w ||| fld v lo len).toNat = w.toNat + v % 2 ^ len * 2 ^ lo := toNat_or_fld v rfl h hw

/-- A flag below the others adds its value. -/
@[simp] theorem or_flag_toNat {w : Word} {i : Nat} (b : Bool) (hw : ClearBelow w (i + 1)) (h : i < 16) :
    (w ||| flag b i).toNat = w.toNat + b.toNat * 2 ^ i := toNat_or_flag b rfl h hw

theorem twoBytes_toNat {hi lo : Nat} (hh : hi < 256) (hl : lo < 256) : (twoBytes hi lo).toNat = 256 * hi + lo := by
  simp [-BitVec.toNat_or, twoBytes, fld_toNat]
  omega

/-! ### Codes within their fields, R194 -/

@[simp] theorem Aspect.code_lt (x : Aspect) : x.code < 8 := by cases x <;> decide
@[simp] theorem FaceState.code_lt (x : FaceState) : x.code < 4 := by cases x <;> decide
@[simp] theorem NodeState.code_lt (x : NodeState) : x.code < 8 := by cases x <;> decide
@[simp] theorem LockFaces.code_lt (x : LockFaces) : x.code < 4 := by cases x <;> decide
@[simp] theorem TargetCause.code_lt (x : TargetCause) : x.code < 8 := by cases x <;> decide
@[simp] theorem Reason.code_lt (x : Reason) : x.code < 16 := by cases x <;> decide
@[simp] theorem FaceLatch.code_lt (x : FaceLatch) : x.code < 4 := by cases x <;> decide
@[simp] theorem ChangeStep.code_lt (x : ChangeStep) : x.code < 4 := by cases x <;> decide
@[simp] theorem LaneType.code_lt (x : LaneType) : x.code < 4 := by cases x <;> decide
@[simp] theorem ShutterState.code_lt (x : ShutterState) : x.code < 8 := by cases x <;> decide
@[simp] theorem LampState.code_lt (x : LampState) : x.code < 8 := by cases x <;> decide
@[simp] theorem ChannelFault.code_lt (x : ChannelFault) : x.code < 8 := by cases x <;> decide
@[simp] theorem LineRole.code_lt (x : LineRole) : x.code < 4 := by cases x <;> decide
@[simp] theorem LoopState.code_lt (x : LoopState) : x.code < 4 := by cases x <;> decide
@[simp] theorem SupplyState.code_lt (x : SupplyState) : x.code < 4 := by cases x <;> decide
@[simp] theorem SilenceTimer.code_lt (x : SilenceTimer) : x.code < 4 := by cases x <;> simp [SilenceTimer.code]
@[simp] theorem ResetCause.code_lt (x : ResetCause) : x.code < 4 := by cases x <;> decide
@[simp] theorem SessionState.code_lt (x : SessionState) : x.code < 4 := by cases x <;> decide
@[simp] theorem SeqState.code_lt (x : SeqState) : x.code < 4 := by cases x <;> decide
@[simp] theorem ImageState.code_lt (x : ImageState) : x.code < 4 := by cases x <;> decide
@[simp] theorem Writer.code_lt (x : Writer) : x.code < 4 := by cases x <;> simp [Writer.code]
@[simp] theorem VoteOutcome.code_lt (x : VoteOutcome) : x.code < 4 := by cases x <;> decide

@[simp] theorem firstCauseCode_lt (x : Option Cause) : firstCauseCode x < 8 := by
  rcases x with _ | x
  · decide
  · cases x <;> decide

/-- The cause set's bits, from bit 0 up, R194. -/
theorem CauseSet.code_toNat (c : CauseSet) : c.code.toNat = c.closeAll.toNat + 2 * c.loop.toNat +
    4 * c.silence.toNat + 8 * c.supply.toNat + 16 * c.position.toNat := by
  obtain ⟨a, b, c, d, e⟩ := c
  revert a b c d e
  decide

theorem CauseSet.code_toNat_lt (c : CauseSet) : c.code.toNat < 2 ^ 8 := by
  obtain ⟨a, b, c, d, e⟩ := c
  revert a b c d e
  decide

theorem Link.isUp_eq (l : Link) : l.isUp = (l == .up) := by cases l <;> rfl

/-- The side bit is 1 for a merge lost to the right alone, R193, R194. -/
theorem sideFlag_eq (d : Option Side) : sideFlag d = (d == some .right).toNat := by
  rcases d with _ | d
  · rfl
  · cases d <;> rfl

end Sys2Proof.Machine
end

section
/-! The statement about the eight READ_ commands (O18): what each returns, word by word, and that it changes nothing. -/

namespace Sys2Proof.Machine

/-! ### The result words, R193 -/

/-- READ_IDENTITY's words. -/
theorem State.identityWords_toNat (s : State) : s.identityWords.map BitVec.toNat =
    [s.store.identity.vendor.toNat, s.store.identity.part.toNat, s.store.identity.revision.toNat,
      s.store.identity.serial.toNat / 65536, s.store.identity.serial.toNat % 65536,
      32768 * s.store.identityOk.toNat + 8 * s.store.identity.build.eDiagL.toNat +
        4 * s.store.identity.build.eDiagR.toNat + 2 * s.store.identity.build.wDiagL.toNat +
        s.store.identity.build.wDiagR.toNat] := by
  have := s.store.identity.serial.isLt
  have := s.store.identity.revision.isLt
  simp [-BitVec.toNat_or, State.identityWords, fld_toNat, flag_toNat]
  omega

/-- READ_SITE's words, for a record whose fields lie in their fields' widths. -/
theorem State.siteWords_toNat (s : State) {x : SiteRecord} (hx : x = s.store.site.fields) (hg : x.gantry < 256)
    (hl : x.lane < 256) (hw : x.width < 256) (he : x.expected < 256) (hh : x.tHold < 25600) (hc : x.tClose < 256000)
    (hs : x.stall < 256) : s.siteWords.map BitVec.toNat =
      [256 * x.gantry + x.lane, 256 * x.width + 2 * x.endFlag.toNat + s.store.site.valid.toNat, x.expected,
        16384 * x.lane1.toNat + 4096 * x.lane2.toNat + 1024 * x.lane3.toNat + 256 * s.store.site.laneType.code +
          s.store.site.vote.code,
        256 * (x.tHold / 100) + x.tClose / 1000, x.stall, x.masks.toNat, x.echo.toNat,
        16384 * s.store.siteImage.state.code + 4096 * s.store.faceImage.state.code +
          1024 * s.store.planImage.state.code + 256 * s.store.lockImage.state.code,
        16384 * s.store.writer.code + s.store.trimsInUse.toNat] := by
  subst hx
  have := s.store.site.fields.lane1.isLt
  have := s.store.site.fields.lane2.isLt
  have := s.store.site.fields.lane3.isLt
  have := s.store.site.fields.masks.isLt
  have hHold : s.store.site.fields.tHold / 100 < 256 := by omega
  have hClose : s.store.site.fields.tClose / 1000 < 256 := by omega
  simp [-BitVec.toNat_or, State.siteWords, fld_toNat, twoBytes_toNat, Nat.mod_eq_of_lt, *]
  omega

/-- The result word of one channel's fault detail. -/
theorem FaultDetail.word_toNat (d : FaultDetail) (h : d.count < 256) :
    d.word.toNat = 4096 * d.kinds.toNat + 512 * d.first.code + d.count := by
  have := d.kinds.isLt
  simp [-BitVec.toNat_or, FaultDetail.word, fld_toNat, Nat.mod_eq_of_lt, *]
  omega

/-- READ_STATUS's words before the fault details. -/
theorem State.statusWords_toNat (s : State) : s.statusWords.map BitVec.toNat =
    [8192 * s.node.state.code + 4096 * s.node.leaving.toNat + 2048 * s.node.ending.toNat +
        1024 * s.node.positionAgrees.toNat + 256 * s.node.resetCause.code,
      256 * s.node.address.toNat + s.line.role.code,
      32768 * (s.line.linkA == .up).toNat + 16384 * (s.line.linkB == .up).toNat + 4096 * s.sup.loop.code +
        1024 * s.sup.supply.code + 256 * s.sup.timer.code,
      256 * firstCauseCode s.node.firstCause + s.node.causes.closeAll.toNat + 2 * s.node.causes.loop.toNat +
        4 * s.node.causes.silence.toNat + 8 * s.node.causes.supply.toNat + 16 * s.node.causes.position.toNat,
      s.fault.latches.toNat, s.fault.masks.toNat,
      32768 * s.alarm.toNat + 8192 * s.faces.e.latch.code + 2048 * s.faces.w.latch.code +
        1024 * s.faces.e.mergeLost.isSome.toNat + 512 * (s.faces.e.mergeLost == some .right).toNat +
        256 * s.faces.w.mergeLost.isSome.toNat + 128 * (s.faces.w.mergeLost == some .right).toNat] ++
    [s.fault.e.lamp, s.fault.e.mask, s.fault.e.arrow, s.fault.e.diagL, s.fault.e.diagR, s.fault.w.lamp,
      s.fault.w.mask, s.fault.w.arrow, s.fault.w.diagL, s.fault.w.diagR].map (fun x => x.word.toNat) := by
  have := s.node.address.isLt
  have := s.fault.latches.isLt
  have := s.fault.masks.isLt
  have := (s.faces.e.mergeLost == some .right).toNat_lt
  have := (s.faces.w.mergeLost == some .right).toNat_lt
  have hcause : ClearBelow (fld (firstCauseCode s.node.firstCause) 8 3) 8 := by simp
  simp [-BitVec.toNat_or, State.statusWords, FaceDetails.words, fld_toNat, flag_toNat, Nat.mod_eq_of_lt, Link.isUp_eq,
    sideFlag_eq, hcause.toNat_or s.node.causes.code_toNat_lt, CauseSet.code_toNat, *]
  omega

/-- The word of a change in progress. -/
theorem changeWord_some_toNat (c : Change) : (changeWord (some c)).toNat =
    32768 + 4096 * c.src.code + 512 * c.dst.code + (if c.phase = .one then 128 else 256) := by
  have hphase : c.phase.code * 128 = if c.phase = .one then 128 else 256 := by cases c.phase <;> rfl
  simp [-BitVec.toNat_or, changeWord, flag_toNat, Nat.mod_eq_of_lt, hphase]
  omega

theorem changeWord_none : changeWord none = 0 := rfl
theorem pendingWord_none : pendingWord none = 0 := rfl

/-- The word of a pending target. -/
theorem pendingWord_some_toNat (q : PendingTarget) : (pendingWord (some q)).toNat =
    32768 + 4096 * q.aspect.code + 512 * q.cause.code + 32 * q.reason.code := by
  simp [-BitVec.toNat_or, pendingWord, flag_toNat, Nat.mod_eq_of_lt]
  omega

/-- READ_FACE's words. -/
theorem FaceRecord.words_toNat (r : FaceRecord) (hf : r.env.floor < 4) (hc : r.env.ceiling < 4)
    (hq : (r.pending.all fun q => q.age < 65536) = true) : r.words.map BitVec.toNat =
      [8192 * r.shown.code + 2048 * r.state.code + 512 * r.env.floor + 128 * r.env.ceiling + 32 * r.latch.code +
          16 * r.mergeLost.isSome.toNat + 8 * (r.mergeLost == some .right).toNat,
        (changeWord r.change).toNat, 8192 * r.target.aspect.code + 1024 * r.target.cause.code,
        (pendingWord r.pending).toNat, (r.pending.map PendingTarget.age).getD 0] := by
  have := (r.mergeLost == some .right).toNat_lt
  have hage : (r.pending.map PendingTarget.age).getD 0 < 65536 := by
    cases hp : r.pending with
    | none => simp
    | some q => simpa [hp] using hq
  simp [-BitVec.toNat_or, FaceRecord.words, fld_toNat, Nat.mod_eq_of_lt, sideFlag_eq, *]
  omega

theorem measure_le (t : Trim) (raw : Nat) : measure t raw ≤ sensingLimit := Nat.min_le_right _ _

/-- READ_CHANNEL's words of a lamp. -/
theorem State.channelWords_lamp_toNat (s : State) (f : Face) (raw : Nat) (hc : (s.config f).lampCurrent < 128)
    (hr : (s.config f).rampTime < 65536) : (s.channelWords raw (.lamp f)).map BitVec.toNat =
      [8192 * (s.lamp f).state.code + 1024 * (s.lamp f).lastFault.code + 512 + 128 * s.store.trimsInUse.toNat,
        s.measureLamp f raw, 256 * (s.config f).lampCurrent, (s.config f).rampTime, 0] := by
  have hm : s.measureLamp f raw < 65536 := (measure_le _ _).trans_lt (by decide)
  simp [-BitVec.toNat_or, State.channelWords, lampParamWords, fld_toNat, Nat.mod_eq_of_lt, *]
  omega

/-- READ_CHANNEL's words of a shutter. -/
theorem State.channelWords_shutter_toNat (s : State) (f : Face) (k : Shutter) (raw : Nat) {p : ShutterParams}
    (hp : p = (s.config f).params k) (hi : p.hit < 128) (ho : p.hold < 128) (ht : p.hitTime < 65536)
    (hd : p.dipThreshold < 16) (hb : p.dipDebounce < 16) (hs : p.settle < 256) :
    (s.channelWords raw (.shutter f k)).map BitVec.toNat =
      [8192 * (s.shutter f k).state.code + 1024 * (s.shutter f k).lastFault.code + 512 * (s.fitted f k).toNat +
          256 * (s.shutter f k).movedSeen.toNat + 128 * s.store.trimsInUse.toNat,
        s.measureShutter f k raw, 256 * p.hit + p.hold, p.hitTime,
        4096 * p.dipThreshold + 256 * p.dipDebounce + p.settle] := by
  subst hp
  have hm : s.measureShutter f k raw < 65536 := (measure_le _ _).trans_lt (by decide)
  simp [-BitVec.toNat_or, State.channelWords, ShutterParams.words, fld_toNat, Nat.mod_eq_of_lt, *]
  omega

/-- A plan entry's word. -/
theorem PlanEntry.word_toNat (y : PlanEntry) (h : y.plan < 256) :
    y.word.toNat = 256 * y.plan + 32 * y.e.code + 4 * y.w.code := by
  simp [-BitVec.toNat_or, PlanEntry.word, fld_toNat, Nat.mod_eq_of_lt, h]
  omega

/-- The eight entries of a bank from a place on. -/
theorem Bank.window_toNat (b : Bank) (first : Nat) : (b.window first).map BitVec.toNat =
    [0, 1, 2, 3, 4, 5, 6, 7].map fun n => ((b.entries[first - 1 + n]?).map fun e => e.word.toNat).getD 0 := by
  rw [Bank.window, List.map_map]
  refine List.map_congr_left fun n _ => ?_
  cases h : b.entries[first - 1 + n]? <;> simp [h]

/-- READ_PLAN's words. -/
theorem State.planWords_toNat (s : State) (b : Bank) (valid : Bool) (first : Nat) (hb : b.entries.length < 256)
    (he : s.plan.session.expected.getD 0 < 64) (hr : s.plan.session.received < 64) :
    (s.planWords b valid first).map BitVec.toNat =
      [256 * b.entries.length + valid.toNat, b.check.toNat,
        16384 * s.plan.session.state.code + 256 * s.plan.session.expected.getD 0 + s.plan.session.received] ++
      [0, 1, 2, 3, 4, 5, 6, 7].map fun n => ((b.entries[first - 1 + n]?).map fun e => e.word.toNat).getD 0 := by
  rw [State.planWords, List.map_append, Bank.window_toNat]
  congr 1
  simp [-BitVec.toNat_or, fld_toNat, Nat.mod_eq_of_lt, *]
  omega

/-- A gantry at a place of a list of bytes, 0 past its end, is a byte. -/
theorem getD_lt_of_all {l : List Nat} (h : (l.all fun g => g < 256) = true) (n : Nat) : l.getD n 0 < 256 := by
  rw [List.all_eq_true] at h
  cases hn : l[n]? with
  | none => simp [hn]
  | some g => simpa [hn] using h g (List.mem_of_getElem? hn)

/-- The word of two except gantries. -/
theorem exceptWord_toNat {l : List Nat} (h : (l.all fun g => g < 256) = true) (n : Nat) :
    (exceptWord l n).toNat = 256 * l.getD (2 * n) 0 + l.getD (2 * n + 1) 0 :=
  twoBytes_toNat (getD_lt_of_all h _) (getD_lt_of_all h _)

/-- The word of a lock, 0 past the last. -/
theorem lockWord_toNat {ls : List Lock} (h : (ls.all fun l => l.id < 256) = true) (n : Nat) :
    (lockWord ls n).toNat =
      ((ls[n]?).map fun l => 256 * l.id + 64 * l.faces.code + l.durable.toNat).getD 0 := by
  rw [List.all_eq_true] at h
  cases hn : ls[n]? with
  | none => simp [lockWord, hn]
  | some l =>
    have hid : l.id < 256 := by simpa using h l (List.mem_of_getElem? hn)
    simp [-BitVec.toNat_or, lockWord, hn, fld_toNat, Nat.mod_eq_of_lt, hid]
    omega

/-- READ_LOCKS's words. -/
theorem State.lockWords_toNat (s : State) {q : SeqRecord} (hq : q = s.poss.seq) (hn : s.poss.locks.length < 8)
    (hf : q.fromGantry.getD 0 < 256) (ht : q.toGantry.getD 0 < 256) (hx : q.exceptList.length < 16)
    (hxs : (q.exceptList.all fun g => g < 256) = true) (hls : (s.poss.locks.all fun l => l.id < 256) = true) :
    s.lockWords.map BitVec.toNat =
      [8192 * s.poss.locks.length + 4096 * s.poss.dirty.toNat + 2048 * s.store.writer.lockWrite.toNat + q.state.code,
        256 * q.fromGantry.getD 0 + q.toGantry.getD 0,
        256 * (q.laneMask.map BitVec.toNat).getD 0 + 64 * (q.faces.map LockFaces.code).getD 0 + q.exceptList.length] ++
      ([0, 1, 2, 3].map fun n => 256 * q.exceptList.getD (2 * n) 0 + q.exceptList.getD (2 * n + 1) 0) ++
      [0, 1, 2, 3].map fun n => ((s.poss.locks[n]?).map fun l =>
        256 * l.id + 64 * l.faces.code + l.durable.toNat).getD 0 := by
  subst hq
  have hmask : (s.poss.seq.laneMask.map BitVec.toNat).getD 0 < 256 := by
    cases s.poss.seq.laneMask with
    | none => simp
    | some m => simpa using m.isLt
  have hfaces : (s.poss.seq.faces.map LockFaces.code).getD 0 < 4 := by cases s.poss.seq.faces <;> simp
  simp only [State.lockWords, List.map_cons, List.map_nil, exceptWord_toNat hxs, lockWord_toNat hls,
    twoBytes_toNat hf ht, List.cons_append, List.nil_append, List.cons.injEq, and_true, true_and]
  simp [-BitVec.toNat_or, fld_toNat, Nat.mod_eq_of_lt, *]
  omega

/-! ### The executed reads -/

/-- The word at an argument's place is the body's. -/
theorem argWord_argsOf_getD {c : Cmd} (x : CommandPayload) {i : Nat} (h : i < c.row.args) :
    argWord (c.argsOf x.body) i = x.body.getD i 0 := by
  simp [argWord, Cmd.argsOf, List.getD_eq_getElem?_getD, h]

/-- A read leaves the node as it was but for the frame's receipt, and its answer leaves with the frame, R57, R67, R140. -/
theorem State.command_reads {s : State} {c : Cmd} {x : CommandPayload} {effect : Effect} {r : Reply}
    (h : s.executes c x = true) (hk : c.keepsSequence = true)
    (he : effect (s.received .a) (c.argsOf x.body) = (s.received .a, r)) :
    s.command c x effect = (s.received .a).sendReply c x r := by
  have hc : c ≠ .reset := by
    rintro rfl
    exact absurd hk (by decide)
  rw [← State.handed_keeps hk] at he
  rw [State.command_executes h hc effect (by simpa [he] using State.running_of_executes h), he,
    State.handed_keeps hk]

theorem State.received_channelWords (s : State) (p : Port) (raw : Nat) (c : Channel) :
    (s.received p).channelWords raw c = s.channelWords raw c := by cases c <;> rfl

/-- READ_FACE by its face code, R194. -/
theorem readFace_eq (s : State) (args : List Word) : readFace s args =
    (s, if argWord args 0 = 1 then .done s.faces.e.words else if argWord args 0 = 2 then .done s.faces.w.words
      else .refused .argument []) := by
  by_cases h1 : argWord args 0 = 1
  · simp [readFace, h1, faceOfCode, State.face]
  by_cases h2 : argWord args 0 = 2
  · simp [readFace, h2, faceOfCode, State.face]
  have hn : faceOfCode (argWord args 0).toNat = none := by
    unfold faceOfCode
    split
    next h => exact absurd (BitVec.eq_of_toNat_eq h) h1
    next h => exact absurd (BitVec.eq_of_toNat_eq h) h2
    next => rfl
  rw [readFace, hn, if_neg h1, if_neg h2]

/-- READ_CHANNEL by its channel number, R23. -/
theorem readChannel_eq (raw : Nat) (s : State) (args : List Word) : readChannel raw s args =
    (s, (Channel.ofNumber (argWord args 0).toNat).elim (.refused .argument []) fun c =>
      .done (s.channelWords raw c)) := by
  unfold readChannel
  cases Channel.ofNumber (argWord args 0).toNat <;> rfl

/-- READ_PLAN by its index and its bank, R134. -/
theorem readPlan_eq (s : State) (args : List Word) : readPlan s args =
    (s, if 1 ≤ (argWord args 1).toNat ∧ (argWord args 1).toNat ≤ 48 then
        if argWord args 0 = 0 then .done (s.planWords s.plan.active false (argWord args 1).toNat)
        else if argWord args 0 = 1 then
          .done (s.planWords s.plan.staging s.plan.stagingValid (argWord args 1).toNat)
        else .refused .argument []
      else .refused .argument []) := by
  have hrange : ((argWord args 1).toNat < 1 || bankLimit < (argWord args 1).toNat) = true ↔
      ¬(1 ≤ (argWord args 1).toNat ∧ (argWord args 1).toNat ≤ 48) := by
    rw [Bool.or_eq_true, decide_eq_true_eq, decide_eq_true_eq, bankLimit]
    omega
  simp only [readPlan, hrange]
  split_ifs <;> rfl

/-- Settles O18: each read is its effect on the node as received, and each record's words are the sums of their
fields. -/
theorem readsAnswerAndChangeNothing : Obligations.ReadsAnswerAndChangeNothing := by
  unfold Obligations.ReadsAnswerAndChangeNothing
  refine ⟨?reads, ?site, ?status, ?face, ?plan, ?codes⟩
  case reads =>
    intro s x raw
    refine ⟨fun h => ?_, fun h => ?_, fun h => ?_, fun h => ?_, fun h => ?_, fun h => ?_, fun h => ?_, fun h => ?_⟩
      <;> refine congrArg Host.Outcome.next (State.command_reads h rfl ?_)
    · rfl
    · rfl
    · rfl
    · rw [readFace_eq, argWord_argsOf x (by decide)]
      rfl
    · rw [readChannel_eq, argWord_argsOf x (by decide)]
      cases Channel.ofNumber x.arg.toNat with
      | none => rfl
      | some c => simp [State.received_channelWords]
    · rw [readPlan_eq, argWord_argsOf x (by decide), argWord_argsOf_getD x (by decide)]
      rfl
    · rfl
    · rfl
  case site =>
    rintro s i x rfl hx
    exact ⟨s.identityWords_toNat, s.siteWords_toNat hx⟩
  case status =>
    intro s d
    exact ⟨s.statusWords_toNat, d.word_toNat⟩
  case face =>
    intro s r f k raw p
    refine ⟨fun hf hc hq => ?_, s.channelWords_lamp_toNat f raw, s.channelWords_shutter_toNat f k raw⟩
    rw [r.words_toNat hf hc hq]
    cases r.change <;> cases r.pending <;>
      simp [changeWord_some_toNat, pendingWord_some_toNat, changeWord_none, pendingWord_none]
  case plan =>
    intro s b valid first y q
    refine ⟨s.planWords_toNat b valid first, y.word_toNat, fun hq hn hf ht hx hxs hls => ?_⟩
    rw [s.lockWords_toNat hq hn hf ht hx hxs hls]
    cases s.store.writer <;> simp [Writer.lockWrite]
  case codes =>
    intro n c i j ls
    and_intros <;> rfl

end Sys2Proof.Machine
end

section
/-! The statement about WRITE_FACE (O20). -/

namespace Sys2Proof.Machine

/-! ### The checks of R26 -/

/-- Checks 2 and 3 fail on some shutter. -/
theorem FaceConfig.inconsistent_iff (c : FaceConfig) :
    (∃ k ∈ [Shutter.mask, .arrow, .diagL, .diagR],
      (c.params k).hit < (c.params k).hold ∨ (c.params k).hitTime ≤ (c.params k).dipDebounce) ↔
    (c.mask.consistent && c.arrow.consistent && c.diagL.consistent && c.diagR.consistent) = false := by
  have hp : ∀ p : ShutterParams, p.consistent = false ↔ p.hit < p.hold ∨ p.hitTime ≤ p.dipDebounce := fun p => by
    rw [← Bool.not_eq_true, ShutterParams.consistent, Bool.and_eq_true, decide_eq_true_eq, decide_eq_true_eq]
    omega
  simp only [Bool.and_eq_false_iff, hp, List.mem_cons, List.not_mem_nil, or_false, exists_eq_or_imp, exists_eq_left,
    FaceConfig.params, or_assoc]

/-- Check 5 fails where a diagonal that is the warning aspect is not fitted. -/
theorem FaceConfig.warningFitted_eq_false_iff (c : FaceConfig) : c.warningFitted = false ↔
    (c.warning = .mergeL ∧ c.diagLFitted = false) ∨ (c.warning = .mergeR ∧ c.diagRFitted = false) := by
  cases h : c.warning <;> simp [FaceConfig.warningFitted, h, Aspect.symbol, FaceConfig.fitted]

/-- An argument check fails. -/
theorem State.configOk_eq_false_iff (s : State) (f : Face) (c : FaceConfig) : s.configOk f c = false ↔
    c.inRange = false ∨
      (∃ k ∈ [Shutter.mask, .arrow, .diagL, .diagR],
        (c.params k).hit < (c.params k).hold ∨ (c.params k).hitTime ≤ (c.params k).dipDebounce) ∨
      (c.diagLFitted = true ∧ s.store.supports f .diagL = false) ∨
      (c.diagRFitted = true ∧ s.store.supports f .diagR = false) ∨
      (c.warning = .mergeL ∧ c.diagLFitted = false) ∨ (c.warning = .mergeR ∧ c.diagRFitted = false) := by
  rw [FaceConfig.inconsistent_iff, ← FaceConfig.warningFitted_eq_false_iff, State.configOk]
  simp only [Bool.and_eq_false_iff, Bool.or_eq_false_iff, Bool.not_eq_false', or_assoc]

/-- A face that may be written. -/
theorem State.writable_iff (s : State) (f : Face) : s.writable f = true ↔
    (s.face f).steadyClosed = true ∧ s.allOff f = true ∧ (s.face f).pending = none ∧ s.node.state ≠ .failsafe := by
  simp only [State.writable, Bool.and_eq_true, Option.isNone_iff_eq_none, bne_iff_ne, and_assoc]

/-! ### WRITE_FACE -/

/-- Words that name no face or no aspect fail their check, R194. -/
theorem writeFace_malformed (s : State) {args : List Word}
    (h : faceOfCode (argWord args 0).toNat = none ∨ configOfWords args = none) :
    writeFace s args = (s, .refused .argument []) := by
  obtain h | h := h
  · simp [writeFace, h]
  · cases hf : faceOfCode (argWord args 0).toNat <;> simp [writeFace, hf, h]

/-- WRITE_FACE on a face and a configuration, in R26's order of checks. -/
theorem writeFace_eq (s : State) {args : List Word} {f : Face} {c : FaceConfig}
    (hf : faceOfCode (argWord args 0).toNat = some f) (hc : configOfWords args = some c) :
    writeFace s args =
      if s.configOk f c = false then (s, .refused .argument [])
      else if s.writable f = false then (s, .refused .faceActive [])
      else (s.takeConfig f c, .done []) := by
  simp only [writeFace, hf, hc, Bool.not_eq_true']

theorem writeFace_phase (s : State) (args : List Word) : (writeFace s args).1.phase = s.phase := by
  unfold writeFace
  (repeat' split) <;> simp

@[simp] theorem State.handed_configOk (s : State) (d : Cmd) (f : Face) (c : FaceConfig) :
    (s.handed d).configOk f c = s.configOk f c := by simp [State.configOk]

@[simp] theorem State.handed_writable (s : State) (d : Cmd) (f : Face) :
    (s.handed d).writable f = s.writable f := by simp [State.writable, State.allOff]

/-- WRITE_FACE executed is its effect on the node as handed to it. -/
theorem exec_writeFace {s t : State} {x : CommandPayload} {r : Reply} (h : s.executes .writeFace x = true)
    (he : writeFace (s.handed .writeFace) (x.body.take 15) = (t, r)) :
    exec (.writeFace x) s = .next (t.sendReply .writeFace x r) := by
  have hargs : Cmd.writeFace.argsOf x.body = x.body.take 15 := rfl
  show Host.Outcome.next (s.command .writeFace x writeFace) = _
  rw [State.command_executes h (by decide) writeFace
    (by rw [writeFace_phase, State.handed_phase, State.running_of_executes h]), hargs, he]

/-- Settles O20: R26's checks in their order, then the configuration taken. -/
theorem writeFaceNeedsAQuietFace : Obligations.WriteFaceNeedsAQuietFace := by
  unfold Obligations.WriteFaceNeedsAQuietFace
  intro s x f c h
  have harg : argWord (x.body.take 15) 0 = x.arg := argWord_argsOf (c := .writeFace) x (by decide)
  rw [← harg]
  refine ⟨fun hn => exec_writeFace h (writeFace_malformed _ hn), fun hf hc => ?_⟩
  have he := writeFace_eq (s.handed .writeFace) hf hc
  rw [State.handed_configOk, State.handed_writable] at he
  rw [← State.configOk_eq_false_iff]
  refine ⟨fun hbad => exec_writeFace h (by rw [he, if_pos hbad]), fun hok => ⟨fun hbusy => ?_, fun hs ho hp hn => ?_⟩⟩
  · have hw : s.writable f = false := by
      rw [← Bool.not_eq_true, State.writable_iff]
      rintro ⟨hs, ho, hp, hn⟩
      simp [hs, ho, hp, hn] at hbusy
    exact exec_writeFace h (by rw [he, if_neg hok, if_pos hw])
  · have hw : s.writable f = true := (s.writable_iff f).mpr ⟨hs, ho, hp, hn⟩
    have ht : (s.handed .writeFace).takeConfig f c =
        if (s.lamp f).state = .lit ∧ (s.config f).lampCurrent ≠ c.lampCurrent then
          ((s.handed .writeFace).setConfig f c).setLamp f { s.lamp f with moveFrom := some (s.config f).lampCurrent }
        else (s.handed .writeFace).setConfig f c := by
      simp [State.takeConfig]
    rw [← ht]
    exact exec_writeFace h (by rw [he, if_neg hok, if_neg (by simp [hw])])

end Sys2Proof.Machine
end

section
/-! The rules of the line that its statements share: what a port's line fields are after an update, and which port
receives. -/

namespace Sys2Proof.Machine

/-! ### The line block written in part -/

@[simp] theorem LineBlock.setRx_self (l : LineBlock) (p : Port) : l.setRx p (l.rx p) = l := by cases p <;> rfl
@[simp] theorem LineBlock.setLink_outboundQueue (l : LineBlock) (p : Port) (x : Link) :
    (l.setLink p x).outboundQueue = l.outboundQueue := by cases p <;> rfl
@[simp] theorem LineBlock.setRx_outboundQueue (l : LineBlock) (p : Port) (x : Receiver) :
    (l.setRx p x).outboundQueue = l.outboundQueue := by cases p <;> rfl
@[simp] theorem State.countFraming_outboundQueue (s : State) (p : Port) :
    (s.countFraming p).line.outboundQueue = s.line.outboundQueue := by cases p <;> rfl

/-- The order in which two latches are set is of no account, R164. -/
theorem State.latch_comm (s : State) (c d : FaultClass) : (s.latch c).latch d = (s.latch d).latch c := by
  simp only [State.latch, State.setFault, BitVec.or_assoc, BitVec.or_comm c.bit]

/-- What a reset leaves rests on the storage block and the queue of commands alone. -/
theorem State.doReset_congr {s t : State} (hs : s.store = t.store) (hp : s.pending = t.pending) (c : ResetCause)
    (ph : Phase) : s.doReset c ph = t.doReset c ph := by
  simp only [State.doReset, hs, hp]

/-! ### Which port receives, R55 -/

/-- END role is any role but THROUGH, R51. -/
theorem LineRole.isEnd_iff (r : LineRole) : r.isEnd = true ↔ r ≠ .through := by cases r <;> decide

/-- Port A receives always, port B before the end of start-up and in THROUGH. -/
theorem State.deaf_eq_false {s : State} {p : Port} (h : p = .a ∨ s.phase ≠ .running ∨ s.line.role = .through) :
    s.deaf p = false := by
  obtain rfl | hp | hr := h
  · rfl
  · cases p <;> simp [State.deaf, hp]
  · cases p <;> simp [State.deaf, hr, LineRole.isEnd]

/-- Past start-up in END role port B receives nothing. -/
theorem State.deaf_b {s : State} (hp : s.phase = .running) (hr : s.line.role ≠ .through) : s.deaf .b = true := by
  simp [State.deaf, hp, (LineRole.isEnd_iff _).mpr hr]

@[simp] theorem State.listen_deaf (s : State) (p q : Port) (xs : List Symbol) : (s.listen p xs).deaf q = s.deaf q := by
  cases q <;> simp [State.deaf]

theorem State.listen_of_deaf {s : State} {p : Port} (h : s.deaf p = true) (xs : List Symbol) : s.listen p xs = s := by
  simp [State.listen, h]

theorem State.receiveB_of_deaf {s : State} (h : s.deaf .b = true) (f : Frame) (ret : State → Frame → State × Frame) :
    s.receiveB f ret = s := by
  simp [State.receiveB, h]

end Sys2Proof.Machine
end

section
/-! The statement about the receiver's table (O11). -/

namespace Sys2Proof.Machine

/-! ### One symbol, R44 -/

theorem State.takeSymbols_singleton (s : State) (p : Port) (x : Symbol) : s.takeSymbols p [x] = s.takeSymbol p x := by
  simp only [State.takeSymbols]
  cases s.takeSymbol p x <;> rfl

theorem State.takeSymbols_cons {s t : State} {p : Port} {x : Symbol} (h : s.takeSymbol p x = some t)
    (xs : List Symbol) : s.takeSymbols p (x :: xs) = t.takeSymbols p xs := by
  simp only [State.takeSymbols, h]

/-- A symbol that counts no error moves the receiver alone. -/
theorem State.takeSymbol_quiet {s : State} {p : Port} {x : Symbol} {r : Receiver}
    (h : (s.line.rx p).take x = (r, .quiet)) : s.takeSymbol p x = some (s.setLine (s.line.setRx p r)) := by
  simp only [State.takeSymbol, h]

/-- A symbol that is an error moves the receiver and counts FRAMING. -/
theorem State.takeSymbol_framing {s : State} {p : Port} {x : Symbol} {r : Receiver}
    (h : (s.line.rx p).take x = (r, .framing)) :
    s.takeSymbol p x = some ((s.setLine (s.line.setRx p r)).countFraming p) := by
  simp only [State.takeSymbol, h]

/-- A symbol that ends a reception is left to the row of the frame (log 9). -/
theorem State.takeSymbol_ended {s : State} {p : Port} {x : Symbol} {r : Receiver} {ws : List Word}
    (h : (s.line.rx p).take x = (r, .ended ws)) : s.takeSymbol p x = none := by
  simp only [State.takeSymbol, h]

/-- A frame-end mark ends a reception with the words received. -/
theorem Receiver.take_frameEnd {r : Receiver} (h : r.state = .receiving) :
    r.take .frameEnd = (⟨.idle, []⟩, .ended r.buffer) := by
  simp only [Receiver.take, h]

/-- Nothing but a frame-end mark ends a reception. -/
theorem Receiver.take_not_ended {r : Receiver} {x : Symbol} (h : x ≠ .frameEnd ∨ r.state ≠ .receiving)
    (ws : List Word) : (r.take x).2 ≠ .ended ws := by
  cases x with
  | frameStart => simp only [Receiver.take]; split <;> simp
  | word w =>
    cases hr : r.state with
    | idle => simp [Receiver.take, hr]
    | receiving => simp only [Receiver.take, hr]; split <;> simp
    | discarding => simp [Receiver.take, hr]
  | frameEnd =>
    cases hr : r.state with
    | idle => simp [Receiver.take, hr]
    | receiving => exact absurd hr (h.resolve_left (· rfl))
    | discarding => simp [Receiver.take, hr]
  | idleFill => cases hr : r.state <;> simp [Receiver.take, hr]
  | codeViolation => cases hr : r.state <;> simp [Receiver.take, hr]

theorem State.takeSymbol_isSome {s : State} {p : Port} {x : Symbol}
    (h : x ≠ .frameEnd ∨ (s.line.rx p).state ≠ .receiving) : ∃ t, s.takeSymbol p x = some t := by
  cases ht : (s.line.rx p).take x with
  | mk r report =>
    cases report with
    | quiet => exact ⟨_, State.takeSymbol_quiet ht⟩
    | framing => exact ⟨_, State.takeSymbol_framing ht⟩
    | ended ws => exact absurd (congrArg Prod.snd ht) (Receiver.take_not_ended h ws)

/-! ### FRAMING_ERROR on a port that receives -/

theorem exec_framingError (s : State) (p : Port) (xs : List Symbol) :
    exec (.framingError p xs) s = .next (s.listen p xs) := rfl

theorem State.listen_some {s t : State} {p : Port} {xs : List Symbol} (hd : s.deaf p = false)
    (h : s.takeSymbols p xs = some t) : s.listen p xs = t := by
  simp [State.listen, hd, h]

theorem State.listen_none {s : State} {p : Port} {xs : List Symbol} (h : s.takeSymbols p xs = none) :
    s.listen p xs = s := by
  simp [State.listen, h]

theorem exec_framingError_quiet {s : State} {p : Port} {x : Symbol} {r : Receiver} (hd : s.deaf p = false)
    (h : (s.line.rx p).take x = (r, .quiet)) :
    exec (.framingError p [x]) s = .next { s with line := s.line.setRx p r } := by
  rw [exec_framingError, State.listen_some hd ((s.takeSymbols_singleton p x).trans (State.takeSymbol_quiet h))]
  rfl

theorem exec_framingError_counted {s : State} {p : Port} {x : Symbol} {r : Receiver} (hd : s.deaf p = false)
    (h : (s.line.rx p).take x = (r, .framing)) :
    exec (.framingError p [x]) s = .next ((s.setLine (s.line.setRx p r)).countFraming p) := by
  rw [exec_framingError, State.listen_some hd ((s.takeSymbols_singleton p x).trans (State.takeSymbol_framing h))]

theorem exec_framingError_ignored {s : State} {p : Port} {x : Symbol} (hd : s.deaf p = false)
    (h : (s.line.rx p).take x = (s.line.rx p, .quiet)) : exec (.framingError p [x]) s = .next s := by
  rw [exec_framingError_quiet hd h, LineBlock.setRx_self]

theorem exec_framingError_ended {s : State} {p : Port} {x : Symbol} {r : Receiver} {ws : List Word}
    (h : (s.line.rx p).take x = (r, .ended ws)) : exec (.framingError p [x]) s = .next s := by
  rw [exec_framingError, State.listen_none ((s.takeSymbols_singleton p x).trans (State.takeSymbol_ended h))]

/-! ### DISCARDING_END -/

theorem exec_discardingEnd (s : State) (p : Port) :
    exec (.discardingEnd p) s =
      if (s.line.rx p).state = .discarding then .next { s with line := s.line.setRx p ⟨.idle, []⟩ } else .next s := rfl

/-- Settles O11: R44's table cell by cell, each cell a case of `Receiver.take`; a run acts symbol by symbol. -/
theorem framingErrorsMoveTheReceiver : Obligations.FramingErrorsMoveTheReceiver := by
  unfold Obligations.FramingErrorsMoveTheReceiver
  intro s u p w x xs
  refine ⟨fun hp => ?_, fun h => by rw [exec_discardingEnd, if_pos h], fun h => by rw [exec_discardingEnd, if_neg h]⟩
  have hd : s.deaf p = false := State.deaf_eq_false hp
  refine ⟨fun h => ⟨?_, ?_, ?_, ?_, ?_⟩, fun h => ⟨?_, fun hb => ?_, fun hb => ?_, ?_, ?_, ?_⟩,
    fun h => ⟨?_, ?_, ?_, ?_, ?_⟩, rfl, fun hx hu => ?_, fun h => ?_, fun h => ?_, fun h => ?_⟩
  · exact exec_framingError_quiet hd (by simp [Receiver.take, h])
  · exact exec_framingError_counted hd (by simp [Receiver.take, h])
  · exact exec_framingError_ignored hd (by simp [Receiver.take, h])
  · exact exec_framingError_ignored hd (by simp [Receiver.take, h])
  · exact exec_framingError_ignored hd (by simp [Receiver.take, h])
  · exact exec_framingError_counted hd (by simp [Receiver.take, h])
  · exact exec_framingError_quiet hd (by simp [Receiver.take, h, maxFrameWords, hb])
  · exact exec_framingError_counted hd (by simp [Receiver.take, h, maxFrameWords, Nat.not_lt.mpr hb])
  · exact exec_framingError_ended (Receiver.take_frameEnd h)
  · exact exec_framingError_counted hd (by simp [Receiver.take, h])
  · exact exec_framingError_counted hd (by simp [Receiver.take, h])
  · exact exec_framingError_quiet hd (by simp [Receiver.take, h])
  · exact exec_framingError_ignored hd (by simp [Receiver.take, h])
  · exact exec_framingError_quiet hd (by simp [Receiver.take, h])
  · exact exec_framingError_quiet hd (by simp [Receiver.take, h])
  · exact exec_framingError_ignored hd (by simp [Receiver.take, h])
  · obtain ⟨t, ht⟩ := State.takeSymbol_isSome hx
    have htu : t = u := by
      rw [exec_framingError, State.listen_some hd ((s.takeSymbols_singleton p x).trans ht)] at hu
      exact Host.Outcome.next.inj hu
    exact htu ▸ State.takeSymbols_cons ht xs
  · have hn : s.takeSymbol p .frameEnd = none := State.takeSymbol_ended (Receiver.take_frameEnd h)
    simp only [State.takeSymbols, hn]
  · rw [exec_framingError, State.listen_some hd h]
  · rw [exec_framingError, State.listen_none h]

end Sys2Proof.Machine
end

section
/-! The statement about the links of the ports and the line role (O12). -/

namespace Sys2Proof.Machine

/-! ### A port going DOWN or coming UP, R43 -/

/-- A port is lost with no frame in reception. -/
theorem State.portLost_quiet {s : State} {p : Port} {xs : List Symbol}
    (h : ((s.listen p xs).line.rx p).state ≠ .receiving ∨ s.deaf p = true) :
    s.portLost p xs = (s.listen p xs).setLine ((s.listen p xs).line.setLink p .down) := by
  obtain h | h := h <;> simp [State.portLost, h]

/-- The loss of a port that receives cuts a reception: a FRAMING error, the receiver IDLE, R44. -/
theorem State.portLost_cut {s : State} {p : Port} {xs : List Symbol}
    (h : ((s.listen p xs).line.rx p).state = .receiving) (hd : s.deaf p = false) :
    s.portLost p xs =
      ((s.listen p xs).setLine (((s.listen p xs).line.setLink p .down).setRx p ⟨.idle, []⟩)).countFraming p := by
  simp [State.portLost, h, hd, LineBlock.rxTo, State.setLine]

@[simp] theorem State.portLost_outboundQueue (s : State) (p : Port) (xs : List Symbol) :
    (s.portLost p xs).line.outboundQueue = s.line.outboundQueue := by
  simp only [State.portLost]
  split <;> simp [LineBlock.rxTo]

theorem exec_portDown_down {s : State} {p : Port} (h : s.line.link p = .down) (xs : List Symbol) :
    exec (.portDown p xs) s = .next s := by
  show execPortDown p xs s = _
  unfold execPortDown
  rw [if_pos h]

/-- Outside the wrap a port that was UP is lost, and nothing follows. -/
theorem exec_portDown_lost {s : State} {p : Port} (hu : s.line.link p = .up)
    (h : p = .a ∨ s.phase ≠ .running ∨ s.line.role ≠ .through) (xs : List Symbol) :
    exec (.portDown p xs) s = .next (s.portLost p xs) := by
  show execPortDown p xs s = _
  unfold execPortDown
  rw [if_neg (by simp [hu])]
  cases p with
  | a => rfl
  | b =>
    have hno : ¬(s.phase = .running ∧ s.line.role = .through) := by
      obtain h | h | h := h
      · cases h
      · exact fun hn => h hn.1
      · exact fun hn => h hn.2
    simp only [Bool.and_eq_true, decide_eq_true_eq, if_neg hno]

/-- In THROUGH past start-up the loss of port B wraps the node, R51, R53. -/
theorem exec_portDown_wraps {s : State} (hu : s.line.link .b = .up) (hp : s.phase = .running)
    (hr : s.line.role = .through) (xs : List Symbol) :
    exec (.portDown .b xs) s = .next (s.portLost .b xs).wrap := by
  show execPortDown .b xs s = _
  simp [execPortDown, hu, hp, hr]

theorem exec_portUp_up {s : State} {p : Port} (h : s.line.link p = .up) (xs : List Symbol) :
    exec (.portUp p xs) s = .next s := by
  show execPortUp p xs s = _
  unfold execPortUp
  rw [if_pos h]

/-- Outside END (wrapped) a port that was DOWN comes UP, and nothing follows. -/
theorem exec_portUp_back {s : State} {p : Port} (hl : s.line.link p = .down)
    (h : p = .a ∨ s.phase ≠ .running ∨ s.line.role ≠ .endWrapped) (xs : List Symbol) :
    exec (.portUp p xs) s = .next (s.portBack p xs) := by
  show execPortUp p xs s = _
  unfold execPortUp
  rw [if_neg (by simp [hl])]
  cases p with
  | a => rfl
  | b =>
    have hno : ¬(s.phase = .running ∧ s.line.role = .endWrapped) := by
      obtain h | h | h := h
      · cases h
      · exact fun hn => h hn.1
      · exact fun hn => h hn.2
    simp only [Bool.and_eq_true, decide_eq_true_eq, if_neg hno]

/-- In END (wrapped) past start-up the return of port B unwraps the node, R51, R54; no symbol of the run counts. -/
theorem exec_portUp_unwraps {s : State} (hl : s.line.link .b = .down) (hp : s.phase = .running)
    (hr : s.line.role = .endWrapped) (xs : List Symbol) :
    exec (.portUp .b xs) s = .next ((s.setLine (s.line.setLink .b .up)).through (frameArriving xs)) := by
  have hd : s.listen .b xs = s := State.listen_of_deaf (State.deaf_b hp (by simp [hr])) xs
  show execPortUp .b xs s = _
  simp [execPortUp, State.portBack, hl, hp, hr, hd]

/-! ### The wrap, R53, R79 -/

/-- The error of a cut reception is counted before the wrap as it would be after it. -/
theorem State.countFraming_wrap {s : State} (p : Port)
    (h : s.line.outboundQueue.any QueuedFrame.carriesReset = false) :
    (s.countFraming p).wrap = s.wrap.countFraming p := by
  rw [State.wrap_plain h, State.wrap_plain (by rw [State.countFraming_outboundQueue]; exact h)]
  have hc := State.latch_comm (s.setLine
    { (s.countFraming p).line.rxTo .b .idle with role := .endWrapped, outboundQueue := [] }) .line .wrap
  cases p <;> exact hc

/-- The wrap discards a frame a reset waited for: the reset comes at once. -/
theorem State.wrap_resets {s : State} (h : s.line.outboundQueue.any QueuedFrame.carriesReset = true) :
    s.wrap = s.doReset .commanded .settling := by
  simp only [State.wrap, h, if_true]
  rfl

/-! ### A frame that arrives, R55 -/

/-- The receiver as a run of symbols leaves it, from IDLE. -/
def arrivingReceiver (xs : List Symbol) : Receiver := xs.foldl (fun r x => (Receiver.take r x).1) ⟨.idle, []⟩

theorem frameArriving_eq (xs : List Symbol) : frameArriving xs = ((arrivingReceiver xs).state != .idle) := rfl

theorem arrivingReceiver_append (xs : List Symbol) (x : Symbol) :
    arrivingReceiver (xs ++ [x]) = ((arrivingReceiver xs).take x).1 := by
  simp only [arrivingReceiver, List.foldl_append, List.foldl_cons, List.foldl_nil]

/-- Whether a symbol leaves the receiver IDLE rests on the symbol and on whether it found it IDLE. -/
theorem Receiver.take_state_ne_idle (r : Receiver) (x : Symbol) :
    ((r.take x).1.state != .idle) =
      match x with
      | .frameStart => true
      | .word _ => true
      | .frameEnd => false
      | .idleFill => false
      | .codeViolation => r.state != .idle := by
  cases x with
  | frameStart => rfl
  | word w =>
    cases hr : r.state with
    | idle => simp [Receiver.take, hr]
    | receiving => simp only [Receiver.take, hr]; split <;> rfl
    | discarding => simp [Receiver.take, hr]
  | frameEnd => cases hr : r.state <;> simp [Receiver.take, hr]
  | idleFill => cases hr : r.state <;> simp [Receiver.take, hr]
  | codeViolation =>
    cases hr : r.state with
    | idle => simp [Receiver.take, hr]
    | receiving => simp only [Receiver.take, hr]; rfl
    | discarding => simp [Receiver.take, hr]

/-- Settles O12: the loss and the return of a port, the wrap with R79's reset, the return to THROUGH. -/
theorem theLinkOfPortBMovesTheRole : Obligations.TheLinkOfPortBMovesTheRole := by
  unfold Obligations.TheLinkOfPortBMovesTheRole
  refine ⟨?_, ?_⟩
  · rintro s t p xs rfl
    refine ⟨rfl, fun hu => ⟨fun h => ?_, ?_⟩, fun hl => exec_portDown_down hl xs⟩
    · rw [exec_portDown_lost hu h]
      refine ⟨fun hq => ?_, fun hrx hp => ?_⟩
      · rw [State.portLost_quiet]
        · rfl
        · refine hq.imp_right fun ⟨hb, hrun⟩ => ?_
          subst hb
          exact State.deaf_b hrun (by simpa [hrun] using h)
      · rw [State.portLost_cut hrx (State.deaf_eq_false (hp.imp_right Or.inl))]
    · rintro rfl hp hr
      have hd : s.deaf .b = false := State.deaf_eq_false (.inr (.inr hr))
      rw [exec_portDown_wraps hu hp hr]
      refine ⟨fun hw => ⟨fun hrx => ?_, fun hrx => ?_⟩, fun hw => ?_⟩
      · rw [State.wrap_plain (by simpa using hw), State.portLost_quiet (.inl hrx)]
        rfl
      · rw [State.portLost_cut hrx hd, State.countFraming_wrap .b (by simpa using hw),
          State.wrap_plain (by simpa using hw)]
        rfl
      · rw [State.wrap_resets (by simpa using hw),
          State.doReset_congr (s.portLost_store .b xs) (s.portLost_pending .b xs)]
  · rintro s t p xs w rfl
    refine ⟨fun hl => ⟨fun h => by rw [exec_portUp_back hl h]; rfl, ?_⟩, fun hu => exec_portUp_up hu xs, rfl, ?_⟩
    · rintro hp hr rfl
      rw [exec_portUp_unwraps hl hp hr]
      cases frameArriving xs <;> rfl
    · simp only [frameArriving_eq, arrivingReceiver_append, Receiver.take_state_ne_idle, and_self]

end Sys2Proof.Machine
end

section
/-! The statements about the frames of a port: the queues (O7), the frames forwarded unprocessed (O8), END role on port
B (O9), the checks on a received frame (O10). -/

namespace Sys2Proof.Machine

/-! ### Counting, R57 -/

/-- A 16-bit counter stays at its largest value. -/
theorem satInc_eq (c : BitVec 16) : satInc c = if c = 65535 then 65535 else c + 1 := by
  by_cases h : c = 65535
  · subst h; rfl
  · exact (if_neg h).trans (if_neg h).symm

/-! ### The queues, R48, R49, R50 -/

/-- Settles O7: R57's count, R49's queue with room and full, and R50's departure of the oldest. -/
theorem queuesHoldTwoFramesAndSendTheOldest : Obligations.QueuesHoldTwoFramesAndSendTheOldest := by
  unfold Obligations.QueuesHoldTwoFramesAndSendTheOldest
  refine ⟨fun s q p f hf => ⟨?_, fun h => ?_, fun h => ?_⟩, fun s p x rest => ⟨fun h hx => ?_, fun h => ?_⟩⟩
  · rw [← satInc_eq]
    cases p <;> rfl
  · rw [State.join_room h, Frame.queued, hf, Frame.wire]
  · rw [State.join_full h hf, ← satInc_eq]
    rfl
  · show execFrameSent p s = _
    simp [execFrameSent, h, hx, State.setLine]
  · show execFrameSent p s = _
    simp only [execFrameSent, h]

/-! ### Frames forwarded unprocessed, R46, R47, R58, R65 -/

/-- START_UP_FORWARD between a reset and the end of start-up, R58. -/
theorem exec_startUpForward {s : State} {x : Payload} (hx : x.wf = true) (hp : s.phase ≠ .running) (p : Port)
    (kind : BitVec 4) :
    exec (.startUpForward p kind x) s = .next ((s.received p).forwardInStartUp p (payloadFrame x kind p)) := by
  show execStartUpForward p kind x s = _
  simp only [execStartUpForward, payloadFrame_fits, hx, if_true]
  cases h : s.phase with
  | running => exact absurd h hp
  | held => rfl
  | settling => rfl
  | relighting e w => rfl

/-- A frame on which no block acts beyond its outbound pass, received on port A past start-up. -/
theorem State.receiveA_unchanged {s : State} {f : Frame} {out : State → Frame → State × Frame} (hp : s.phase = .running)
    (hf : f.fits = true) (ho : (out (s.received .a) f).1.phase = .running) :
    s.receiveA f out unchanged = (out (s.received .a) f).1.sendA (out (s.received .a) f).2 := by
  rw [State.receiveA_running hp hf, State.processA_unchanged ho]

/-- FORWARD_UNCHANGED on port A: a COMMAND for another node or with its REPLY word written, R65. -/
theorem exec_forwardUnchanged_a {s : State} {x : Payload} (hp : s.phase = .running) (hx : x.wf = true)
    (h : s.foreignCommand x = true ∨ s.takenCommand x = true) :
    exec (.forwardUnchanged .a kindCommand x) s =
      .next (((s.received .a).latchIf (s.takenCommand x) .position).sendA (payloadFrame x kindCommand .a)) := by
  have htaken : (s.received .a).takenCommand x = s.takenCommand x := by
    simp [State.takenCommand, State.concernedBy_received]
  show execForwardUnchanged .a kindCommand x s = _
  simp only [execForwardUnchanged, Bool.and_eq_true, Bool.or_eq_true, decide_eq_true_eq, h, and_true, if_true]
  rw [State.receiveA_unchanged hp (by simpa using hx) (by simpa [clashPass] using hp), ← htaken]
  rfl

/-- FORWARD_UNCHANGED on port B in THROUGH: a kind on which no block acts on its return pass, R46. -/
theorem exec_forwardUnchanged_b {s : State} {x : Payload} {kind : BitVec 4} (hp : s.phase = .running) (hx : x.wf = true)
    (hr : s.line.role = .through) (hk : kind = kindRollcall ∨ kind = kindCommand ∨ kind = kindEnumerate) :
    exec (.forwardUnchanged .b kind x) s = .next ((s.received .b).join .a .b (payloadFrame x kind .b)) := by
  show execForwardUnchanged .b kind x s = _
  simp only [execForwardUnchanged, Bool.or_eq_true, decide_eq_true_eq, or_assoc, if_pos hk]
  rw [State.receiveB_running hp (by simpa using hx) (by rw [hr]; rfl)]
  rfl

/-- The unknown kinds by value, R46. -/
theorem kindUnknown_of {kind : BitVec 4} (h : kind = 0 ∨ 6 ≤ kind.toNat) : kindUnknown kind = true := by
  simpa [kindUnknown, BitVec.le_def] using h

/-- Settles O8: the frames that no block acts on, in start-up and past it, on either port. -/
theorem framesNoBlockActsOnAreForwarded : Obligations.FramesNoBlockActsOnAreForwarded := by
  unfold Obligations.FramesNoBlockActsOnAreForwarded
  refine ⟨fun s p kind x hx => ⟨fun hp => ?_, fun hp => ?_⟩, fun s kind x hp hx => ⟨fun h => ?_, fun hhi hc hr => ?_,
    exec_forwardUnchanged_b hp hx⟩, fun s kind x hp hx hk => ⟨?_, fun hr => ?_⟩⟩
  · rw [exec_startUpForward hx hp]
    cases p <;> rfl
  · show execStartUpForward p kind x s = _
    simp [execStartUpForward, hx, hp]
  · have ht : s.takenCommand x = false := by simp [State.takenCommand, h]
    rw [exec_forwardUnchanged_a hp hx (.inl (by simp [State.foreignCommand, h])), ht]
    rfl
  · have hne : BitVec.ofNat 8 (hiByte x.word1) ≠ 0 := by
      have hlt : hiByte x.word1 < 2 ^ 8 := Nat.mod_lt _ (by decide)
      intro h0
      have hv : hiByte x.word1 % 2 ^ 8 = 0 := by simpa using congrArg BitVec.toNat h0
      exact hhi ((Nat.mod_eq_of_lt hlt).symm.trans hv)
    have ht : s.takenCommand x = true := by
      simp only [State.takenCommand, hc, replyTaken, replyWord, bne_iff_ne, Bool.and_eq_true, true_and]
      exact ⟨hne, hr⟩
    rw [exec_forwardUnchanged_a hp hx (.inr ht), ht]
    rfl
  · show execUnknownFrame .a kind x s = _
    simp only [execUnknownFrame, kindUnknown_of hk, if_true]
    rw [State.receiveA_unchanged hp (by simpa using hx) (by simpa [unknownPass] using hp)]
    rfl
  · show execUnknownFrame .b kind x s = _
    simp only [execUnknownFrame, kindUnknown_of hk, if_true]
    rw [State.receiveB_running hp (by simpa using hx) (by rw [hr]; rfl)]
    rfl

/-! ### END role on port B, R55 -/

/-- Settles O9: in END role port B is deaf, whatever comes there. -/
theorem endRoleReceivesNothingOnPortB : Obligations.EndRoleReceivesNothingOnPortB := by
  unfold Obligations.EndRoleReceivesNothingOnPortB
  intro s kind x ws xs hp hr
  have hd : s.deaf .b = true := State.deaf_b hp hr
  refine ⟨?_, ?_, ?_, ?_, ?_, ?_⟩
  · exact congrArg _ (State.receiveB_of_deaf hd _ _)
  · exact congrArg _ (State.receiveB_of_deaf hd _ _)
  · show execUnknownFrame .b kind x s = _
    simp only [execUnknownFrame, State.receiveB_of_deaf hd, ite_self]
  · show execForwardUnchanged .b kind x s = _
    simp only [execForwardUnchanged, State.receiveB_of_deaf hd, ite_self]
  · show execFrameCheckFailed .b ws s = _
    simp [execFrameCheckFailed, hd]
  · rw [exec_framingError, State.listen_of_deaf hd]

/-! ### The checks on a received frame, R45 -/

/-- The LENGTH field of word 0, R191. -/
theorem bits_length (w : Word) : bits w 0 7 = w.toNat % 128 := by simp [bits]

/-- The PASS bit of word 0, R191. -/
theorem bits_pass (w : Word) : bits w 11 1 = (w.getLsbD 11).toNat := by
  simp [bits, BitVec.getLsbD, Nat.toNat_testBit]

/-- Words of a wrong length fail R45's first check. -/
theorem frameError_length {ws : List Word} (p : Port) (h : ws.length < 4 ∨ (ws.headD 0).toNat % 128 ≠ ws.length) :
    frameError p ws = some .framing := by
  cases ws with
  | nil => rfl
  | cons w ws =>
    have hbad : bits w 0 7 < minFrameWords ∨ bits w 0 7 ≠ (w :: ws).length := by
      simp only [bits_length, minFrameWords]
      simp only [List.headD_cons] at h
      omega
    simp only [frameError, Bool.or_eq_true, decide_eq_true_eq, if_pos hbad]

/-- Words of a right length meet R45's second and third check in turn: the CRC word, then the PASS bit. -/
theorem frameError_of_length {ws : List Word} (p : Port) (hl : 4 ≤ ws.length)
    (hh : (ws.headD 0).toNat % 128 = ws.length) :
    frameError p ws =
      if ws.getLastD 0 ≠ crc ws.dropLast then some .crc
      else if (ws.headD 0).getLsbD 11 ≠ (p == .b) then some .direction
      else none := by
  cases ws with
  | nil => simp at hl
  | cons w ws =>
    have hok : ¬(bits w 0 7 < minFrameWords ∨ bits w 0 7 ≠ (w :: ws).length) := by
      simp only [bits_length, minFrameWords]
      simp only [List.headD_cons] at hh
      omega
    have hcrc : (w :: ws).getLast? ≠ some (crc (w :: ws).dropLast) ↔ (w :: ws).getLastD 0 ≠ crc (w :: ws).dropLast := by
      simp [List.getLastD_eq_getLast?, List.getLast?_cons]
    have hpass : bits w 11 1 ≠ (passOf p).code ↔ w.getLsbD 11 ≠ (p == .b) := by
      rw [bits_pass]
      cases p <;> cases w.getLsbD 11 <;> decide
    simp only [frameError, Bool.or_eq_true, decide_eq_true_eq, if_neg hok]
    exact if_congr hcrc rfl (if_congr hpass rfl rfl)

/-- A frame that fails a check on a port that receives: the receiver is IDLE and the one error counted, R45. -/
theorem exec_frameCheckFailed_counted {s : State} {p : Port} {ws : List Word} {e : FrameError} (hd : s.deaf p = false)
    (hl : ws.length ≤ 127) (he : frameError p ws = some e) :
    exec (.frameCheckFailed p ws) s = .next ((s.setLine (s.line.setRx p ⟨.idle, []⟩)).countError p e) := by
  have h : ¬(s.deaf p = true ∨ maxFrameWords < ws.length) := by simp [hd, maxFrameWords, hl]
  show execFrameCheckFailed p ws s = _
  simp only [execFrameCheckFailed, Bool.or_eq_true, decide_eq_true_eq, if_neg h, he, LineBlock.rxTo]

/-- Words that pass R45's checks are no failure. -/
theorem exec_frameCheckFailed_passed {s : State} {p : Port} {ws : List Word} (he : frameError p ws = none) :
    exec (.frameCheckFailed p ws) s = .next s := by
  show execFrameCheckFailed p ws s = _
  simp only [execFrameCheckFailed, he, ite_self]

/-- Settles O10: R45's three checks in order, the first that fails counted. -/
theorem theFirstFailedCheckIsCounted : Obligations.TheFirstFailedCheckIsCounted := by
  unfold Obligations.TheFirstFailedCheckIsCounted
  intro s p ws hp hmax
  have hd : s.deaf p = false := State.deaf_eq_false hp
  refine ⟨fun h => exec_frameCheckFailed_counted hd hmax (frameError_length p h), fun hl hh hcrc => ?_,
    fun hl hh hcrc => ⟨fun hpass => ?_, fun hpass => ?_⟩⟩
  · exact exec_frameCheckFailed_counted (e := .crc) hd hmax (by rw [frameError_of_length p hl hh, if_pos hcrc])
  · have hwrong : (ws.headD 0).getLsbD 11 ≠ (p == .b) := by
      rw [hpass]
      cases p <;> decide
    exact exec_frameCheckFailed_counted (e := .direction) hd hmax
      (by rw [frameError_of_length p hl hh, if_neg (not_not_intro hcrc), if_pos hwrong])
  · exact exec_frameCheckFailed_passed
      (by rw [frameError_of_length p hl hh, if_neg (not_not_intro hcrc), if_neg (not_not_intro hpass)])

end Sys2Proof.Machine
end

section
/-! SUPPORT. What the work of the face controller and the element block leaves alone: every other block, and under release-all
(R38) every output that is not driven. -/

namespace Sys2Proof.Machine

/-! ### The relation -/

/-- `t` comes from `s` by work of the face controller and the element block alone: the faces, the channels and the fault block
may differ, and under release-all no shutter of `t` is driven that was not driven in `s` (R38). -/
structure State.FacesOnly (s t : State) : Prop where
  phase   : t.phase = s.phase
  line    : t.line = s.line
  node    : t.node = s.node
  sweep   : t.sweep = s.sweep
  plan    : t.plan = s.plan
  poss    : t.poss = s.poss
  sup     : t.sup = s.sup
  store   : t.store = s.store
  pending : t.pending = s.pending
  driven  : s.sup.releaseAll = true → ∀ f k, (t.shutter f k).driven = true → (s.shutter f k).driven = true

theorem State.FacesOnly.refl (s : State) : s.FacesOnly s := ⟨rfl, rfl, rfl, rfl, rfl, rfl, rfl, rfl, rfl, fun _ _ _ h => h⟩

theorem State.FacesOnly.trans {s t u : State} (h : s.FacesOnly t) (h' : t.FacesOnly u) : s.FacesOnly u where
  phase := h'.phase.trans h.phase
  line := h'.line.trans h.line
  node := h'.node.trans h.node
  sweep := h'.sweep.trans h.sweep
  plan := h'.plan.trans h.plan
  poss := h'.poss.trans h.poss
  sup := h'.sup.trans h.sup
  store := h'.store.trans h.store
  pending := h'.pending.trans h.pending
  driven hr f k hd := h.driven hr f k (h'.driven (by rw [h.sup]; exact hr) f k hd)

/-- Under release-all the outputs of a face stay without a driven shutter, R38. -/
theorem State.FacesOnly.not_driven {s t : State} (h : s.FacesOnly t) (hr : s.sup.releaseAll = true) {f : Face}
    (hd : s.anyDriven f = false) : t.anyDriven f = false := by
  rw [State.anyDriven_eq_false_iff] at hd ⊢
  intro k
  have := h.driven hr f k
  grind

/-! ### One record -/

theorem State.FacesOnly.setFaces (s : State) (x : FacePair) : s.FacesOnly (s.setFaces x) :=
  ⟨rfl, rfl, rfl, rfl, rfl, rfl, rfl, rfl, rfl, fun _ _ _ h => h⟩

theorem State.FacesOnly.setFace (s : State) (f : Face) (r : FaceRecord) : s.FacesOnly (s.setFace f r) := by
  cases f <;> exact State.FacesOnly.setFaces s _

theorem State.FacesOnly.setFault (s : State) (x : FaultBlock) : s.FacesOnly (s.setFault x) :=
  ⟨rfl, rfl, rfl, rfl, rfl, rfl, rfl, rfl, rfl, fun _ _ _ h => h⟩

theorem State.FacesOnly.latch (s : State) (c : FaultClass) : s.FacesOnly (s.latch c) := .setFault s _

theorem State.FacesOnly.latchIf (s : State) (b : Bool) (c : FaultClass) : s.FacesOnly (s.latchIf b c) := by
  cases b
  · exact .refl s
  · exact .latch s c

theorem State.FacesOnly.setDetails (s : State) (f : Face) (d : FaceDetails) : s.FacesOnly (s.setDetails f d) := by
  cases f <;> exact .setFault s _

/-- The channels of a face change, and under release-all none of its shutters comes to be driven. -/
theorem State.FacesOnly.setChannels {s : State} {f : Face} {c : FaceChannels}
    (h : s.sup.releaseAll = true → ∀ k, (c.shutter k).driven = true → (s.shutter f k).driven = true) :
    s.FacesOnly (s.setChannels f c) where
  phase := by simp
  line := by simp
  node := by simp
  sweep := by simp
  plan := by simp
  poss := by simp
  sup := by simp
  store := by simp
  pending := by simp
  driven hr g k hd := by
    by_cases hg : g = f
    · subst hg
      exact h hr k (by simpa [State.shutter] using hd)
    · rw [eq_otherFace_of_ne hg] at hd ⊢
      simpa [State.shutter] using hd

theorem State.FacesOnly.setShutter {s : State} {f : Face} {k : Shutter} {c : ShutterChannel}
    (h : c.driven = true → (s.shutter f k).driven = true) : s.FacesOnly (s.setShutter f k c) := by
  refine .setChannels fun _ j hd => ?_
  by_cases hj : j = k
  · subst hj
    exact h (by simpa using hd)
  · rwa [FaceChannels.setShutter_shutter_ne _ _ hj] at hd

theorem State.FacesOnly.setLamp (s : State) (f : Face) (c : LampChannel) : s.FacesOnly (s.setLamp f c) :=
  .setChannels fun _ k hd => by cases k <;> exact hd

/-- A face's configuration is replaced: no channel changes. -/
theorem State.FacesOnly.setConfig (s : State) (f : Face) (c : FaceConfig) : s.FacesOnly (s.setConfig f c) where
  phase := by simp
  line := by simp
  node := by simp
  sweep := by simp
  plan := by simp
  poss := by simp
  sup := by simp
  store := by simp
  pending := by simp
  driven _ g k hd := by simpa [State.shutter] using hd

/-! ### Requests and reports, R27-R38 -/

theorem FaceChannels.mapShutters_shutter (c : FaceChannels) (g : Shutter → ShutterChannel → ShutterChannel) (k : Shutter) :
    (c.mapShutters g).shutter k = g k (c.shutter k) := by cases k <;> rfl

theorem State.FacesOnly.releaseShutter (s : State) (f : Face) (k : Shutter) : s.FacesOnly (s.releaseShutter f k) :=
  .setShutter fun hd => by rw [ShutterChannel.release_not_driven] at hd; cases hd

theorem State.FacesOnly.releaseDriven (s : State) (f : Face) : s.FacesOnly (s.releaseDriven f) :=
  .setChannels fun _ k hd => by
    rw [FaceChannels.mapShutters_shutter, ShutterChannel.release_not_driven] at hd
    cases hd

theorem State.FacesOnly.pullChannel (s : State) (f : Face) (k : Shutter) : s.FacesOnly (s.pullChannel f k) := by
  unfold State.pullChannel
  split
  · exact .refl s
  · next h => exact .setChannels fun hr => absurd hr h

theorem State.FacesOnly.lampOff (s : State) (f : Face) : s.FacesOnly (s.lampOff f) := .setLamp s f _

theorem State.FacesOnly.reportShutter (s : State) (f : Face) (k : Shutter) (x : ChannelFault) :
    s.FacesOnly (s.reportShutter f k x) :=
  ((State.FacesOnly.setShutter (by exact id)).trans (.setDetails _ f _)).trans (.latch _ _)

theorem State.FacesOnly.reportLamp (s : State) (f : Face) (x : ChannelFault) : s.FacesOnly (s.reportLamp f x) :=
  ((State.FacesOnly.setLamp s f _).trans (.setDetails _ f _)).trans (.latch _ _)

theorem ShutterChannel.clear_driven (c : ShutterChannel) (now : Nat) : (c.clear now).driven = c.driven := by
  unfold ShutterChannel.clear
  split
  next h => split <;> simp +decide [ShutterChannel.driven, h]
  all_goals next h => simp [ShutterChannel.driven, h]

theorem State.FacesOnly.clearShutters (s : State) (f : Face) (x : FaceSense) : s.FacesOnly (s.clearShutters f x) :=
  .setChannels fun _ k hd => by
    rw [FaceChannels.mapShutters_shutter, ShutterChannel.clear_driven] at hd
    exact hd

theorem State.FacesOnly.clearLamp (s : State) (f : Face) (x : FaceSense) : s.FacesOnly (s.clearLamp f x) := .setLamp s f _

/-! ### Returns and faults, R16-R19 -/

theorem State.FacesOnly.returnTest (s : State) (f : Face) : s.FacesOnly (s.returnTest f) := by
  unfold State.returnTest State.endReturn
  split
  · split
    · exact (State.FacesOnly.lampOff s f).trans (.setFace _ f _)
    · exact .setFace s f _
  · exact .refl s

theorem State.FacesOnly.startReturn (s : State) (f : Face) (n : Nat) : s.FacesOnly (s.startReturn f n) :=
  ((State.FacesOnly.setFace s f _).trans (.releaseDriven _ f)).trans (.returnTest _ f)

theorem State.FacesOnly.elementFault (s : State) (f : Face) : s.FacesOnly (s.elementFault f) := by
  unfold State.elementFault
  split
  · exact .refl s
  · split
    · exact .refl s
    · exact (State.FacesOnly.setFace s f _).trans (.startReturn _ f _)
  · split
    · exact (State.FacesOnly.setFace s f _).trans (.startReturn _ f _)
    · exact .setFace s f _

theorem State.FacesOnly.lampFault (s : State) (f : Face) : s.FacesOnly (s.lampFault f) :=
  (State.FacesOnly.setFace s f _).trans (.releaseDriven _ f)

theorem State.FacesOnly.requestPull (s : State) (f : Face) (k : Shutter) : s.FacesOnly (s.requestPull f k) := by
  unfold State.requestPull
  split
  · exact (State.FacesOnly.reportShutter s f k _).trans (.elementFault _ f)
  · exact .pullChannel s f k

/-! ### The relight and the changes, R9-R15 -/

theorem State.FacesOnly.relight (s : State) (f : Face) : s.FacesOnly (s.relight f) := by
  have hp := State.FacesOnly.setFace s f { (s.face f).place .closed with relightAwaited := false, testedWait := false }
  unfold State.relight
  dsimp only
  split
  · exact hp.trans (.setLamp _ f _)
  · exact hp
  · exact hp.trans (.setFace _ f _)
  · exact (hp.trans (.reportLamp _ f _)).trans (.lampFault _ f)

theorem State.FacesOnly.relightTest (s : State) (f : Face) : s.FacesOnly (s.relightTest f) := by
  unfold State.relightTest
  split
  · split
    · exact .relight s f
    · exact .setFace s f _
  · exact .refl s

theorem State.FacesOnly.awaitRelight (s : State) (f : Face) : s.FacesOnly (s.awaitRelight f) :=
  ((State.FacesOnly.setFace s f _).trans (.releaseDriven _ f)).trans (.relightTest _ f)

theorem State.FacesOnly.beginClose (s : State) (f : Face) : s.FacesOnly (s.beginClose f) :=
  (State.FacesOnly.setFace s f _).trans (.releaseShutter _ f .mask)

theorem State.FacesOnly.askClose (s : State) (f : Face) : s.FacesOnly (s.askClose f) := by
  unfold State.askClose
  split
  · exact .refl s
  · exact .awaitRelight s f
  all_goals exact .beginClose s f

theorem State.FacesOnly.endingClose (s : State) (f : Face) : s.FacesOnly (s.endingClose f) := by
  unfold State.endingClose
  split
  · exact .askClose s f
  · exact .refl s

theorem State.FacesOnly.completeChange (s : State) (f : Face) (a : Aspect) : s.FacesOnly (s.completeChange f a) :=
  (State.FacesOnly.setFace s f _).trans (.endingClose _ f)

theorem State.FacesOnly.darkTest (s : State) (f : Face) : s.FacesOnly (s.darkTest f) := by
  unfold State.darkTest
  split
  · exact ((State.FacesOnly.lampOff s f).trans (.setFace _ f _)).trans (.endingClose _ f)
  · exact .refl s

theorem State.FacesOnly.beginDark (s : State) (f : Face) : s.FacesOnly (s.beginDark f) :=
  ((State.FacesOnly.setFace s f _).trans (.releaseDriven _ f)).trans (.darkTest _ f)

theorem State.FacesOnly.beginChange (s : State) (f : Face) (a : Aspect) : s.FacesOnly (s.beginChange f a) := by
  unfold State.beginChange
  split
  · exact (State.FacesOnly.setFace s f _).trans (.requestPull _ f _)
  · split
    · exact .beginDark s f
    · exact .askClose s f

/-! ### Reports, R15, R17, R29-R36 -/

theorem State.FacesOnly.movedStep (s : State) (f : Face) (k : Shutter) : s.FacesOnly (s.movedStep f k) := by
  unfold State.movedStep
  (repeat' split)
  · exact (State.FacesOnly.setFace s f _).trans (.requestPull _ f _)
  · exact (State.FacesOnly.setFace s f _).trans (.releaseShutter _ f _)
  · exact .refl s
  · exact .completeChange s f _
  all_goals exact .refl s

theorem State.FacesOnly.droppedStep (s : State) (f : Face) (k : Shutter) : s.FacesOnly (s.droppedStep f k) := by
  unfold State.droppedStep
  (repeat' split)
  · exact .refl s
  · exact (State.FacesOnly.setFace s f _).trans (.releaseShutter _ f _)
  · exact .refl s
  · exact .completeChange s f _
  all_goals exact .refl s

theorem State.FacesOnly.litStep (s : State) (f : Face) : s.FacesOnly (s.litStep f) := by
  unfold State.litStep
  split
  · exact .completeChange s f .closed
  · exact .refl s

theorem State.FacesOnly.channelTests (s : State) (f : Face) : s.FacesOnly (s.channelTests f) :=
  ((State.FacesOnly.returnTest s f).trans (.darkTest _ f)).trans (.relightTest _ f)

/-! ### Forced closure, R18 -/

theorem State.FacesOnly.releaseAllFace (s : State) (f : Face) : s.FacesOnly (s.releaseAllFace f) := by
  have hp := State.FacesOnly.setFace s f { s.face f with pending := none }
  unfold State.releaseAllFace
  dsimp only
  split
  · exact hp.trans (.returnTest _ f)
  · split
    · exact hp
    · exact hp.trans (.startReturn _ f _)
  · split
    · exact hp
    · split
      · exact (hp.trans (.setFace _ f _)).trans (.relightTest _ f)
      · exact hp
    all_goals exact hp.trans (.startReturn _ f _)

/-! ### Targets, R8, R103 -/

theorem State.FacesOnly.countSuperseded (s : State) : s.FacesOnly s.countSuperseded := .setFault s _

theorem State.FacesOnly.pend (s : State) (f : Face) (t : Target) (why : Reason) (keep : Bool) :
    s.FacesOnly (s.pend f t why keep) := by
  unfold State.pend
  dsimp only
  split
  · exact .setFace s f _
  · split
    · exact .setFace s f _
    · exact (State.FacesOnly.setFace s f _).trans (.countSuperseded _)

theorem State.FacesOnly.unpend (s : State) (f : Face) : s.FacesOnly (s.unpend f) := .setFace s f _

theorem State.FacesOnly.supersede (s : State) (f : Face) : s.FacesOnly (s.supersede f) := by
  unfold State.supersede
  split
  · exact .refl s
  · exact (State.FacesOnly.unpend s f).trans (.countSuperseded _)

theorem State.FacesOnly.takeTarget (s : State) (f : Face) (t : Target) (g : GateOutcome) :
    s.FacesOnly (s.takeTarget f t g) := by
  have hp := State.FacesOnly.setFace s f { s.face f with target := t }
  refine hp.trans ?_
  unfold State.takeTarget
  dsimp only
  (repeat' split)
  · exact .unpend _ f
  · exact .pend _ f t _ _
  · exact .pend _ f t _ _
  · exact .pend _ f t _ _
  · exact .refl _
  · exact (State.FacesOnly.unpend _ f).trans (.beginChange _ f _)
  · exact .supersede _ f
  · exact .pend _ f t _ _
  · exact .supersede _ f
  · exact .pend _ f t _ _

theorem State.FacesOnly.advanceAge (s : State) (f : Face) : s.FacesOnly (s.advanceAge f) :=
  (State.FacesOnly.setFace s f _).trans (.latchIf _ _ _)

theorem State.FacesOnly.mergeCheck (s : State) (f : Face) : s.FacesOnly (s.mergeCheck f) := by
  have hf : s.FacesOnly (s.mergeFound f) := by
    unfold State.mergeFound State.clearMergeLost
    (repeat' split)
    · exact .refl s
    · exact .setFace s f _
    · exact .refl s
  refine hf.trans ?_
  unfold State.mergeCheck State.mergeTest
  split
  · exact .refl _
  · split
    · exact .refl _
    · exact (State.FacesOnly.setFace _ f _).trans (.latch _ _)

theorem State.FacesOnly.faceWork (s : State) (f : Face) (v : PassView) (acting : Bool) :
    s.FacesOnly (s.faceWork f v acting) := by
  unfold State.faceWork
  split
  · have ha : s.FacesOnly (if v.pass = .ret then s.advanceAge f else s) := by
      split
      · exact .advanceAge s f
      · exact .refl s
    exact ((ha.trans (.mergeCheck _ f)).trans (.latchIf _ _ _)).trans (.takeTarget _ f _ _)
  · exact .mergeCheck s f

/-- A lock's hold on a face it newly covers, R143. -/
theorem State.FacesOnly.coverNew (s : State) (f : Face) (before : Bool) : s.FacesOnly (s.coverNew f before) := by
  unfold State.coverNew State.coverFace
  split
  · split
    · exact .takeTarget s f _ _
    · exact .takeTarget s f _ _
    all_goals exact .setFace s f _
  · exact .refl s

/-! ### Commands, R20, R21, R26, R34-R39 -/

theorem State.FacesOnly.endFace (s : State) (f : Face) : s.FacesOnly (s.endFace f) := by
  have hp := State.FacesOnly.setFace s f { s.face f with target := ⟨.closed, .maint⟩ }
  unfold State.endFace
  dsimp only
  (repeat' split)
  · exact .refl s
  · exact hp.trans (.askClose _ f)
  · exact hp

theorem State.FacesOnly.faceSet (s : State) (f : Face) (a : Aspect) : s.FacesOnly (s.faceSet f a).1 := by
  unfold State.faceSet
  split
  · exact .refl s
  · exact (State.FacesOnly.setFace s f _).trans (.beginChange _ f a)

theorem State.FacesOnly.testPull (s : State) (c : Channel) : s.FacesOnly (s.testPull c).1 := by
  unfold State.testPull
  split
  · split
    · exact (State.FacesOnly.reportLamp s _ _).trans (.lampFault _ _)
    · exact .setLamp s _ _
    all_goals exact .refl s
  · exact .requestPull s _ _

theorem State.FacesOnly.testRelease (s : State) (c : Channel) : s.FacesOnly (s.testRelease c).1 := by
  cases c with
  | lamp f => exact .lampOff s f
  | shutter f k => exact .releaseShutter s f k

theorem State.FacesOnly.elementTest (s : State) (c : Channel) (a : TestAction) : s.FacesOnly (s.elementTest c a).1 := by
  unfold State.elementTest
  (repeat' split)
  · exact .refl s
  · exact .refl s
  · exact .refl s
  · exact (State.FacesOnly.testPull s c).trans (.channelTests _ _)
  · exact (State.FacesOnly.testRelease s c).trans (.channelTests _ _)

theorem State.FacesOnly.takeConfig (s : State) (f : Face) (c : FaceConfig) : s.FacesOnly (s.takeConfig f c) := by
  have hp := State.FacesOnly.setConfig s f c
  unfold State.takeConfig
  dsimp only
  split
  · exact hp.trans (.setLamp _ f _)
  · exact hp

theorem State.FacesOnly.clearFace (s : State) (f : Face) : s.FacesOnly (s.clearFace f) := by
  unfold State.clearFace
  (repeat' split)
  · exact (State.FacesOnly.lampOff s f).trans (.setFace _ f _)
  · exact .setFace s f _
  · exact (State.FacesOnly.setFace s f _).trans (.relight _ f)
  · exact .setFace s f _
  · exact .setFace s f _

theorem State.FacesOnly.clearNamedFace (s : State) (f : Face) (set : BitVec 12) : s.FacesOnly (s.clearNamedFace f set) := by
  unfold State.clearNamedFace
  split
  · exact .clearFace s f
  · exact .refl s

theorem State.FacesOnly.clearChannels (s : State) (set : BitVec 12) (x : Sensed) : s.FacesOnly (s.clearChannels set x) := by
  have hs : s.FacesOnly (if hasClass set .element then (s.clearShutters .e x.e).clearShutters .w x.w else s) := by
    split
    · exact (State.FacesOnly.clearShutters s .e x.e).trans (.clearShutters _ .w x.w)
    · exact .refl s
  unfold State.clearChannels
  dsimp only
  split
  · exact (hs.trans (.clearLamp _ .e x.e)).trans (.clearLamp _ .w x.w)
  · exact hs

theorem State.FacesOnly.relatchAll (s : State) (set : BitVec 12) (be bw : FaceLatch) :
    s.FacesOnly (s.relatchAll set be bw) := by
  have step (l : List FaultClass) (t : State) : t.FacesOnly (l.foldl (fun u c => u.relatch set be bw c) t) := by
    induction l generalizing t with
    | nil => exact .refl t
    | cons c l ih => exact (State.FacesOnly.latchIf t _ c).trans (ih _)
  exact step _ s

/-- Steps 1 to 4 of CLEAR_FAULTS, R168; the node's tests follow them. -/
theorem State.clearFaults_nodeTests (s : State) (set : BitVec 12) (x : Sensed) :
    ∃ t, s.FacesOnly t ∧ s.clearFaults set x = t.nodeTests :=
  ⟨_, ((((State.FacesOnly.clearChannels s set x).trans (.clearNamedFace _ .e set)).trans (.clearNamedFace _ .w set)).trans
    (.setFault _ _)).trans (.relatchAll _ set _ _), rfl⟩

end Sys2Proof.Machine
end

section
/-! SUPPORT. What every command of the table keeps: a predicate on the node that meets the conditions of `Invariant`, one for
each shared operation and each command with an effect of its own, is kept by every command of the table. The invariants of
the node record (O56) and of site and table (O58) are two such. -/

namespace Sys2Proof.Machine

/-! ### The conditions -/

/-- A change of the line that the law of start-up admits: past start-up any; before its end one that leaves the role and sets
no RESET waiting (R58, R61). -/
def State.MayRoute (s : State) (l : LineBlock) : Prop :=
  s.phase = .running ∨ (l.role = s.line.role ∧ (s.line.resetWaits = false → l.resetWaits = false))

/-- A channel of the part may act: start-up's settle has ended, or a channel has left its record after reset. -/
def State.Awake (s : State) : Prop := s.phase.early = true → s.elem ≠ .reset

/-- The phases of start-up follow one another, R159, R189. -/
def Phase.Leads : Phase → Phase → Prop
  | .held, .settling => True
  | .relighting _ _, .relighting _ _ => True
  | .relighting _ _, .running => True
  | _, _ => False

/-- What an operation shared by many commands must keep of a predicate on the node. -/
structure BlockInvariant (P : State → Prop) : Prop where
  line {s : State} {l : LineBlock} : P s → s.MayRoute l → P (s.setLine l)
  fault {s : State} {x : FaultBlock} : P s → P (s.setFault x)
  sweep {s : State} {x : SweepBlock} : P s → P (s.setSweep x)
  poss {s : State} {x : PossBlock} : P s → P (s.setPoss x)
  store {s : State} {x : StorageBlock} : P s → x.site.valid = s.store.site.valid → P (s.setStore x)
  sup {s : State} {x : SupBlock} : P s → x.timer = s.sup.timer → x.releaseAll = s.sup.releaseAll → P (s.setSup x)
  faces {s t : State} : P s → s.Awake → s.FacesOnly t → P t
  nodeTests {s : State} : P s → P s.nodeTests
  arise {s : State} {c : Cause} : P s → P (s.arise c)
  phase {s : State} {ph : Phase} : P s → s.phase.Leads ph → P (s.setPhase ph)
  reset {s : State} {c : ResetCause} {ph : Phase} : P (s.doReset c ph)

/-- An effect keeps a predicate on a running part in which its command is executed, R66, R67. -/
def EffectHolds (P : State → Prop) (c : Cmd) (effect : Effect) : Prop :=
  ∀ (s : State) (args : List Word), P s → s.phase = .running → c.row.states.has s.node.state = true →
    args.length = c.row.args → P (effect s args).1

/-- What the commands with an effect of their own on the node record, the plan tables or the site record must keep of the
predicate beside the shared operations. -/
structure Invariant (P : State → Prop) : Prop extends BlockInvariant P where
  heard {s : State} : P s → s.phase = .running → P s.heard
  enumerated {s : State} {c : Nat} : P s → s.phase = .running → P (s.enumerated c)
  tHold {s : State} {x : SupBlock} {n : Nat} : P s → s.node.state = .service → x.releaseAll = s.sup.releaseAll →
    P ((s.setNode { s.node with state := .held }).setSup { x with timer := .closeStage n })
  resetCause {s : State} {c : ResetCause} : P s → P (s.setNode { s.node with resetCause := c })
  settled {s : State} : P s → s.phase = .settling →
    P (((s.loadAll.setPhase (.relighting false false)).relight .e).relight .w)
  site {s : State} {x : SiteRecord} : P s → s.phase = .running →
    P ((s.setStore { s.store with site := ⟨true, x, x.givenType, .allEqual⟩ }).setNode (s.node.agree x.expected))
  loadBegin : EffectHolds P .loadBegin loadBegin
  loadBlock : EffectHolds P .loadBlock loadBlock
  loadEnd : EffectHolds P .loadEnd loadEnd
  swap : EffectHolds P .swap swap
  commission : EffectHolds P .commission commission
  enterService : EffectHolds P .enterService enterService
  leaveService : EffectHolds P .leaveService leaveService
  release {ms : Nat} : EffectHolds P .release (release ms)
  maintain : EffectHolds P .maintain maintain
  ending {s : State} : P s → s.phase = .running → s.node.state = .maintenance →
    P (s.setNode { s.node with ending := true })

theorem State.awake_of_running {s : State} (h : s.phase = .running) : s.Awake := fun he => by simp [h, Phase.early] at he

theorem argsOf_length {c : Cmd} {target : BitVec 8} {body : List Word} (h : c.roomFor target body = true) :
    (c.argsOf body).length = c.row.args := by
  simp only [Cmd.roomFor, decide_eq_true_eq] at h
  simp only [Cmd.argsOf, List.length_take]
  omega

/-- What the verdict to execute says of the node and the frame, R66, R67. -/
theorem State.verdict_execute {s : State} {c : Cmd} {target : BitVec 8} {body : List Word}
    (h : s.verdict c target body = .execute) :
    c.row.states.has s.node.state = true ∧ c.roomFor target body = true := by
  unfold State.verdict at h
  grind

theorem WorkingSite.withMasks_valid (x : WorkingSite) (m : BitVec 12) : (x.withMasks m).valid = x.valid := by
  unfold WorkingSite.withMasks
  split <;> rfl

/-! ### The line, R42-R59 -/

section
variable {P : State → Prop} {s : State} (hP : BlockInvariant P)
include hP

theorem BlockInvariant.latch {c : FaultClass} (h : P s) : P (s.latch c) := hP.fault h

theorem BlockInvariant.setRx {p : Port} {x : Receiver} (h : P s) : P (s.setLine (s.line.setRx p x)) :=
  hP.line h (.inr (by simp))

theorem BlockInvariant.setCounters {p : Port} {x : LineCounters} (h : P s) : P (s.setLine (s.line.setCounters p x)) :=
  hP.line h (.inr (by simp))

theorem BlockInvariant.countError {p : Port} {e : FrameError} (h : P s) : P (s.countError p e) := by
  cases e <;> exact hP.latch (hP.setCounters h)

theorem BlockInvariant.received {p : Port} (h : P s) : P (s.received p) := hP.setCounters (hP.setRx h)

theorem BlockInvariant.join {q p : Port} {f : Frame} (h : P s) (hf : s.phase = .running ∨ f.carriesReset = false) :
    P (s.join q p f) := by
  unfold State.join
  split
  · split
    · exact hP.reset
    · exact hP.latch (hP.setCounters h)
  · refine hP.line h (hf.imp id fun hf => ⟨by simp, fun hw => ?_⟩)
    refine LineBlock.setQueue_resetWaits ?_ hw
    simpa [Frame.queued, hf] using (LineBlock.resetWaits_iff _).mp hw q

theorem BlockInvariant.forwardInStartUp {p : Port} {f : Frame} (h : P s) (hf : f.carriesReset = false) :
    P (s.forwardInStartUp p f) := by
  unfold State.forwardInStartUp
  refine hP.join ?_ (.inr hf)
  split
  · exact hP.latch (hP.setCounters h)
  · exact h

theorem BlockInvariant.wrap (h : P s) (hp : s.phase = .running) : P s.wrap := by
  unfold State.wrap
  dsimp only
  split
  · exact hP.reset
  · exact hP.latch (hP.line h (.inl hp))

theorem BlockInvariant.writeRole {b c : Bool} (h : P s) (hp : s.phase = .running) : P (s.writeRole b c) := by
  unfold State.writeRole
  split
  · exact hP.line h (.inl hp)
  · exact hP.line h (.inl hp)
  · exact h
  · exact h
  · exact h
  · split
    · exact hP.line h (.inl hp)
    · exact hP.wrap h hp

theorem BlockInvariant.takeSymbol {t : State} {p : Port} {x : Symbol} (h : P s) (ht : s.takeSymbol p x = some t) : P t := by
  unfold State.takeSymbol at ht
  dsimp only at ht
  split at ht
  · cases ht; exact hP.setRx h
  · cases ht; exact hP.latch (hP.setCounters (hP.setRx h))
  · cases ht

theorem BlockInvariant.takeSymbols {t : State} {p : Port} {xs : List Symbol} (h : P s)
    (ht : s.takeSymbols p xs = some t) : P t := by
  induction xs generalizing s with
  | nil => cases ht; exact h
  | cons x xs ih =>
    cases hx : s.takeSymbol p x with
    | none => simp [State.takeSymbols, hx] at ht
    | some u => exact ih (hP.takeSymbol h hx) (by simpa [State.takeSymbols, hx] using ht)

theorem BlockInvariant.listen {p : Port} {xs : List Symbol} (h : P s) : P (s.listen p xs) := by
  unfold State.listen
  split
  · exact h
  · cases hx : s.takeSymbols p xs with
    | none => exact h
    | some t => exact hP.takeSymbols h hx

theorem BlockInvariant.portLost {p : Port} {xs : List Symbol} (h : P s) : P (s.portLost p xs) := by
  have hu := hP.line (l := (s.listen p xs).line.setLink p .down) (hP.listen (p := p) (xs := xs) h) (.inr (by simp))
  unfold State.portLost
  dsimp only
  split
  · exact hP.latch (hP.setCounters (hP.setRx hu))
  · exact hu

theorem BlockInvariant.portBack {p : Port} {xs : List Symbol} (h : P s) : P (s.portBack p xs) :=
  hP.line (hP.listen h) (.inr (by simp))

/-! ### Receipt, R46, R48, R52 -/

/-- A pass of a frame on a running part keeps a predicate. -/
def PassHolds (P : State → Prop) (pass : State → Frame → State × Frame) : Prop :=
  ∀ (s : State) (f : Frame), P s → s.phase = .running → P (pass s f).1

/-- A frame joins a queue of whatever part a pass has left: one that is no longer running has just been reset. -/
theorem BlockInvariant.receiveA {f : Frame} {out ret : State → Frame → State × Frame} (h : P s)
    (hf : f.carriesReset = false) (ho : PassHolds P out) (hr : PassHolds P ret)
    (hp : ∀ u g, (ret u g).1.phase = u.phase) : P (s.receiveA f out ret) := by
  have hrec : P (s.received .a) := hP.received h
  unfold State.receiveA
  split
  · split
    · exact hP.forwardInStartUp hrec hf
    · exact hP.forwardInStartUp hrec hf
    · exact hP.forwardInStartUp hrec hf
    · next hrun =>
      have ht := ho _ f hrec (by simpa using hrun)
      unfold State.processA
      dsimp only
      split
      · exact ht
      · next hn =>
        have hn := not_not.mp hn
        split
        · exact hP.join (hr _ _ ht hn) (.inl ((hp _ _).trans hn))
        · exact hP.join ht (.inl hn)
  · exact h

theorem BlockInvariant.receiveB {f : Frame} {ret : State → Frame → State × Frame} (h : P s)
    (hf : f.carriesReset = false) (hr : PassHolds P ret) (hp : ∀ u g, (ret u g).1.phase = u.phase) :
    P (s.receiveB f ret) := by
  have hrec : P (s.received .b) := hP.received h
  unfold State.receiveB
  split
  · split
    · exact hP.forwardInStartUp hrec hf
    · exact hP.forwardInStartUp hrec hf
    · exact hP.forwardInStartUp hrec hf
    · next hrun =>
      have hn : (s.received .b).phase = .running := by simpa using hrun
      exact hP.join (hr _ f hrec hn) (.inl ((hp _ _).trans hn))
  · exact h

omit hP in
theorem unchanged_holds : PassHolds P unchanged := fun _ _ h _ => h

theorem BlockInvariant.countUnknown {p : Port} (h : P s) : P (s.countUnknown p) := hP.latch (hP.setCounters h)

theorem BlockInvariant.latchIf {b : Bool} {c : FaultClass} (h : P s) : P (s.latchIf b c) := by
  cases b
  · exact h
  · exact hP.latch h

/-! ### Commands, R64-R69 -/

theorem BlockInvariant.abandonSequence {c : Cmd} (h : P s) : P (s.abandonSequence c) := by
  unfold State.abandonSequence
  split
  · exact h
  · exact hP.latch (hP.poss h)

theorem BlockInvariant.judge {c : Cmd} {target : BitVec 8} {effect : Effect} (he : EffectHolds P c effect) :
    PassHolds P fun t f => t.judge c target effect f := by
  intro s f h hrun
  show P (s.judge c target effect f).1
  unfold State.judge
  split
  · exact h
  · exact hP.latch h
  · exact hP.latch h
  · exact h
  · exact h
  · next hv =>
    obtain ⟨hs, hroom⟩ := State.verdict_execute hv
    exact he _ _ (hP.abandonSequence h) (by simpa using hrun) (by simpa using hs) (argsOf_length hroom)

theorem BlockInvariant.command {c : Cmd} {x : CommandPayload} {effect : Effect} (h : P s)
    (he : EffectHolds P c effect) : P (s.command c x effect) :=
  hP.receiveA h rfl (hP.judge he) unchanged_holds fun _ _ => rfl

theorem BlockInvariant.judgeSilent {target : BitVec 8} : PassHolds P fun t f => t.judgeSilent target f := by
  intro s f h _
  show P (s.judgeSilent target f).1
  unfold State.judgeSilent
  (repeat' split)
  · exact h
  · exact hP.latch h
  · exact hP.latch h

/-! ### The storage writer and the effects of shared operations alone -/

theorem BlockInvariant.lockWriteBegin (h : P s) : P s.lockWriteBegin := by
  unfold State.lockWriteBegin
  split
  · exact hP.store (hP.poss h) rfl
  · exact h

theorem BlockInvariant.writerIdle (h : P s) : P s.writerIdle := hP.lockWriteBegin (hP.store h rfl)

theorem BlockInvariant.storeFaces {c : StoreCopy} (h : P s) : P (s.storeFaces c) := hP.store h rfl

theorem BlockInvariant.setMasks : EffectHolds P .setMasks setMasks := by
  intro s args h _ _ _
  unfold Machine.setMasks
  split
  · exact h
  · exact hP.store (hP.fault h) (WorkingSite.withMasks_valid _ _)

end

end Sys2Proof.Machine
end

section
/-! SUPPORT. What every command of the table keeps, row by row: the effects of the commands, the events of the channels, of
supervision, of storage and of the line, each by the shared operations it is made of. -/

namespace Sys2Proof.Machine

/-! ### The effect of each command -/

/-- The effect that the row of a command hands to the judgement of R67; the other rows have none. -/
def effectOf : Instr → Effect
  | .readIdentity _ => readIdentity
  | .readSite _ => readSite
  | .readStatus _ => readStatus
  | .readFace _ => readFace
  | .readChannel _ raw => readChannel raw
  | .readPlan _ => readPlan
  | .readLocks _ => readLocks
  | .readCounters _ => readCounters
  | .writeSite _ arriving => writeSite arriving
  | .writeFace _ => writeFace
  | .setMasks _ => setMasks
  | .clearFaults _ sense => clearFaults sense
  | .loadBegin _ => loadBegin
  | .loadBlock _ => loadBlock
  | .loadEnd _ => loadEnd
  | .swap _ => swap
  | .store _ => store
  | .eraseStore _ => eraseStore
  | .commission _ => commission
  | .enterService _ => enterService
  | .leaveService _ => leaveService
  | .release _ elapsed => release elapsed
  | .maintain _ => maintain
  | .endMaintain _ => endMaintain
  | .reset _ => resetCommand
  | .faceSet _ => faceSetCommand
  | .elementTest _ => elementTestCommand
  | .possFrom _ => possFrom
  | .possTo _ => possTo
  | .possExcept _ => possExcept
  | .possApply _ => possApply
  | .possLift x => possLift x.target
  | _ => fun s _ => (s, .notConcerned)

/-- A command's row receives its frame, with the command's effect, R46, R67. -/
theorem exec_command {i : Instr} {c : Cmd} {x : CommandPayload} (h : commandOf i = some (c, x)) (s : State) :
    exec i s = .next (s.command c x (effectOf i)) := by
  cases i <;> cases h <;> rfl

theorem EffectHolds.of_still {P : State → Prop} {c : Cmd} {effect : Effect} (h : ∀ s args, (effect s args).1 = s) :
    EffectHolds P c effect := fun s args hs _ _ _ => (h s args).symm ▸ hs

section
variable {P : State → Prop} (hP : BlockInvariant P)
include hP

theorem BlockInvariant.writeFace : EffectHolds P .writeFace writeFace := by
  intro s args h hrun _ _
  unfold Machine.writeFace
  split
  · split
    · exact h
    · split
      · exact h
      · exact hP.faces h (State.awake_of_running hrun) (.takeConfig s _ _)
  · exact h
  · exact h

theorem BlockInvariant.clearFaults {x : Sensed} : EffectHolds P .clearFaults (clearFaults x) := by
  intro s args h hrun _ _
  unfold Machine.clearFaults
  split
  · exact h
  · next set _ =>
    split
    · exact h
    · obtain ⟨t, ht, he⟩ := State.clearFaults_nodeTests s set x
      show P (s.clearFaults set x)
      rw [he]
      exact hP.nodeTests (hP.faces h (State.awake_of_running hrun) ht)

theorem BlockInvariant.storeCommand : EffectHolds P .store Machine.store := by
  intro s args h _ _ _
  unfold Machine.store State.storeBegin
  split
  · show P (if s.store.site.valid then _ else s.storeFaces s.storeCopy)
    split
    · exact hP.store h rfl
    · exact hP.storeFaces h
  · exact h

theorem BlockInvariant.eraseStore : EffectHolds P .eraseStore eraseStore := by
  intro s args h _ _ _
  unfold Machine.eraseStore
  split
  · exact hP.store h rfl
  · exact h

theorem BlockInvariant.faceSetCommand : EffectHolds P .faceSet faceSetCommand := by
  intro s args h hrun _ _
  unfold Machine.faceSetCommand
  split
  · split
    · exact h
    · exact hP.nodeTests (hP.faces h (State.awake_of_running hrun) (.faceSet s _ _))
  · exact h
  · exact h

theorem BlockInvariant.elementTestCommand : EffectHolds P .elementTest elementTestCommand := by
  intro s args h hrun _ _
  unfold Machine.elementTestCommand
  (repeat' split)
  · exact h
  · exact h
  · exact h
  · exact hP.faces h (State.awake_of_running hrun) (.elementTest s _ _)

theorem BlockInvariant.sequenceError {s : State} (h : P s) : P s.sequenceError.1 := hP.latch (hP.poss h)

theorem BlockInvariant.possFrom : EffectHolds P .possFrom possFrom := by
  intro s args h _ _ _
  unfold Machine.possFrom
  dsimp only
  (repeat' split)
  · exact h
  · exact h
  · exact hP.poss h
  · exact hP.sequenceError h

theorem BlockInvariant.possTo : EffectHolds P .possTo possTo := by
  intro s args h _ _ _
  unfold Machine.possTo
  dsimp only
  (repeat' split)
  · exact h
  · exact hP.poss h
  · exact hP.sequenceError h

theorem BlockInvariant.possExcept : EffectHolds P .possExcept possExcept := by
  intro s args h _ _ _
  unfold Machine.possExcept
  dsimp only
  (repeat' split)
  · exact h
  · exact hP.sequenceError h
  · exact h
  · exact hP.poss h
  · exact hP.sequenceError h

theorem BlockInvariant.applyLock {s : State} {id : Nat} {fs : LockFaces} (h : P s) (hrun : s.phase = .running) :
    P (s.applyLock id fs) := by
  have hp := hP.poss (x := { seq := .cleared, locks := s.poss.locks ++ [⟨id, fs, false, false⟩], dirty := true }) h
  exact hP.lockWriteBegin (hP.nodeTests (hP.faces hp (State.awake_of_running (by simpa using hrun))
    ((State.FacesOnly.coverNew _ .e _).trans (.coverNew _ .w _))))

theorem BlockInvariant.possApply : EffectHolds P .possApply possApply := by
  intro s args h hrun _ _
  unfold Machine.possApply
  dsimp only
  (repeat' split)
  · exact h
  · exact hP.sequenceError h
  · exact hP.poss h
  · exact hP.poss h
  · exact hP.poss h
  · exact hP.applyLock h hrun

theorem BlockInvariant.possLift {target : BitVec 8} : EffectHolds P .possLift (possLift target) := by
  intro s args h _ _ _
  unfold Machine.possLift
  dsimp only
  (repeat' split)
  · exact h
  · exact hP.lockWriteBegin (hP.poss h)
  · exact h
  · exact h

end

/-! ### Channel events, R29-R36 -/

/-- A report of a channel: it has no effect, or a channel has left its record after reset, the face controller does its work, the
node's tests follow, and a lamp's report counts for start-up. -/
def State.Reports (s t : State) : Prop :=
  t = s ∨ s.elem ≠ .reset ∧ ∃ u, s.FacesOnly u ∧ (t = u.nodeTests ∨ ∃ f, t = u.nodeTests.lampReported f)

theorem State.elem_of_shutter {s : State} {f : Face} {k : Shutter} (h : (s.shutter f k).state ≠ .off) : s.elem ≠ .reset := by
  intro he
  apply h
  cases f <;> cases k <;> simp [State.shutter, State.channels, he] <;> rfl

theorem State.elem_of_lamp {s : State} {f : Face} (h : (s.lamp f).state ≠ .off) : s.elem ≠ .reset := by
  intro he
  apply h
  cases f <;> simp [State.lamp, State.channels, he] <;> rfl

theorem State.FacesOnly.reports {s u : State} (h : s.FacesOnly u) (hs : s.elem ≠ .reset) (f : Face) :
    s.Reports (u.afterReport f) := .inr ⟨hs, _, h.trans (.channelTests u f), .inl rfl⟩

/-- A shutter that lets go or is blocked reports its fault, R30-R33: its channel is not driven any more. -/
theorem State.shutterFault_reports {s : State} {f : Face} {k : Shutter} {c : ShutterChannel} (x : ChannelFault)
    (hs : (s.shutter f k).state ≠ .off) (hc : c.driven = false) :
    s.Reports ((((s.setShutter f k c).reportShutter f k x).elementFault f).afterReport f) :=
  State.FacesOnly.reports (((State.FacesOnly.setShutter fun hd => absurd hd (by simp [hc])).trans
    (.reportShutter _ f k x)).trans (.elementFault _ f)) (State.elem_of_shutter hs) f

theorem execMoved_reports {s t : State} {f : Face} {k : Shutter} {a b : Nat} (ht : execMoved f k a b s = .next t) :
    s.Reports t := by
  unfold execMoved at ht
  dsimp only at ht
  split at ht <;> cases ht
  · next hc =>
    have hpull : (s.shutter f k).state = .pulling := by simp_all
    exact State.FacesOnly.reports ((State.FacesOnly.setShutter fun _ => by simp [ShutterChannel.driven, hpull]).trans
      (.movedStep _ f k)) (State.elem_of_shutter (f := f) (k := k) (by simp [hpull])) f
  · exact .inl rfl

theorem execHitTimeEnd_reports {s t : State} {f : Face} {k : Shutter} (ht : execHitTimeEnd f k s = .next t) :
    s.Reports t := by
  unfold execHitTimeEnd at ht
  dsimp only at ht
  split at ht
  · next hpull =>
    have hne : (s.shutter f k).state ≠ .off := by simp [hpull]
    split at ht <;> cases ht
    · exact State.FacesOnly.reports (.setShutter fun _ => by simp [ShutterChannel.driven, hpull])
        (State.elem_of_shutter hne) f
    · exact State.shutterFault_reports .notMoved hne rfl
  · cases ht; exact .inl rfl

theorem execHoldLost_reports {s t : State} {f : Face} {k : Shutter} {raw : Nat} (ht : execHoldLost f k raw s = .next t) :
    s.Reports t := by
  unfold execHoldLost at ht
  dsimp only at ht
  split at ht <;> cases ht
  · next hc => exact State.shutterFault_reports .holdLost (by simp_all) rfl
  · exact .inl rfl

theorem execDropped_reports {s t : State} {f : Face} {k : Shutter} {raw : Nat} (ht : execDropped f k raw s = .next t) :
    s.Reports t := by
  unfold execDropped at ht
  dsimp only at ht
  split at ht <;> cases ht
  · next hc =>
    have hrel : (s.shutter f k).state = .releasing := by simp_all
    exact State.FacesOnly.reports ((State.FacesOnly.setShutter fun hd => absurd hd (by simp [ShutterChannel.driven,
      ShutterChannel.rest])).trans (.droppedStep _ f k)) (State.elem_of_shutter (f := f) (k := k) (by simp [hrel])) f
  · exact .inl rfl

theorem execNotDropped_reports {s t : State} {f : Face} {k : Shutter} {raw : Nat}
    (ht : execNotDropped f k raw s = .next t) : s.Reports t := by
  unfold execNotDropped at ht
  dsimp only at ht
  split at ht <;> cases ht
  · next hc => exact State.shutterFault_reports .notDropped (by simp_all) rfl
  · exact .inl rfl

theorem execOvercurrent_reports {s t : State} {f : Face} {k : Shutter} {raw : Nat}
    (ht : execOvercurrent f k raw s = .next t) : s.Reports t := by
  unfold execOvercurrent at ht
  dsimp only at ht
  split at ht <;> cases ht
  · next hc =>
    refine State.shutterFault_reports .overcurrent (fun ho => ?_) rfl
    simp [ShutterChannel.active, ho] at hc
  · exact .inl rfl

theorem State.FacesOnly.lampReports {s u : State} (h : s.FacesOnly u) (hs : s.elem ≠ .reset) (f : Face) :
    s.Reports ((u.afterReport f).lampReported f) := .inr ⟨hs, _, h.trans (.channelTests u f), .inr ⟨f, rfl⟩⟩

theorem State.lampFails_reports {s : State} {f : Face} (c : LampChannel) (x : ChannelFault) (hs : (s.lamp f).state ≠ .off) :
    s.Reports (s.lampFails f c x) :=
  State.FacesOnly.lampReports (((State.FacesOnly.setLamp s f _).trans (.reportLamp _ f x)).trans (.lampFault _ f))
    (State.elem_of_lamp hs) f

theorem execLit_reports {s t : State} {f : Face} {raw : Nat} (ht : execLit f raw s = .next t) : s.Reports t := by
  unfold execLit at ht
  dsimp only at ht
  split at ht <;> cases ht
  · next hc =>
    exact State.FacesOnly.lampReports ((State.FacesOnly.setLamp s f _).trans (.litStep _ f))
      (State.elem_of_lamp (f := f) (by simp_all)) f
  · exact .inl rfl

theorem execNotLit_reports {s t : State} {f : Face} (ht : execNotLit f s = .next t) : s.Reports t := by
  unfold execNotLit at ht
  split at ht <;> cases ht
  · next hc => exact State.lampFails_reports _ _ (by simp [hc])
  · exact .inl rfl

theorem execLampOpen_reports {s t : State} {f : Face} {raw : Nat} (ht : execLampOpen f raw s = .next t) : s.Reports t := by
  unfold execLampOpen at ht
  dsimp only at ht
  split at ht <;> cases ht
  · next hc => exact State.lampFails_reports _ _ (by simp_all)
  · exact .inl rfl

theorem execLampOvercurrent_reports {s t : State} {f : Face} {raw : Nat} (ht : execLampOvercurrent f raw s = .next t) :
    s.Reports t := by
  unfold execLampOvercurrent at ht
  dsimp only at ht
  split at ht <;> cases ht
  · next hc => exact State.lampFails_reports _ _ (fun ho => by simp [ho] at hc)
  · exact .inl rfl

section
variable {P : State → Prop} (hP : BlockInvariant P)
include hP

theorem BlockInvariant.lampReported {s : State} {f : Face} (h : P s) : P (s.lampReported f) := by
  have hend {e w : Bool} (hp : s.phase = .relighting e w) : P s.startUpEnd := by
    have ht : P (s.setPhase .running) := hP.phase h (by rw [hp]; trivial)
    unfold State.startUpEnd
    dsimp only
    split
    · exact hP.line ht (.inl rfl)
    · split
      · exact hP.wrap ht rfl
      · exact hP.line ht (.inl rfl)
  have hnote {e w e' w' : Bool} (hp : s.phase = .relighting e w) : P (s.setPhase (.relighting e' w')) :=
    hP.phase h (by rw [hp]; trivial)
  unfold State.lampReported
  split
  · next hp =>
    split
    · exact hend hp
    · exact hnote hp
  · next hp =>
    split
    · exact hend hp
    · exact hnote hp
  all_goals exact h

theorem BlockInvariant.reports {s t : State} (h : P s) (ht : s.Reports t) : P t := by
  obtain rfl | ⟨he, u, hu, rfl | ⟨f, rfl⟩⟩ := ht
  · exact h
  · exact hP.nodeTests (hP.faces h (fun _ => he) hu)
  · exact hP.lampReported (hP.nodeTests (hP.faces h (fun _ => he) hu))

/-- The end of a lamp-current move, R36; in a part whose channels stand at their records after reset no move is under way. -/
theorem BlockInvariant.lampCurrentMoveEnd {s : State} {f : Face} (h : P s) :
    P (s.setLamp f { s.lamp f with moveFrom := none }) := by
  by_cases he : s.elem = .reset
  · have hm : (s.lamp f).moveFrom = none := by cases f <;> simp [State.lamp, State.channels, he] <;> rfl
    have hl : ({ s.lamp f with moveFrom := none } : LampChannel) = s.lamp f := by rw [← hm]
    rwa [hl, State.setLamp_self]
  · exact hP.faces h (fun _ => he) (.setLamp s f _)

end

end Sys2Proof.Machine
end

section
/-! SUPPORT. Every command of the table keeps what the shared operations and the commands' own effects keep: the frames, the
line's events, supervision and power, the storage writer, and the rows put together. -/

namespace Sys2Proof.Machine

theorem States.maintenanceOnly_has {x : NodeState} : States.maintenanceOnly.has x = true ↔ x = .maintenance := by
  cases x <;> decide

theorem States.standbyOnly_has {x : NodeState} : States.standbyOnly.has x = true ↔ x = .standby := by
  cases x <;> decide

section
variable {P : State → Prop}

/-! ### Frames -/

theorem BlockInvariant.takePass (hP : BlockInvariant P) {s : State} {p : Pass} {q : BitVec 16} {acting : Bool} (h : P s) :
    P (s.takePass p q acting) := hP.sweep h

variable (hP : Invariant P)
include hP

theorem Invariant.validPass {s : State} (h : P s) (hrun : s.phase = .running) (f : Frame) (b : SweepBody) :
    P (s.validPass f b).1 := by
  have ha : P (s.arrive f.pass b) := hP.heard (hP.sweep (hP.latchIf h)) (by simpa using hrun)
  exact hP.faces (hP.takePass ha) (State.awake_of_running (by simpa using hrun))
    ((State.FacesOnly.faceWork _ .e _ _).trans (.faceWork _ .w _ _))

theorem Invariant.sweepPass : PassHolds P State.sweepPass := by
  intro s f h hrun
  unfold State.sweepPass
  split
  · exact hP.nodeTests (hP.latch h)
  · next b _ =>
    dsimp only
    refine hP.nodeTests ?_
    split
    · split
      · exact hP.takePass (hP.sweep (hP.latch h))
      · exact hP.validPass h hrun f _
      · exact hP.validPass h hrun f b
    · exact hP.takePass h

theorem Invariant.sweepReturn : PassHolds P State.sweepReturn := fun s f h hrun => hP.sweepPass s (s.seed f) h hrun

theorem Invariant.closeAll : PassHolds P State.closeAll := fun _ _ h _ => hP.arise h

theorem Invariant.enumerate : PassHolds P State.enumerate := fun _ _ h hrun => hP.enumerated h hrun

theorem Invariant.rollcall : PassHolds P State.rollcall := by
  intro s f h _
  unfold State.rollcall
  (repeat' split)
  · exact hP.latch h
  · exact h
  · exact hP.latch h
  · exact h
  · exact h

theorem Invariant.execSweep {s t : State} {p : Port} {x : Payload} (h : P s) (ht : execSweep p x s = .next t) : P t := by
  cases p <;> cases ht
  · exact hP.receiveA h rfl hP.sweepPass hP.sweepReturn State.sweepReturn_phase
  · exact hP.receiveB h rfl hP.sweepPass State.sweepPass_phase

theorem Invariant.execCloseall {s t : State} {p : Port} {x : Payload} (h : P s) (ht : execCloseall p x s = .next t) :
    P t := by
  cases p <;> cases ht
  · exact hP.receiveA h rfl hP.closeAll hP.closeAll State.closeAll_phase
  · exact hP.receiveB h rfl hP.closeAll State.closeAll_phase

theorem Invariant.execUnknownFrame {s t : State} {p : Port} {k : BitVec 4} {x : Payload} (h : P s)
    (ht : execUnknownFrame p k x s = .next t) : P t := by
  have hpass (q : Port) : PassHolds P (unknownPass q) := fun _ _ hu _ => hP.countUnknown hu
  unfold Machine.execUnknownFrame at ht
  split at ht
  · cases p <;> cases ht
    · exact hP.receiveA h rfl (hpass .a) unchanged_holds fun _ _ => rfl
    · exact hP.receiveB h rfl (hpass .b) fun u _ => u.countUnknown_phase .b
  · cases ht; exact h

theorem Invariant.execForwardUnchanged {s t : State} {p : Port} {k : BitVec 4} {x : Payload} (h : P s)
    (ht : execForwardUnchanged p k x s = .next t) : P t := by
  unfold Machine.execForwardUnchanged at ht
  cases p <;> dsimp only at ht <;> split at ht <;> cases ht
  · exact hP.receiveA h rfl (fun _ _ hu _ => hP.latchIf hu) unchanged_holds fun _ _ => rfl
  · exact h
  · exact hP.receiveB h rfl unchanged_holds fun _ _ => rfl
  · exact h

theorem Invariant.execStartUpForward {s t : State} {p : Port} {k : BitVec 4} {x : Payload} (h : P s)
    (ht : execStartUpForward p k x s = .next t) : P t := by
  unfold Machine.execStartUpForward at ht
  split at ht
  · split at ht <;> cases ht
    · exact hP.forwardInStartUp (hP.received h) rfl
    · exact hP.forwardInStartUp (hP.received h) rfl
    · exact hP.forwardInStartUp (hP.received h) rfl
    · exact h
  · cases ht; exact h

theorem Invariant.execFrameCheckFailed {s t : State} {p : Port} {ws : List Word} (h : P s)
    (ht : execFrameCheckFailed p ws s = .next t) : P t := by
  unfold Machine.execFrameCheckFailed at ht
  split at ht
  · cases ht; exact h
  · split at ht <;> cases ht
    · exact h
    · exact hP.countError (hP.setRx h)

theorem Invariant.execUndefinedCommand {s t : State} {c : BitVec 8} {x : CommandPayload} (h : P s)
    (ht : execUndefinedCommand c x s = .next t) : P t := by
  have hr := hP.receiveA (f := commandFrame c x) h rfl (hP.judgeSilent (target := x.target)) unchanged_holds
    fun _ _ => rfl
  unfold Machine.execUndefinedCommand at ht
  split at ht
  · cases ht; exact hr
  · split at ht <;> cases ht
    · exact h
    · exact hr

/-! ### The line -/

theorem Invariant.execDiscardingEnd {s t : State} {p : Port} (h : P s) (ht : execDiscardingEnd p s = .next t) : P t := by
  unfold Machine.execDiscardingEnd at ht
  split at ht <;> cases ht
  · exact hP.setRx h
  · exact h

theorem Invariant.execFrameSent {s t : State} {p : Port} (h : P s) (ht : execFrameSent p s = .next t) : P t := by
  unfold Machine.execFrameSent at ht
  split at ht
  · cases ht; exact h
  · next f rest hq =>
    dsimp only at ht
    split at ht <;> cases ht
    · exact hP.reset
    · refine hP.line h (.inr ⟨by simp, fun hw => LineBlock.setQueue_resetWaits ?_ hw⟩)
      have := (LineBlock.resetWaits_iff _).mp hw p
      simp_all

theorem Invariant.execPortDown {s t : State} {p : Port} {xs : List Symbol} (h : P s)
    (ht : execPortDown p xs s = .next t) : P t := by
  unfold Machine.execPortDown at ht
  split at ht
  · cases ht; exact h
  · split at ht
    · cases ht; exact hP.portLost h
    · split at ht <;> cases ht
      · next hc =>
        have hrun : s.phase = .running := by simp_all
        exact hP.wrap (hP.portLost h) (by simpa using hrun)
      · exact hP.portLost h

theorem Invariant.execPortUp {s t : State} {p : Port} {xs : List Symbol} (h : P s)
    (ht : execPortUp p xs s = .next t) : P t := by
  unfold Machine.execPortUp at ht
  split at ht
  · cases ht; exact h
  · split at ht
    · cases ht; exact hP.portBack h
    · split at ht <;> cases ht
      · next hc =>
        have hrun : s.phase = .running := by simp_all
        exact hP.line (hP.portBack h) (.inl (by simpa using hrun))
      · exact hP.portBack h

/-! ### Commands of the record of site and of maintenance -/

theorem Invariant.takeSite {s : State} {x : SiteRecord} {arriving : Bool} (h : P s) (hrun : s.phase = .running) :
    P (s.takeSite x arriving) := by
  have hm {t : State} {o n : SiteRecord} (ht : P t) : P (t.movePlace o n) := by
    unfold State.movePlace
    split
    · exact ht
    · exact hP.sweep ht
  exact hP.writeRole (hP.fault (hm (hP.site h hrun))) (by simpa using hrun)

theorem Invariant.writeSite {arriving : Bool} : EffectHolds P .writeSite (writeSite arriving) := by
  intro s args h hrun _ _
  unfold Machine.writeSite
  (repeat' split)
  · exact h
  · exact h
  · exact hP.takeSite h hrun
  · exact h

theorem Invariant.endMaintain : EffectHolds P .endMaintain endMaintain := by
  intro s args h hrun hs _
  have hm : s.node.state = .maintenance := States.maintenanceOnly_has.mp hs
  unfold Machine.endMaintain
  split
  · exact h
  · exact hP.nodeTests (hP.faces (hP.ending h hrun hm) (State.awake_of_running (by simpa using hrun))
      ((State.FacesOnly.endFace _ .e).trans (.endFace _ .w)))

/-- The effect of every command keeps the invariant. -/
theorem Invariant.effect {i : Instr} {c : Cmd} {x : CommandPayload} (hi : commandOf i = some (c, x)) :
    EffectHolds P c (effectOf i) := by
  cases i <;> cases hi
  case readIdentity | readSite | readStatus | readLocks | readCounters | reset => exact .of_still fun _ _ => rfl
  case readFace => exact .of_still fun s args => by rw [effectOf, readFace_eq]
  case readChannel => exact .of_still fun s args => by rw [effectOf, readChannel_eq]
  case readPlan => exact .of_still fun s args => by rw [effectOf, readPlan_eq]
  case writeSite => exact hP.writeSite
  case writeFace => exact hP.writeFace
  case setMasks => exact hP.setMasks
  case clearFaults => exact hP.clearFaults
  case loadBegin => exact hP.loadBegin
  case loadBlock => exact hP.loadBlock
  case loadEnd => exact hP.loadEnd
  case swap => exact hP.swap
  case store => exact hP.storeCommand
  case eraseStore => exact hP.eraseStore
  case commission => exact hP.commission
  case enterService => exact hP.enterService
  case leaveService => exact hP.leaveService
  case release => exact hP.release
  case maintain => exact hP.maintain
  case endMaintain => exact hP.endMaintain
  case faceSet => exact hP.faceSetCommand
  case elementTest => exact hP.elementTestCommand
  case possFrom => exact hP.possFrom
  case possTo => exact hP.possTo
  case possExcept => exact hP.possExcept
  case possApply => exact hP.possApply
  case possLift => exact hP.possLift

/-! ### Supervision and power, R154-R159 -/

theorem Invariant.execTHoldExpiry {s t : State} (h : P s) (ht : execTHoldExpiry s = .next t) : P t := by
  unfold Machine.execTHoldExpiry at ht
  split at ht
  · split at ht <;> cases ht
    · next hs => exact hP.tHold h hs rfl
    · exact h
  all_goals cases ht; exact h

theorem Invariant.execTCloseExpiry {s t : State} (h : P s) (ht : execTCloseExpiry s = .next t) : P t := by
  unfold Machine.execTCloseExpiry at ht
  split at ht
  · split at ht <;> cases ht
    · exact hP.arise (hP.sup h rfl rfl)
    · exact h
  all_goals cases ht; exact h

theorem Invariant.execLoopOpen {s t : State} {x : Nat} (h : P s) (ht : execLoopOpen x s = .next t) : P t := by
  unfold Machine.execLoopOpen at ht
  split at ht <;> cases ht
  · exact hP.arise (hP.sup h rfl rfl)
  · exact h

theorem Invariant.execLoopRestored {s t : State} {x : Nat} (h : P s) (ht : execLoopRestored x s = .next t) : P t := by
  unfold Machine.execLoopRestored at ht
  split at ht <;> cases ht
  · exact hP.sup h rfl rfl
  · exact h

theorem Invariant.execSupplyLow {s t : State} {x : Nat} (h : P s) (ht : execSupplyLow x s = .next t) : P t := by
  unfold Machine.execSupplyLow at ht
  split at ht <;> cases ht
  · exact hP.arise (hP.latch (hP.sup h rfl rfl))
  · exact h

theorem Invariant.execSupplyNormal {s t : State} {x ms : Nat} (h : P s) (ht : execSupplyNormal x ms s = .next t) :
    P t := by
  unfold Machine.execSupplyNormal at ht
  split at ht <;> cases ht
  · exact hP.sup h rfl rfl
  · exact h

theorem Invariant.execSupplyDipReset {s t : State} {x : Nat} (h : P s) (ht : execSupplyDipReset x s = .next t) : P t := by
  unfold Machine.execSupplyDipReset at ht
  split at ht
  · split at ht
    · cases ht; exact hP.reset
    · split at ht <;> cases ht
      · exact hP.resetCause h
      · exact h
  · cases ht; exact h

theorem Invariant.execResetEnd {s t : State} {x : Nat} (h : P s) (ht : execResetEnd x s = .next t) : P t := by
  unfold Machine.execResetEnd at ht
  split at ht <;> cases ht
  · next hc =>
    have hheld : s.phase = .held := by simp_all [State.runs]
    exact hP.phase h (by rw [hheld]; trivial)
  · exact h

theorem Invariant.execStartUpSettleEnd {s t : State} (h : P s) (ht : execStartUpSettleEnd s = .next t) : P t := by
  unfold Machine.execStartUpSettleEnd at ht
  split at ht <;> cases ht
  · next hp => exact hP.settled h hp
  · exact h

/-! ### The storage writer, R146, R183, R184 -/

theorem Invariant.execStoreImageDone {s t : State} (h : P s) (ht : execStoreImageDone s = .next t) : P t := by
  unfold Machine.execStoreImageDone at ht
  split at ht <;> cases ht
  · unfold State.siteStored
    split
    · exact hP.storeFaces h
    · exact hP.storeFaces (hP.store h rfl)
  · exact hP.store h rfl
  · exact hP.writerIdle (hP.store h rfl)
  all_goals exact h

theorem Invariant.execEraseImageDone {s t : State} (h : P s) (ht : execEraseImageDone s = .next t) : P t := by
  unfold Machine.execEraseImageDone at ht
  split at ht <;> cases ht
  · exact hP.store h rfl
  · exact hP.writerIdle h
  all_goals exact h

theorem Invariant.execLockWriteDone {s t : State} (h : P s) (ht : execLockWriteDone s = .next t) : P t := by
  unfold Machine.execLockWriteDone at ht
  split at ht <;> cases ht
  · exact hP.writerIdle (hP.store (hP.poss h) rfl)
  all_goals exact h

/-! ### Every command, every step -/

theorem Invariant.execCommand {s t : State} {i : Instr} {c : Cmd} {x : CommandPayload} (hi : commandOf i = some (c, x))
    (h : P s) (ht : exec i s = .next t) : P t := by
  rw [exec_command hi] at ht
  cases ht
  exact hP.command h (hP.effect hi)

theorem Invariant.exec {s t : State} {i : Instr} (h : P s) (ht : exec i s = .next t) : P t := by
  cases i
  case readIdentity | readSite | readStatus | readFace | readChannel | readPlan | readLocks | readCounters | writeSite |
      writeFace | setMasks | clearFaults | loadBegin | loadBlock | loadEnd | swap | store | eraseStore | commission |
      enterService | leaveService | release | maintain | endMaintain | reset | faceSet | elementTest | possFrom | possTo |
      possExcept | possApply | possLift => exact hP.execCommand rfl h ht
  case sweep => exact hP.execSweep h ht
  case rollcall => cases ht; exact hP.receiveA h rfl hP.rollcall unchanged_holds fun _ _ => rfl
  case enumerate => cases ht; exact hP.receiveA h rfl hP.enumerate unchanged_holds fun _ _ => rfl
  case closeall => exact hP.execCloseall h ht
  case unknownFrame => exact hP.execUnknownFrame h ht
  case forwardUnchanged => exact hP.execForwardUnchanged h ht
  case startUpForward => exact hP.execStartUpForward h ht
  case frameCheckFailed => exact hP.execFrameCheckFailed h ht
  case framingError => cases ht; exact hP.listen h
  case frameSent => exact hP.execFrameSent h ht
  case portDown => exact hP.execPortDown h ht
  case portUp => exact hP.execPortUp h ht
  case undefinedCommand => exact hP.execUndefinedCommand h ht
  case moved => exact hP.reports h (execMoved_reports ht)
  case hitTimeEnd => exact hP.reports h (execHitTimeEnd_reports ht)
  case holdLost => exact hP.reports h (execHoldLost_reports ht)
  case dropped => exact hP.reports h (execDropped_reports ht)
  case notDropped => exact hP.reports h (execNotDropped_reports ht)
  case overcurrent => exact hP.reports h (execOvercurrent_reports ht)
  case lit => exact hP.reports h (execLit_reports ht)
  case notLit => exact hP.reports h (execNotLit_reports ht)
  case lampOpen => exact hP.reports h (execLampOpen_reports ht)
  case lampOvercurrent => exact hP.reports h (execLampOvercurrent_reports ht)
  case lampCurrentMoveEnd => cases ht; exact hP.lampCurrentMoveEnd h
  case tHoldExpiry => exact hP.execTHoldExpiry h ht
  case tCloseExpiry => exact hP.execTCloseExpiry h ht
  case loopOpen => exact hP.execLoopOpen h ht
  case loopRestored => exact hP.execLoopRestored h ht
  case supplyLow => exact hP.execSupplyLow h ht
  case supplyNormal => exact hP.execSupplyNormal h ht
  case supplyDipReset => exact hP.execSupplyDipReset h ht
  case powerOn => cases ht; exact hP.reset
  case resetEnd => exact hP.execResetEnd h ht
  case startUpSettleEnd => exact hP.execStartUpSettleEnd h ht
  case storeImageDone => exact hP.execStoreImageDone h ht
  case eraseImageDone => exact hP.execEraseImageDone h ht
  case lockWriteDone => exact hP.execLockWriteDone h ht
  case discardingEnd => exact hP.execDiscardingEnd h ht

/-- The queue of waiting commands aside, every step keeps what every command keeps. -/
theorem Invariant.step {s t : State} (hq : ∀ q, P s → P (s.setPending q)) (h : P s) (ht : step s = .next t) : P t := by
  cases hp : s.pending with
  | nil => simp only [Machine.step, hp, Host.Outcome.next.injEq] at ht; exact ht ▸ h
  | cons i rest =>
    rw [step_cons hp] at ht
    exact hP.exec (hq rest h) ht

end

end Sys2Proof.Machine
end

section
/-! The invariant of the node record, the silence timer and release-all (O56): R38, R60, R150, R154. -/

namespace Sys2Proof.Machine

/-! ### Entry to STANDBY and to FAILSAFE -/

theorem State.enterStandby_eq (s : State) : s.enterStandby = { s with
    node := { s.node with state := .standby, leaving := false, ending := false }
    sup := { s.sup with timer := .stopped, releaseAll := false }
    faces := ⟨{ s.faces.e with mergeLost := none }, { s.faces.w with mergeLost := none }⟩ } := rfl

/-- The node as R151 leaves it before the faces take the table of R18: in FAILSAFE, the timer STOPPED, release-all asserted. -/
def State.forced (s : State) (c : Cause) : State :=
  ((s.setNode { s.node.addCause c with state := .failsafe, leaving := false, ending := false }).setSup
    { s.sup with timer := .stopped }).assertReleaseAll

theorem State.enterFailsafe_eq (s : State) (c : Cause) :
    s.enterFailsafe c = ((s.forced c).releaseAllFace .e).releaseAllFace .w := rfl

@[simp] theorem State.forced_node (s : State) (c : Cause) : (s.forced c).node =
    { s.node.addCause c with state := .failsafe, leaving := false, ending := false } := rfl

@[simp] theorem State.forced_sup (s : State) (c : Cause) :
    (s.forced c).sup = { s.sup with timer := .stopped, releaseAll := true } := rfl

theorem State.forced_not_driven (s : State) (c : Cause) (f : Face) : (s.forced c).anyDriven f = false := by
  cases f
  · exact (State.anyDriven_congr (State.releaseDriven_channels_other _ .w)).trans (State.releaseDriven_anyDriven _ .e)
  · exact State.releaseDriven_anyDriven _ .w

/-! ### The invariant -/

/-- The node record sound (R60, R150), the silence timer in the stage of the node state (R154), release-all asserted exactly in
FAILSAFE with no shutter driven there (R38). -/
structure State.NodeSound (s : State) : Prop where
  address : s.node.addressOk = true
  flags   : s.node.flagsOk = true
  causes  : s.node.causesOk = true
  timer   : s.timerOk = true
  release : s.releaseOk = true

theorem State.releaseOk_iff (s : State) : s.releaseOk = true ↔
    (s.sup.releaseAll = true ↔ s.node.state = .failsafe) ∧
      (s.node.state = .failsafe → ∀ f, s.anyDriven f = false) := by
  have hf : (∀ f, s.anyDriven f = false) ↔ s.anyDriven .e = false ∧ s.anyDriven .w = false :=
    ⟨fun h => ⟨h .e, h .w⟩, fun h f => by cases f; exacts [h.1, h.2]⟩
  rw [hf]
  cases hr : s.sup.releaseAll <;> cases hs : s.node.state <;> simp [State.releaseOk, hr, hs]

/-- SERVICE and HELD, where the silence timer runs, R154. -/
def NodeState.timed : NodeState → Bool
  | .service => true
  | .held => true
  | .unnumbered => false
  | .numbered => false
  | .standby => false
  | .failsafe => false
  | .maintenance => false

/-- UNNUMBERED, NUMBERED and STANDBY, in which a node is numbered, R70. -/
def NodeState.idle : NodeState → Bool
  | .unnumbered => true
  | .numbered => true
  | .standby => true
  | .service => false
  | .held => false
  | .failsafe => false
  | .maintenance => false

theorem NodeState.untimed_of_idle {x : NodeState} (h : x.idle = true) : x.timed = false := by
  revert h; cases x <;> decide

theorem NodeState.not_of_idle {x : NodeState} (h : x.idle = true) :
    x ≠ .service ∧ x ≠ .held ∧ x ≠ .failsafe ∧ x ≠ .maintenance := by
  revert h; cases x <;> decide

theorem State.timerOk_untimed {s : State} (h : s.node.state.timed = false) : s.timerOk = true ↔ s.sup.timer = .stopped := by
  cases hs : s.node.state <;> cases ht : s.sup.timer <;> simp_all [NodeState.timed, State.timerOk]

theorem NodeRecord.address_of_numbered {n : NodeRecord} (h : n.addressOk = true) (hs : n.state ≠ .unnumbered) :
    1 ≤ n.address.toNat ∧ n.address.toNat ≤ maxAddress := by
  simpa [NodeRecord.addressOk, hs] using h

theorem NodeRecord.addressOk_numbered {n : NodeRecord} (hs : n.state ≠ .unnumbered) (h : 1 ≤ n.address.toNat)
    (h' : n.address.toNat ≤ maxAddress) : n.addressOk = true := by simp [NodeRecord.addressOk, hs, h, h']

theorem NodeRecord.flagsOk_iff (n : NodeRecord) : n.flagsOk = true ↔
    (n.leaving = true → n.state = .service ∨ n.state = .held) ∧ (n.ending = true → n.state = .maintenance) := by
  cases hl : n.leaving <;> cases he : n.ending <;> simp [NodeRecord.flagsOk, hl, he]

/-! ### What keeps it -/

theorem counterInRange_iff {c : Nat} : counterInRange c = true ↔ 1 ≤ c ∧ c ≤ 250 := by
  simp only [counterInRange, Bool.and_eq_true, decide_eq_true_eq]
  exact Iff.rfl

namespace State.NodeSound

variable {s t : State}

/-- The invariant reads the node record, the timer, release-all and, in FAILSAFE, which shutters are driven. -/
theorem of_record (h : s.NodeSound) (hn : t.node = s.node) (ht : t.sup.timer = s.sup.timer)
    (hr : t.sup.releaseAll = s.sup.releaseAll)
    (hd : s.sup.releaseAll = true → ∀ f, s.anyDriven f = false → t.anyDriven f = false) : t.NodeSound where
  address := hn ▸ h.address
  flags := hn ▸ h.flags
  causes := hn ▸ h.causes
  timer := by have := h.timer; unfold State.timerOk at this ⊢; rwa [hn, ht]
  release := by
    obtain ⟨hra, hfs⟩ := s.releaseOk_iff.mp h.release
    rw [State.releaseOk_iff, hn, hr]
    exact ⟨hra, fun hs f => hd (hra.mpr hs) f (hfs hs f)⟩

theorem faces (h : s.NodeSound) (hf : s.FacesOnly t) : t.NodeSound :=
  h.of_record hf.node (by rw [hf.sup]) (by rw [hf.sup]) fun hr _ => hf.not_driven hr

/-- Entry to STANDBY, R77, R78: every node but an unnumbered one has an address. -/
theorem enterStandby (h : s.NodeSound) (hs : s.node.state ≠ .unnumbered) : s.enterStandby.NodeSound := by
  obtain ⟨hl, hu⟩ := NodeRecord.address_of_numbered h.address hs
  rw [State.enterStandby_eq]
  exact ⟨NodeRecord.addressOk_numbered (by simp) hl hu, rfl, h.causes, rfl, rfl⟩

theorem nodeTests (h : s.NodeSound) : s.nodeTests.NodeSound := by
  unfold State.nodeTests
  split
  · next hc => exact h.enterStandby (by simp_all)
  · split
    · next hc => exact h.enterStandby (by simp_all)
    · exact h

theorem addCause_causes {n : NodeRecord} (h : n.causesOk = true) (c : Cause) : (n.addCause c).causesOk = true := by
  unfold NodeRecord.causesOk NodeRecord.addCause at *
  cases he : n.causes.isEmpty
  · cases hf : n.firstCause with
    | none => simp [hf, he] at h
    | some d => cases c <;> cases d <;> simp_all [CauseSet.has, CauseSet.add]
  · cases c <;> simp [CauseSet.has, CauseSet.add]

/-- Entry to FAILSAFE, R151: release-all leaves no shutter driven, and what follows on the faces drives none. -/
theorem enterFailsafe (h : s.NodeSound) (hs : s.node.state ≠ .unnumbered) (c : Cause) :
    (s.enterFailsafe c).NodeSound := by
  obtain ⟨hl, hu⟩ := NodeRecord.address_of_numbered h.address hs
  have hf : (s.forced c).NodeSound :=
    { address := NodeRecord.addressOk_numbered (by simp) hl hu
      flags := rfl
      causes := addCause_causes h.causes c
      timer := rfl
      release := (State.releaseOk_iff _).mpr ⟨by simp, fun _ f => s.forced_not_driven c f⟩ }
  exact hf.faces ((State.FacesOnly.releaseAllFace _ .e).trans (.releaseAllFace _ .w))

theorem arise (h : s.NodeSound) (c : Cause) : (s.arise c).NodeSound := by
  unfold State.arise
  have hadd : (s.setNode (s.node.addCause c)).NodeSound :=
    ⟨h.address, h.flags, addCause_causes h.causes c, h.timer, h.release⟩
  split
  · exact hadd
  · exact hadd
  · exact hadd
  all_goals next hs => exact h.enterFailsafe (by simp [hs]) c

/-- A valid pass, R153, R154: HELD ends, and T_HOLD starts again. -/
theorem heard (h : s.NodeSound) : s.heard.NodeSound := by
  have hsame : (s.setSup { s.sup with recency := some 0 }).NodeSound :=
    h.of_record rfl rfl rfl fun _ _ hd => hd
  obtain ⟨hra, hfs⟩ := s.releaseOk_iff.mp h.release
  unfold State.heard
  split
  case h_1 hs =>
    exact ⟨h.address, h.flags, h.causes, by simp [State.timerOk, hs], h.release⟩
  case h_2 hs =>
    have hflags := s.node.flagsOk_iff.mp h.flags
    obtain ⟨hl, hu⟩ := NodeRecord.address_of_numbered h.address (by simp [hs])
    exact
      { address := NodeRecord.addressOk_numbered (by simp) hl hu
        flags := (NodeRecord.flagsOk_iff _).mpr ⟨fun _ => .inl rfl, fun he => by simpa [hs] using hflags.2 he⟩
        causes := h.causes
        timer := rfl
        release := (State.releaseOk_iff _).mpr ⟨by simpa [hs] using hra, by simp⟩ }
  all_goals exact hsame

/-- T_HOLD has run out in SERVICE, R154. -/
theorem tHold {x : SupBlock} (h : s.NodeSound) (hs : s.node.state = .service) (hx : x.releaseAll = s.sup.releaseAll)
    (n : Nat) : ((s.setNode { s.node with state := .held }).setSup { x with timer := .closeStage n }).NodeSound := by
  obtain ⟨hra, -⟩ := s.releaseOk_iff.mp h.release
  have hflags := s.node.flagsOk_iff.mp h.flags
  obtain ⟨hl, hu⟩ := NodeRecord.address_of_numbered h.address (by simp [hs])
  exact
    { address := NodeRecord.addressOk_numbered (by simp) hl hu
      flags := (NodeRecord.flagsOk_iff _).mpr ⟨fun _ => .inr rfl, fun he => by simpa [hs] using hflags.2 he⟩
      causes := h.causes
      timer := rfl
      release := (State.releaseOk_iff _).mpr ⟨by simpa [hs, hx] using hra, by simp⟩ }

/-! ### Numbering, R70 -/

/-- A node that is not in service changes its number: it stays UNNUMBERED, NUMBERED or in STANDBY. -/
theorem renumber (h : s.NodeSound) {x : NodeState} {a : BitVec 8} {agrees : Bool} (hs : s.node.state.idle = true)
    (hx : x.idle = true) (ha : ({ s.node with state := x, address := a } : NodeRecord).addressOk = true) :
    (s.setNode { s.node with state := x, address := a, positionAgrees := agrees }).NodeSound := by
  obtain ⟨hra, -⟩ := s.releaseOk_iff.mp h.release
  obtain ⟨hl, he⟩ := s.node.flagsOk_iff.mp h.flags
  have htimer := (State.timerOk_untimed (NodeState.untimed_of_idle hs)).mp h.timer
  have hne := NodeState.not_of_idle hs
  have hxe := NodeState.not_of_idle hx
  exact
    { address := ha
      flags := (NodeRecord.flagsOk_iff _).mpr ⟨fun hl' => by simp [hne] at hl; simp_all, fun he' => by simp_all⟩
      causes := h.causes
      timer := (State.timerOk_untimed (NodeState.untimed_of_idle hx)).mpr htimer
      release := (State.releaseOk_iff _).mpr ⟨by simpa [hne, hxe] using hra, by simp [hxe]⟩ }

theorem setAgrees (h : s.NodeSound) (b : Bool) : (s.setNode { s.node with positionAgrees := b }).NodeSound :=
  ⟨h.address, h.flags, h.causes, h.timer, h.release⟩

theorem takeAddress (h : s.NodeSound) {c : Nat} (hc : counterInRange c = true) (b : Bool) :
    (s.setNode { s.node.takeAddress c with positionAgrees := b }).NodeSound := by
  obtain ⟨hlow, hhigh⟩ := counterInRange_iff.mp hc
  have ha : (BitVec.ofNat 8 c).toNat = c := by simp only [BitVec.toNat_ofNat]; omega
  have haddr {x : NodeState} (hx : x ≠ .unnumbered) :
      ({ s.node with state := x, address := BitVec.ofNat 8 c } : NodeRecord).addressOk = true :=
    NodeRecord.addressOk_numbered hx (by rwa [ha]) (by rwa [ha])
  unfold NodeRecord.takeAddress
  split
  case h_1 hs | h_2 hs => exact h.renumber (by rw [hs]; rfl) (x := .numbered) rfl (haddr (by simp))
  case h_3 hs => simpa only [hs] using h.renumber (agrees := b) (by rw [hs]; rfl) (x := .standby) rfl (haddr (by simp))
  all_goals exact h.setAgrees b

theorem loseAddress (h : s.NodeSound) (b : Bool) :
    (s.setNode { s.node.loseAddress with positionAgrees := b }).NodeSound := by
  unfold NodeRecord.loseAddress
  split
  case h_1 hs | h_2 hs | h_3 hs => exact h.renumber (by rw [hs]; rfl) (x := .unnumbered) rfl rfl
  all_goals exact h.setAgrees b

theorem latch (h : s.NodeSound) (c : FaultClass) : (s.latch c).NodeSound := h.faces (.latch s c)

theorem misplaced (h : s.NodeSound) : s.misplaced.NodeSound := by
  unfold State.misplaced
  dsimp only
  split
  · exact (h.latch .position).arise .position
  · exact (h.latch .position).arise .position
  all_goals exact h.latch .position

theorem enumerated (h : s.NodeSound) (c : Nat) : (s.enumerated c).NodeSound := by
  unfold State.enumerated
  split
  · split
    · next hc =>
      split
      · exact h.takeAddress hc true
      · exact (h.takeAddress hc false).misplaced
    · exact (h.loseAddress false).misplaced
  · split
    · next hc => exact h.takeAddress hc false
    · exact (h.loseAddress false).latch .position

end State.NodeSound

/-! ### Commands -/

theorem commission_nodeSound : EffectHolds State.NodeSound .commission commission := by
  intro s args h _ hs _
  have hn : s.node.state ≠ .unnumbered := fun hu => by rw [hu] at hs; cases hs
  unfold commission
  split
  · exact h
  · exact h.enterStandby hn

theorem enterService_nodeSound : EffectHolds State.NodeSound .enterService enterService := by
  intro s args h _ hs _
  have hs : s.node.state = .standby := States.standbyOnly_has.mp hs
  obtain ⟨hra, -⟩ := s.releaseOk_iff.mp h.release
  obtain ⟨-, he⟩ := s.node.flagsOk_iff.mp h.flags
  obtain ⟨hl, hu⟩ := NodeRecord.address_of_numbered h.address (by simp [hs])
  have hserv : s.enterService.NodeSound :=
    { address := NodeRecord.addressOk_numbered (by simp [State.enterService]) hl hu
      flags := (NodeRecord.flagsOk_iff _).mpr ⟨fun _ => .inl rfl, fun h' => by simpa [hs] using he h'⟩
      causes := h.causes
      timer := rfl
      release := (State.releaseOk_iff _).mpr ⟨by simpa [hs, State.enterService] using hra, by simp [State.enterService]⟩ }
  unfold enterService
  (repeat' split)
  · exact h
  · exact h
  · exact hserv

theorem leaveService_nodeSound : EffectHolds State.NodeSound .leaveService leaveService := by
  intro s args h _ hs _
  have hs : s.node.state = .service ∨ s.node.state = .held := by
    revert hs; cases s.node.state <;> decide
  obtain ⟨-, he⟩ := s.node.flagsOk_iff.mp h.flags
  have hset : (s.setNode { s.node with leaving := true }).NodeSound :=
    ⟨h.address, (NodeRecord.flagsOk_iff _).mpr ⟨fun _ => hs, he⟩, h.causes, h.timer, h.release⟩
  exact hset.nodeTests

theorem release_nodeSound (ms : Nat) : EffectHolds State.NodeSound .release (release ms) := by
  intro s args h _ _ _
  have ht : (s.setSup (s.sup.aged ms)).NodeSound := h.of_record rfl rfl rfl fun _ _ hd => hd
  have hc : ((s.setSup (s.sup.aged ms)).setNode (s.setSup (s.sup.aged ms)).node.noCauses).NodeSound :=
    ⟨ht.address, ht.flags, rfl, ht.timer, ht.release⟩
  unfold release
  dsimp only
  split
  · split
    · next hf => exact hc.enterStandby fun hu => NodeState.noConfusion (hf.symm.trans hu)
    · exact hc
  · exact ht

theorem maintain_nodeSound : EffectHolds State.NodeSound .maintain maintain := by
  intro s args h _ hs _
  have hs : s.node.state = .standby := States.standbyOnly_has.mp hs
  obtain ⟨hra, -⟩ := s.releaseOk_iff.mp h.release
  obtain ⟨hl', -⟩ := s.node.flagsOk_iff.mp h.flags
  obtain ⟨hl, hu⟩ := NodeRecord.address_of_numbered h.address (by simp [hs])
  have htimer := (State.timerOk_untimed (by rw [hs]; rfl)).mp h.timer
  exact
    { address := NodeRecord.addressOk_numbered (by simp [maintain]) hl hu
      flags := (NodeRecord.flagsOk_iff _).mpr ⟨fun h' => by simpa [hs] using hl' h', fun _ => rfl⟩
      causes := h.causes
      timer := (State.timerOk_untimed (by rfl)).mpr htimer
      release := (State.releaseOk_iff _).mpr ⟨by simpa [hs, maintain] using hra, by simp [maintain]⟩ }

/-- An effect on the plan tables alone. -/
def PlanEffect (effect : Effect) : Prop := ∀ s args, ∃ x, (effect s args).1 = s.setPlan x

theorem loadBegin_plan : PlanEffect loadBegin := by
  intro s args
  unfold loadBegin
  dsimp only
  split
  · exact ⟨_, rfl⟩
  · exact ⟨s.plan, rfl⟩

theorem loadBlock_plan : PlanEffect loadBlock := by
  intro s args
  unfold loadBlock
  dsimp only
  (repeat' split)
  · exact ⟨s.plan, rfl⟩
  · exact ⟨s.plan, rfl⟩
  · exact ⟨_, rfl⟩
  · exact ⟨_, rfl⟩

theorem loadEnd_plan : PlanEffect loadEnd := by
  intro s args
  unfold loadEnd
  dsimp only
  (repeat' split)
  · exact ⟨s.plan, rfl⟩
  · exact ⟨_, rfl⟩
  · exact ⟨_, rfl⟩
  · exact ⟨_, rfl⟩

theorem swap_plan : PlanEffect swap := by
  intro s args
  unfold swap
  (repeat' split)
  · exact ⟨s.plan, rfl⟩
  · exact ⟨s.plan, rfl⟩
  · exact ⟨_, rfl⟩

theorem PlanEffect.nodeSound {effect : Effect} (he : PlanEffect effect) (c : Cmd) :
    EffectHolds State.NodeSound c effect := by
  intro s args h _ _ _
  obtain ⟨x, hx⟩ := he s args
  exact hx ▸ h.of_record (by rfl) (by rfl) (by rfl) fun _ _ hd => hd

/-! ### Every command -/

/-- Start-up loads no record that the invariant reads, and the relight drives no shutter, R186. -/
theorem State.loadAll_channels (s : State) (f : Face) : s.loadAll.channels f = s.channels f := by
  have hc : (s.loadIdentity.loadCalibration.loadSite.loadConfigs).channels f =
      (s.loadIdentity.loadCalibration.loadSite).channels f := by
    unfold State.loadConfigs
    split <;> cases f <;> simp [State.channels]
  have hi : (s.loadIdentity.loadCalibration.loadSite).channels f = s.channels f := State.channels_of_elem (by simp) f
  rw [← hi, ← hc]
  exact State.channels_of_elem (by simp [State.loadAll]) f

theorem nodeSound_invariant : Invariant State.NodeSound where
  line h _ := h.of_record rfl rfl rfl fun _ _ hd => hd
  fault h := h.of_record rfl rfl rfl fun _ _ hd => hd
  sweep h := h.of_record rfl rfl rfl fun _ _ hd => hd
  poss h := h.of_record rfl rfl rfl fun _ _ hd => hd
  store h _ := h.of_record rfl rfl rfl fun _ _ hd => hd
  sup h ht hr := h.of_record rfl ht hr fun _ _ hd => hd
  faces h _ hf := h.faces hf
  nodeTests h := h.nodeTests
  arise h := h.arise _
  phase h _ := h.of_record rfl rfl rfl fun _ _ hd => hd
  reset := ⟨rfl, rfl, rfl, rfl, rfl⟩
  heard h _ := h.heard
  enumerated h _ := h.enumerated _
  tHold h hs hx := h.tHold hs hx _
  resetCause h := ⟨h.address, h.flags, h.causes, h.timer, h.release⟩
  settled {s} h _ := by
    have hl : (s.loadAll.setPhase (.relighting false false)).NodeSound :=
      h.of_record (by simp) (by simp) (by simp) fun _ f hd => by
        rw [← hd]
        exact State.anyDriven_congr (State.loadAll_channels s f)
    exact hl.faces ((State.FacesOnly.relight _ .e).trans (.relight _ .w))
  site h _ := ⟨h.address, h.flags, h.causes, h.timer, h.release⟩
  loadBegin := loadBegin_plan.nodeSound _
  loadBlock := loadBlock_plan.nodeSound _
  loadEnd := loadEnd_plan.nodeSound _
  swap := swap_plan.nodeSound _
  commission := commission_nodeSound
  enterService := enterService_nodeSound
  leaveService := leaveService_nodeSound
  release := release_nodeSound _
  maintain := maintain_nodeSound
  ending {s} h _ hm :=
    ⟨h.address, (NodeRecord.flagsOk_iff _).mpr ⟨(s.node.flagsOk_iff.mp h.flags).1, fun _ => hm⟩, h.causes, h.timer,
      h.release⟩

/-- Settles O56: the invariant of the node record, which every command keeps. Only entries to STANDBY and FAILSAFE, numbering and
the state commands touch what it reads of the node; under release-all no work on the faces drives a shutter. -/
theorem nodeRecordStaysSound : Obligations.NodeRecordStaysSound := by
  unfold Obligations.NodeRecordStaysSound
  intro s t ht ha hf hc htm hr
  obtain ⟨ha, hf, hc, htm, hr⟩ := nodeSound_invariant.step (fun _ h => h.of_record rfl rfl rfl fun _ _ hd => hd)
    ⟨ha, hf, hc, htm, hr⟩ ht
  exact ⟨ha, hf, hc, htm, hr⟩

end Sys2Proof.Machine
end

section
/-! The plan tables and their load (R121-R130): each of the four plan commands keeps the plan table block as R121 and R123 give
it. -/

namespace Sys2Proof.Machine

/-! ### Banks, R121 -/

theorem ascending_iff (l : List Nat) : ascending l = true ↔ l.IsChain (· < ·) := by
  induction l with
  | nil => simp [ascending]
  | cons a l ih =>
    cases l with
    | nil => simp [ascending]
    | cons b l => simp [ascending, ih]

theorem planTest_iff (es : List PlanEntry) : planTest es = true ↔
    es.length ≤ 48 ∧ (es.map PlanEntry.plan).IsChain (· < ·) ∧ ∀ x ∈ es, 1 ≤ x.plan ∧ x.plan ≤ 250 := by
  simp only [planTest, ascending_iff, Bool.and_eq_true, decide_eq_true_eq, List.all_eq_true, List.forall_mem_map, and_assoc]
  rfl

theorem Bank.sound_iff (b : Bank) : b.sound = true ↔ planTest b.entries = true ∧ b.check = bankCheck b.entries := by
  simp [Bank.sound]

theorem Bank.sound_ofEntries {es : List PlanEntry} (h : planTest es = true) : (Bank.ofEntries es).sound = true :=
  (Bank.sound_iff _).mpr ⟨h, rfl⟩

/-- The load session beside STAGING, R123. -/
structure PlanBlock.SessionSound (b : PlanBlock) : Prop where
  closed : b.session.state = .none → b.session.expected = none
  loading : b.session.state ≠ .none → b.stagingValid = false ∧
    ∃ n, b.session.expected = some n ∧ 1 ≤ n ∧ n ≤ 48 ∧ b.session.received ≤ n
  counted : b.session.state = .opened → b.session.received = b.staging.entries.length

theorem PlanBlock.sound_iff (b : PlanBlock) : b.sound = true ↔
    b.active.sound = true ∧ b.staging.sound = true ∧ (b.stagingValid = true → b.staging.entries ≠ []) ∧
      b.SessionSound := by
  have hstage : (!b.stagingValid || !b.staging.entries.isEmpty) = true ↔
      (b.stagingValid = true → b.staging.entries ≠ []) := by cases b.stagingValid <;> simp
  simp only [PlanBlock.sound, Bool.and_eq_true, and_assoc, hstage]
  refine and_congr Iff.rfl (and_congr Iff.rfl (and_congr Iff.rfl ⟨fun h => ?_, fun ⟨hc, hl, hn⟩ => ?_⟩))
  · split at h
    case h_3 n hs he =>
      simp only [Bool.and_eq_true, Bool.not_eq_true', decide_eq_true_eq, beq_iff_eq] at h
      obtain ⟨⟨⟨⟨hv, hlow⟩, hhigh⟩, hle⟩, hlen⟩ := h
      exact { closed := by simp [hs], loading := fun _ => ⟨hv, n, he, hlow, hhigh, hle⟩, counted := fun _ => hlen }
    case h_4 n hs he =>
      simp only [Bool.and_eq_true, Bool.not_eq_true', decide_eq_true_eq] at h
      obtain ⟨⟨⟨hv, hlow⟩, hhigh⟩, hle⟩ := h
      exact { closed := by simp [hs], loading := fun _ => ⟨hv, n, he, hlow, hhigh, hle⟩, counted := by simp [hs] }
    all_goals constructor <;> simp_all
  · cases hs : b.session.state <;> cases he : b.session.expected <;> simp_all [bankLimit]

/-! ### LOAD_BEGIN, R124 -/

theorem PlanBlock.SessionSound.congr {b d : PlanBlock} (h : b.SessionSound) (hs : d.session = b.session)
    (hv : b.session.state ≠ .none → d.stagingValid = b.stagingValid)
    (he : b.session.state = .opened → d.staging = b.staging) : d.SessionSound where
  closed hn := by rw [hs] at hn ⊢; exact h.closed hn
  loading hn := by rw [hs] at hn ⊢; rw [hv hn]; exact h.loading hn
  counted hn := by rw [hs] at hn ⊢; rw [he hn]; exact h.counted hn

theorem loadBegin_sound {s : State} (h : s.plan.sound = true) (args : List Word) :
    (loadBegin s args).1.plan.sound = true := by
  obtain ⟨ha, -⟩ := s.plan.sound_iff.mp h
  unfold loadBegin
  dsimp only
  split
  · next hn =>
    obtain ⟨hlow, hhigh⟩ : 1 ≤ (argWord args 0).toNat ∧ (argWord args 0).toNat ≤ bankLimit := by simpa using hn
    exact (PlanBlock.sound_iff _).mpr ⟨ha, show Bank.empty.sound = true by decide, by simp,
      { closed := nofun, loading := fun _ => ⟨rfl, _, rfl, hlow, hhigh, Nat.zero_le _⟩, counted := fun _ => rfl }⟩
  · exact h

/-! ### LOAD_BLOCK, R122, R125, R126 -/

/-- An entry that passes the checks of R122 has a plan number of 1-250. -/
theorem State.entryOf_plan {s : State} {w : Word} {x : PlanEntry} (h : s.entryOf w = some x) :
    1 ≤ x.plan ∧ x.plan ≤ 250 := by
  unfold State.entryOf at h
  dsimp only at h
  split at h
  · split at h
    · next hc =>
      cases h
      simp only [Bool.and_eq_true, decide_eq_true_eq, and_assoc] at hc
      obtain ⟨hlow, hhigh, -⟩ := hc
      exact ⟨hlow, hhigh⟩
    · cases h
  · cases h
  · cases h

/-- An entry that passes R126: within the session's count, its plan number above the previous one's. -/
theorem State.checkEntry_ok {s : State} {expected received index : Nat} {prev : Option Nat} {w : Word} {x : PlanEntry}
    (h : s.checkEntry expected received index prev w = .ok x) :
    received + index ≤ expected ∧ (1 ≤ x.plan ∧ x.plan ≤ 250) ∧ ∀ p ∈ prev, p < x.plan := by
  unfold State.checkEntry at h
  split at h
  · cases h
  · next hc =>
    refine ⟨Nat.not_lt.mp hc, ?_⟩
    split at h
    · cases h
    · next he => cases h; exact ⟨s.entryOf_plan he, by simp⟩
    · next y p he =>
      split at h
      · cases h
      · split at h
        · cases h
        · cases h
          exact ⟨s.entryOf_plan he, fun q hq => by cases hq; omega⟩

/-- A block that passes R126: as many entries as words, within the session's count, in ascending order above the previous
plan number, each of 1-250. -/
theorem State.checkBlock_taken {s : State} {expected received : Nat} {ws : List Word} {index : Nat} {prev : Option Nat}
    {es : List PlanEntry} (h : s.checkBlock expected received index prev ws = .taken es) :
    es.length = ws.length ∧ (ws ≠ [] → received + index + ws.length ≤ expected + 1) ∧
      (prev.toList ++ es.map PlanEntry.plan).IsChain (· < ·) ∧ ∀ x ∈ es, 1 ≤ x.plan ∧ x.plan ≤ 250 := by
  induction ws generalizing index prev es with
  | nil =>
    cases h
    cases prev <;> simp
  | cons w ws ih =>
    unfold State.checkBlock at h
    split at h
    · cases h
    · next x hx =>
      cases hb : s.checkBlock expected received (index + 1) (some x.plan) ws with
      | failed why i => rw [hb] at h; cases h
      | taken rest =>
        rw [hb] at h
        cases h
        obtain ⟨hcount, hrange, hprev⟩ := State.checkEntry_ok hx
        obtain ⟨hlen, hmore, hchain, hall⟩ := ih hb
        refine ⟨by simp [hlen], fun _ => ?_, ?_, ?_⟩
        · cases ws with
          | nil => simp; omega
          | cons v vs => have := hmore (by simp); simp only [List.length_cons] at this ⊢; omega
        · cases prev with
          | none => simpa using hchain
          | some p => simpa using ⟨hprev p rfl, by simpa using hchain⟩
        · simpa using ⟨hrange, hall⟩

/-- A bank to which a block that passed R126 is appended. -/
theorem planTest_append {es fs : List PlanEntry} (h : planTest es = true) (hn : es.length + fs.length ≤ 48)
    (hc : ((es.getLast?.map PlanEntry.plan).toList ++ fs.map PlanEntry.plan).IsChain (· < ·))
    (hf : ∀ x ∈ fs, 1 ≤ x.plan ∧ x.plan ≤ 250) : planTest (es ++ fs) = true := by
  obtain ⟨-, hchain, hrange⟩ := (planTest_iff es).mp h
  have hboth : (((es ++ fs).map PlanEntry.plan).IsChain (· < ·)) := by
    rw [List.map_append, List.isChain_append]
    obtain ⟨-, hnew, hnext⟩ := List.isChain_append.mp hc
    refine ⟨hchain, hnew, fun x hx => hnext x ?_⟩
    rw [List.getLast?_map] at hx
    rw [hx]
    rfl
  exact (planTest_iff _).mpr ⟨by simpa using hn, hboth, fun x hx => (List.mem_append.mp hx).elim (hrange x) (hf x)⟩

/-- STAGING with a block's entries after its own. -/
theorem PlanBlock.sound_taken {s : State} {n : Nat} {ws : List Word} {es : List PlanEntry} (h : s.plan.sound = true)
    (ho : s.plan.session.state = .opened) (hw : ws.length = n) (hn : 1 ≤ n)
    (he : s.checkBlock (s.plan.session.expected.getD 0) s.plan.session.received 1 s.plan.staging.lastPlan ws = .taken es) :
    ({ s.plan with
        staging := .ofEntries (s.plan.staging.entries ++ es)
        session := { s.plan.session with received := s.plan.session.received + n } } : PlanBlock).sound = true := by
  obtain ⟨ha, hst, -, hsess⟩ := s.plan.sound_iff.mp h
  obtain ⟨hv, m, hm, hlow, hhigh, -⟩ := hsess.loading (by simp [ho])
  have hcount := hsess.counted ho
  obtain ⟨hlen, hfits, hchain, hrange⟩ := State.checkBlock_taken he
  have hfits := hfits (by rintro rfl; simp at hw; omega)
  rw [hm, Option.getD_some] at hfits
  have hstage := planTest_append ((Bank.sound_iff _).mp hst).1 (by omega) hchain hrange
  refine (PlanBlock.sound_iff _).mpr ⟨ha, Bank.sound_ofEntries hstage, by simp [hv], ?_⟩
  exact
    { closed := by simp [ho]
      loading := fun _ => ⟨hv, m, hm, hlow, hhigh, by show _ + n ≤ m; omega⟩
      counted := fun _ => by simp [Bank.ofEntries, hcount, hlen, hw] }

/-- A session that is SPOILED. -/
theorem PlanBlock.sound_spoiled {b : PlanBlock} (h : b.sound = true) (ho : b.session.state = .opened) :
    ({ b with session := { b.session with state := .spoiled } } : PlanBlock).sound = true := by
  obtain ⟨ha, hst, hv, hsess⟩ := b.sound_iff.mp h
  exact (PlanBlock.sound_iff _).mpr ⟨ha, hst, hv,
    { closed := nofun, loading := fun _ => hsess.loading (by simp [ho]), counted := nofun }⟩

theorem loadBlock_sound {s : State} {args : List Word} (h : s.plan.sound = true) (hargs : args.length = 9) :
    (loadBlock s args).1.plan.sound = true := by
  unfold loadBlock
  dsimp only
  split
  · exact h
  · next hn =>
    have hn : 1 ≤ (argWord args 0).toNat ∧ (argWord args 0).toNat ≤ 8 := by
      simp only [Bool.or_eq_true, decide_eq_true_eq, not_or, Nat.not_lt] at hn
      exact hn
    split
    · exact h
    · next ho =>
      have ho := not_not.mp ho
      split
      · exact PlanBlock.sound_spoiled h ho
      · next he => exact PlanBlock.sound_taken h ho (by simp; omega) hn.1 he

/-! ### LOAD_END and SWAP, R127, R129, R130 -/

/-- The banks change places, R129, R130: the loaded STAGING, which is not empty, becomes ACTIVE. -/
theorem PlanBlock.exchange_sound {b : PlanBlock} (h : b.sound = true) (hv : b.stagingValid = true) :
    b.exchange.sound = true ∧ b.exchange.active.entries ≠ [] := by
  obtain ⟨ha, hst, hne, hsess⟩ := b.sound_iff.mp h
  have hnone : b.session.state = .none := by
    by_contra hs
    simp [(hsess.loading hs).1] at hv
  exact ⟨(PlanBlock.sound_iff _).mpr ⟨hst, ha, by simp [PlanBlock.exchange],
    { closed := fun _ => hsess.closed hnone, loading := fun hs => absurd hnone hs
      counted := fun hs => by simp [PlanBlock.exchange, hnone] at hs }⟩, hne hv⟩

theorem PlanBlock.finishLoad_sound {b : PlanBlock} (h : b.sound = true) (ho : b.session.state = .opened)
    (hr : ¬ b.session.received < b.session.expected.getD 0) :
    b.finishLoad.sound = true ∧ b.finishLoad.active.entries ≠ [] := by
  obtain ⟨ha, hst, -, hsess⟩ := b.sound_iff.mp h
  obtain ⟨-, m, hm, hlow, -, -⟩ := hsess.loading (by simp [ho])
  have hcount := hsess.counted ho
  rw [hm, Option.getD_some] at hr
  have hne : b.staging.entries ≠ [] := by
    intro he
    rw [he, List.length_nil] at hcount
    omega
  have ht : ({ b with stagingValid := true, session := { b.session with state := .none, expected := none } } :
      PlanBlock).sound = true :=
    (PlanBlock.sound_iff _).mpr ⟨ha, hst, fun _ => hne, { closed := fun _ => rfl, loading := nofun, counted := nofun }⟩
  unfold PlanBlock.finishLoad
  dsimp only
  split
  · exact PlanBlock.exchange_sound ht rfl
  · next he => exact ⟨ht, by simpa using he⟩

theorem loadEnd_sound {s : State} (h : s.plan.sound = true) (args : List Word) :
    (loadEnd s args).1.plan.sound = true ∧
      (s.plan.active.entries ≠ [] → (loadEnd s args).1.plan.active.entries ≠ []) := by
  unfold loadEnd
  dsimp only
  split
  · exact ⟨h, id⟩
  · next ho =>
    have ho := not_not.mp ho
    split
    · exact ⟨PlanBlock.sound_spoiled h ho, id⟩
    · next hr =>
      split
      · exact ⟨PlanBlock.sound_spoiled h ho, id⟩
      · obtain ⟨hs, hne⟩ := PlanBlock.finishLoad_sound h ho hr
        exact ⟨hs, fun _ => hne⟩

theorem swap_sound {s : State} (h : s.plan.sound = true) (args : List Word) :
    (swap s args).1.plan.sound = true ∧
      (s.plan.active.entries ≠ [] → (swap s args).1.plan.active.entries ≠ []) := by
  unfold swap
  split
  · exact ⟨h, id⟩
  · next hv =>
    split
    · exact ⟨h, id⟩
    · obtain ⟨hs, hne⟩ := PlanBlock.exchange_sound h (by simpa using hv)
      exact ⟨hs, fun _ => hne⟩

theorem loadBegin_active (s : State) (args : List Word) : (loadBegin s args).1.plan.active = s.plan.active := by
  unfold loadBegin
  dsimp only
  split <;> rfl

theorem loadBlock_active (s : State) (args : List Word) : (loadBlock s args).1.plan.active = s.plan.active := by
  unfold loadBlock
  dsimp only
  split
  · rfl
  · split
    · rfl
    · split <;> rfl

/-! ### The plan image, R181, R187 -/

theorem Image.sound_passes {α : Type} {x : Image α} {test : α → Bool} {c : α} (h : x.sound test = some c) :
    test c = true := by
  unfold Image.sound at h
  split at h
  · cases h
  · split at h
    · next hc => cases h; simp_all
    · cases h

theorem PlanBlock.sound_withActive {b : PlanBlock} {x : Bank} (h : b.sound = true) (hx : x.sound = true) :
    ({ b with active := x } : PlanBlock).sound = true := by
  obtain ⟨-, hst, hv, hsess⟩ := b.sound_iff.mp h
  exact (PlanBlock.sound_iff _).mpr ⟨hx, hst, hv, ⟨hsess.closed, hsess.loading, hsess.counted⟩⟩

theorem State.loadPlan_sound {s : State} (h : s.plan.sound = true) : s.loadPlan.plan.sound = true := by
  unfold State.loadPlan
  split
  · exact PlanBlock.sound_withActive (b := s.plan) h (by decide)
  · next es he => exact PlanBlock.sound_withActive (b := s.plan) h (Bank.sound_ofEntries (Image.sound_passes he))

end Sys2Proof.Machine
end

section
/-! The invariant of start-up, the plan tables and what a node past NUMBERED holds (O58): R58, R73, R121, R123, R178, R186. -/

namespace Sys2Proof.Machine

/-! ### Start-up -/

/-- Start-up as the spec gives it, kept by what leaves the phase, the faces, the channels and what start-up fixes of the node and
the line. -/
theorem State.startUpOk_of_blocks {s t : State} (h : s.startUpOk = true) (hp : t.phase = s.phase)
    (he : s.phase.early = true → t.faces = s.faces ∧ t.elem = s.elem) (hu : s.unserved = true → t.unserved = true) :
    t.startUpOk = true := by
  cases hq : s.phase with
  | running => exact State.startUpOk_running (hp.trans hq)
  | relighting a b =>
    rw [State.startUpOk_relighting hq] at h
    rw [State.startUpOk_relighting (hp.trans hq)]
    exact hu h
  | held | settling =>
    have hearly : s.phase.early = true := by rw [hq]; rfl
    obtain ⟨hf, hel⟩ := he hearly
    rw [State.startUpOk_early hearly] at h
    rw [State.startUpOk_early (hp ▸ hearly), hf, hel]
    exact h.imp id (And.imp id hu)

/-- Before the part runs no frame is served. -/
theorem State.unserved_of_startUpOk {s : State} (h : s.startUpOk = true) (hp : s.phase ≠ .running) : s.unserved = true := by
  cases hq : s.phase <;> simp_all [State.startUpOk]

/-- Once a channel acts, faces and channels are not start-up's. -/
theorem State.startUpOk_of_awake {s t : State} (h : s.startUpOk = true) (ha : s.Awake) (hp : t.phase = s.phase)
    (hu : s.unserved = true → t.unserved = true) : t.startUpOk = true :=
  State.startUpOk_of_blocks h hp (fun he => absurd ((State.startUpOk_early he).mp h).2.1 (ha he)) hu

/-- A cause on a part that does not run is recorded on an unnumbered node, R63. -/
theorem State.arise_startUpOk {s : State} (h : s.startUpOk = true) (c : Cause) : (s.arise c).startUpOk = true := by
  by_cases hp : s.phase = .running
  · exact State.startUpOk_running (by simpa using hp)
  · have hu := (State.unserved_iff _).mp (State.unserved_of_startUpOk h hp)
    have he : s.arise c = s.setNode (s.node.addCause c) := by simp [State.arise, hu.1]
    rw [he]
    exact State.startUpOk_of_blocks h rfl (fun _ => ⟨rfl, rfl⟩) id

theorem State.nodeTests_startUpOk {s : State} (h : s.startUpOk = true) : s.nodeTests.startUpOk = true := by
  by_cases hp : s.phase = .running
  · exact State.startUpOk_running (by simpa using hp)
  · have hu := (State.unserved_iff _).mp (State.unserved_of_startUpOk h hp)
    have he : s.nodeTests = s := by simp [State.nodeTests, hu.1]
    rwa [he]

theorem State.setPhase_startUpOk {s : State} {ph : Phase} (h : s.startUpOk = true) (hph : s.phase.Leads ph) :
    (s.setPhase ph).startUpOk = true := by
  cases hs : s.phase <;> cases ph <;> simp_all [Phase.Leads, State.startUpOk, State.unserved]

/-! ### The invariant -/

/-- A node past NUMBERED, which a COMMISSION has taken there, R73. -/
def NodeState.commissioned : NodeState → Bool
  | .unnumbered => false
  | .numbered => false
  | .standby => true
  | .service => true
  | .held => true
  | .failsafe => true
  | .maintenance => true

/-- Start-up and the plan tables as the spec gives them; past NUMBERED a valid site record and an entry in ACTIVE. -/
structure State.SiteTable (s : State) : Prop where
  startUp : s.startUpOk = true
  plan    : s.plan.sound = true
  served  : s.node.state.commissioned = true → s.store.site.valid = true ∧ s.plan.active.entries ≠ []

theorem State.siteTable_iff (s : State) : s.SiteTable ↔
    s.startUpOk = true ∧ s.plan.sound = true ∧ s.siteOk = true ∧ s.tableOk = true := by
  have hsite : s.siteOk = true ↔ (s.node.state.commissioned = true → s.store.site.valid = true) := by
    cases hs : s.node.state <;> simp [State.siteOk, NodeState.commissioned, hs]
  have htable : s.tableOk = true ↔ (s.node.state.commissioned = true → s.plan.active.entries ≠ []) := by
    cases hs : s.node.state <;> simp [State.tableOk, NodeState.commissioned, hs]
  rw [hsite, htable, ← forall_and]
  exact ⟨fun ⟨hu, hp, hc⟩ => ⟨hu, hp, hc⟩, fun ⟨hu, hp, hc⟩ => ⟨hu, hp, hc⟩⟩

namespace State.SiteTable

variable {s t : State}

theorem uncommissioned (h : s.SiteTable) (hp : s.phase ≠ .running) : s.node.state.commissioned = false := by
  rw [((State.unserved_iff _).mp (State.unserved_of_startUpOk h.startUp hp)).1]
  rfl

/-- What keeps start-up, the tables and the site record and takes no node past NUMBERED. -/
theorem of_record (h : s.SiteTable) (hu : t.startUpOk = true) (hp : t.plan = s.plan)
    (hv : t.store.site.valid = s.store.site.valid)
    (hn : t.node.state.commissioned = true → s.node.state.commissioned = true) : t.SiteTable where
  startUp := hu
  plan := by rw [hp]; exact h.plan
  served hc := by rw [hv, hp]; exact h.served (hn hc)

/-- On a running part start-up asks nothing. -/
theorem of_running (h : s.SiteTable) (hr : t.phase = .running) (hp : t.plan = s.plan)
    (hv : t.store.site.valid = s.store.site.valid)
    (hn : t.node.state.commissioned = true → s.node.state.commissioned = true) : t.SiteTable :=
  h.of_record (State.startUpOk_running hr) hp hv hn

theorem line {l : LineBlock} (h : s.SiteTable) (hl : s.MayRoute l) : (s.setLine l).SiteTable := by
  refine h.of_record ?_ rfl rfl id
  rcases hl with hr | ⟨hrole, hw⟩
  · exact State.startUpOk_running hr
  · refine State.startUpOk_of_blocks h.startUp rfl (fun _ => ⟨rfl, rfl⟩) fun hu => ?_
    obtain ⟨hn, hr, hwait⟩ := (State.unserved_iff _).mp hu
    exact (State.unserved_iff _).mpr ⟨hn, hrole.trans hr, hw hwait⟩

theorem faces (h : s.SiteTable) (ha : s.Awake) (hf : s.FacesOnly t) : t.SiteTable := by
  refine h.of_record (State.startUpOk_of_awake h.startUp ha hf.phase fun hu => ?_) hf.plan (by rw [hf.store])
    (by rw [hf.node]; exact id)
  rwa [State.unserved_congr (s := s) (by rw [hf.node]) (by rw [hf.line]) (by rw [hf.line])]

theorem nodeTests (h : s.SiteTable) : s.nodeTests.SiteTable := by
  refine h.of_record (State.nodeTests_startUpOk h.startUp) (by simp) (by simp) ?_
  unfold State.nodeTests
  split
  · next hc =>
    have hs : s.node.state = .service := by simp_all
    exact fun _ => by rw [hs]; rfl
  · split
    · next hc =>
      have hs : s.node.state = .maintenance := by simp_all
      exact fun _ => by rw [hs]; rfl
    · exact id

/-- A cause takes a node to FAILSAFE from the states past NUMBERED alone, R63. -/
theorem arise (h : s.SiteTable) (c : Cause) : (s.arise c).SiteTable := by
  refine h.of_record (State.arise_startUpOk h.startUp c) (by simp) (by simp) fun hc => ?_
  cases hs : s.node.state
  case unnumbered | numbered => simp [State.arise, NodeRecord.addCause, hs, NodeState.commissioned] at hc
  all_goals rfl

theorem phase {ph : Phase} (h : s.SiteTable) (hph : s.phase.Leads ph) : (s.setPhase ph).SiteTable :=
  h.of_record (State.setPhase_startUpOk h.startUp hph) rfl rfl id

theorem heard (h : s.SiteTable) (hr : s.phase = .running) : s.heard.SiteTable := by
  unfold State.heard
  split
  case h_2 hs => exact h.of_running hr rfl rfl fun _ => by rw [hs]; rfl
  all_goals exact h.of_running hr rfl rfl id

/-! ### Numbering, R70 -/

theorem takeAddress_commissioned {n : NodeRecord} {c : Nat} (h : (n.takeAddress c).state.commissioned = true) :
    n.state.commissioned = true := by
  cases hs : n.state
  case unnumbered | numbered => simp [NodeRecord.takeAddress, hs, NodeState.commissioned] at h
  all_goals rfl

theorem loseAddress_commissioned {n : NodeRecord} (h : n.loseAddress.state.commissioned = true) :
    n.state.commissioned = true := by
  cases hs : n.state
  case unnumbered | numbered => simp [NodeRecord.loseAddress, hs, NodeState.commissioned] at h
  all_goals rfl

theorem setFault {x : FaultBlock} (h : s.SiteTable) : (s.setFault x).SiteTable :=
  h.of_record (State.startUpOk_of_blocks h.startUp rfl (fun _ => ⟨rfl, rfl⟩) id) rfl rfl id

theorem misplaced (h : s.SiteTable) : s.misplaced.SiteTable := by
  have hl : (s.latch .position).SiteTable := h.setFault
  unfold State.misplaced
  dsimp only
  split
  · exact hl.arise _
  · exact hl.arise _
  all_goals exact hl

theorem enumerated (h : s.SiteTable) (hr : s.phase = .running) (c : Nat) : (s.enumerated c).SiteTable := by
  have htake (b : Bool) : (s.setNode { s.node.takeAddress c with positionAgrees := b }).SiteTable :=
    h.of_running hr rfl rfl takeAddress_commissioned
  have hlose : (s.setNode { s.node.loseAddress with positionAgrees := false }).SiteTable :=
    h.of_running hr rfl rfl loseAddress_commissioned
  unfold State.enumerated
  split
  · split
    · split
      · exact htake true
      · exact (htake false).misplaced
    · exact hlose.misplaced
  · split
    · exact htake false
    · exact hlose.setFault

/-- The relight of start-up, R186: the node is unnumbered still, and a valid plan image is a sound bank. -/
theorem settled (h : s.SiteTable) (hp : s.phase = .settling) :
    (((s.loadAll.setPhase (.relighting false false)).relight .e).relight .w).SiteTable := by
  have hu := State.unserved_of_startUpOk h.startUp (by simp [hp])
  have hload : (s.loadAll.setPhase (.relighting false false)).SiteTable :=
    { startUp := by
        rw [State.startUpOk_relighting rfl]
        rwa [State.unserved_congr (s := s) (by simp) (by simp) (by simp)]
      plan := by
        have hpl := State.loadPlan_sound (s := s.loadIdentity.loadCalibration.loadSite.loadConfigs) (by simpa using h.plan)
        simpa [State.loadAll] using hpl
      served := fun hc => by
        rw [State.setPhase_node, State.loadAll_node, h.uncommissioned (by simp [hp])] at hc
        cases hc }
  have hawake : (s.loadAll.setPhase (.relighting false false)).Awake := fun he => by cases he
  exact hload.faces hawake ((State.FacesOnly.relight _ .e).trans (.relight _ .w))

end State.SiteTable

/-! ### Commands -/

/-- A plan command that keeps the tables sound and empties no ACTIVE. -/
theorem PlanEffect.siteTable {effect : Effect} (he : PlanEffect effect) {c : Cmd}
    (hk : ∀ (s : State) args, s.plan.sound = true → args.length = c.row.args → (effect s args).1.plan.sound = true ∧
      (s.plan.active.entries ≠ [] → (effect s args).1.plan.active.entries ≠ [])) :
    EffectHolds State.SiteTable c effect := by
  intro s args h hr _ hargs
  obtain ⟨hsound, hne⟩ := hk s args h.plan hargs
  obtain ⟨x, hx⟩ := he s args
  rw [hx] at hsound hne ⊢
  exact ⟨State.startUpOk_running hr, hsound, fun hc => (h.served hc).imp id hne⟩

theorem commission_siteTable : EffectHolds State.SiteTable .commission commission := by
  intro s args h hr _ _
  unfold commission
  split
  · exact h
  · next hc =>
    have hvalid : s.store.site.valid = true := by
      unfold State.commissionRefusal at hc
      grind
    have hne : s.plan.active.entries ≠ [] := by
      unfold State.commissionRefusal at hc
      grind
    exact ⟨State.startUpOk_running hr, h.plan, fun _ => ⟨hvalid, hne⟩⟩

theorem enterService_siteTable : EffectHolds State.SiteTable .enterService enterService := by
  intro s args h hr hs _
  have hs : s.node.state = .standby := States.standbyOnly_has.mp hs
  unfold enterService
  (repeat' split)
  · exact h
  · exact h
  · exact h.of_running hr rfl rfl fun _ => by rw [hs]; rfl

theorem leaveService_siteTable : EffectHolds State.SiteTable .leaveService leaveService := by
  intro s args h hr _ _
  have hset : (s.setNode { s.node with leaving := true }).SiteTable := h.of_running hr rfl rfl id
  exact hset.nodeTests

theorem release_siteTable (ms : Nat) : EffectHolds State.SiteTable .release (release ms) := by
  intro s args h hr _ _
  unfold release
  dsimp only
  split
  · split
    · next hf => exact h.of_running hr rfl rfl fun _ => by rw [show s.node.state = .failsafe from hf]; rfl
    · exact h.of_running hr rfl rfl id
  · exact h.of_running hr rfl rfl id

theorem maintain_siteTable : EffectHolds State.SiteTable .maintain maintain := by
  intro s args h hr hs _
  have hs : s.node.state = .standby := States.standbyOnly_has.mp hs
  exact h.of_running hr rfl rfl fun _ => by rw [hs]; rfl

/-! ### Every command of the table -/

theorem siteTable_invariant : Invariant State.SiteTable where
  line h hl := h.line hl
  fault h := h.setFault
  sweep h := h.of_record (State.startUpOk_of_blocks h.startUp rfl (fun _ => ⟨rfl, rfl⟩) id) rfl rfl id
  poss h := h.of_record (State.startUpOk_of_blocks h.startUp rfl (fun _ => ⟨rfl, rfl⟩) id) rfl rfl id
  store h hv := h.of_record (State.startUpOk_of_blocks h.startUp rfl (fun _ => ⟨rfl, rfl⟩) id) rfl hv id
  sup h _ _ := h.of_record (State.startUpOk_of_blocks h.startUp rfl (fun _ => ⟨rfl, rfl⟩) id) rfl rfl id
  faces h ha hf := h.faces ha hf
  nodeTests h := h.nodeTests
  arise h := h.arise _
  phase h hph := h.phase hph
  reset {s c ph} := ⟨(State.doReset_facesInv s c ph).2, rfl, nofun⟩
  heard h hr := h.heard hr
  enumerated h hr := h.enumerated hr _
  tHold {s x n} h hs _ := by
    have hr : s.phase = .running := by
      by_contra hp
      have hc := h.uncommissioned hp
      rw [hs] at hc
      cases hc
    exact h.of_running hr rfl rfl fun _ => by rw [hs]; rfl
  resetCause h := h.of_record (State.startUpOk_of_blocks h.startUp rfl (fun _ => ⟨rfl, rfl⟩) id) rfl rfl id
  settled h hp := h.settled hp
  site h hr := ⟨State.startUpOk_running hr, h.plan, fun hc => ⟨rfl, (h.served hc).2⟩⟩
  loadBegin := loadBegin_plan.siteTable fun s args hp _ => ⟨loadBegin_sound hp args, by rw [loadBegin_active]; exact id⟩
  loadBlock := loadBlock_plan.siteTable fun s args hp hargs => ⟨loadBlock_sound hp hargs, by rw [loadBlock_active]; exact id⟩
  loadEnd := loadEnd_plan.siteTable fun _ args hp _ => loadEnd_sound hp args
  swap := swap_plan.siteTable fun _ args hp _ => swap_sound hp args
  commission := commission_siteTable
  enterService := enterService_siteTable
  leaveService := leaveService_siteTable
  release := release_siteTable _
  maintain := maintain_siteTable
  ending h hr _ := h.of_running hr rfl rfl id

/-- Settles O58: the invariant of start-up, plan tables and site record, which every command keeps. COMMISSION alone takes a node
past NUMBERED; no load or SWAP empties an ACTIVE bank, and only a reset, which leaves the node unnumbered, ends a valid site
record. -/
theorem servedNodesKeepSiteAndTable : Obligations.ServedNodesKeepSiteAndTable := by
  unfold Obligations.ServedNodesKeepSiteAndTable
  intro s t ht hu hp hs htab
  have hq (q : List Instr) {u : State} (h : u.SiteTable) : (u.setPending q).SiteTable :=
    h.of_record (State.startUpOk_of_blocks h.startUp rfl (fun _ => ⟨rfl, rfl⟩) id) rfl rfl id
  exact t.siteTable_iff.mp
    (siteTable_invariant.step (fun q => hq q) (s.siteTable_iff.mpr ⟨hu, hp, hs, htab⟩) ht)

end Sys2Proof.Machine
end

section
/-! Resets, the CLOSEALL and the state commands COMMISSION, ENTER_SERVICE and LEAVE_SERVICE (R72-R75, R77-R80, R159). -/

namespace Sys2Proof.Machine

/-! ### Resets, R79, R80, R159 -/

theorem execSupplyDipReset_runs {s : State} {mv : Nat} (h : s.phase ≠ .held) (hmv : mv < 16000) :
    execSupplyDipReset mv s = .next (s.doReset (if mv < 8000 then .powerOn else .supplyDip) .held) := by
  have hr : s.runs = true := by simpa [State.runs] using h
  rw [execSupplyDipReset, if_pos (show mv < dipThreshold from hmv), if_pos hr]
  rfl

/-- A held part records a supply below 8.0 V alone, R159. -/
theorem execSupplyDipReset_held {s : State} (h : s.phase = .held) (mv : Nat) :
    execSupplyDipReset mv s = .next (if mv < 8000 then s.setNode { s.node with resetCause := .powerOn } else s) := by
  have hr : ¬ s.runs = true := by simp [State.runs, h]
  rw [execSupplyDipReset, if_neg hr, show logicThreshold = 8000 from rfl, show dipThreshold = 16000 from rfl]
  by_cases hmv : mv < 8000
  · rw [if_pos hmv, if_pos hmv, if_pos (by omega)]
  · rw [if_neg hmv, if_neg hmv, ite_self]

theorem execResetEnd_held {s : State} (h : s.phase = .held) (mv : Nat) :
    execResetEnd mv s = .next (if 18000 ≤ mv then s.setPhase .settling else s) := by
  by_cases hmv : 18000 ≤ mv <;> simp [execResetEnd, State.runs, h, resetEndThreshold, hmv]

theorem execResetEnd_runs {s : State} (h : s.phase ≠ .held) (mv : Nat) : execResetEnd mv s = .next s := by
  simp [execResetEnd, State.runs, h]

/-- The departure of a frame a commanded reset waits for, R50, R59, R79. -/
theorem execFrameSent_reset {s : State} {p : Port} {x : QueuedFrame} {rest : List QueuedFrame}
    (hq : s.line.queue p = x :: rest) (hx : x.carriesReset = true) :
    execFrameSent p s = .next (s.doReset .commanded .settling) := by
  unfold execFrameSent
  rw [hq]
  dsimp only
  rw [if_pos hx]
  exact congrArg Host.Outcome.next (State.doReset_congr rfl rfl _ _)

/-- Settles O3: every value is read off the reset state; the three commands that bring a reset about and the end of a reset are
followed through their tests of voltage, phase and queue. -/
theorem anyResetLeavesTheStatedValues : Obligations.AnyResetLeavesTheStatedValues := by
  unfold Obligations.AnyResetLeavesTheStatedValues
  constructor
  · intro s c ph mv p x rest
    refine ⟨?_, rfl, fun hmv hp => execSupplyDipReset_runs hp hmv, execFrameSent_reset⟩
    exact ⟨rfl, rfl, rfl, rfl, rfl, rfl, rfl, rfl, rfl, rfl, rfl, rfl, rfl, rfl, rfl, rfl, rfl⟩
  · intro s mv
    refine ⟨fun hp => ⟨fun hmv => ?_, fun hmv => ?_, fun hmv => ?_, fun hmv => ?_⟩, fun hp => execResetEnd_runs hp mv⟩
    · exact (execResetEnd_held hp mv).trans (by rw [if_pos hmv]; rfl)
    · exact (execResetEnd_held hp mv).trans (by rw [if_neg (by omega)])
    · exact (execSupplyDipReset_held hp mv).trans (by rw [if_pos hmv]; rfl)
    · exact (execSupplyDipReset_held hp mv).trans (by rw [if_neg (by omega)])

/-! ### CLOSEALL, R72 -/

/-- A pass of a CLOSEALL leaves the role and the phase, so that the frame goes on as its port and the role say. -/
theorem exec_closeall_a {s : State} {x : Payload} (hp : s.phase = .running) (hx : x.wf = true) :
    exec (.closeall .a x) s = .next (if s.line.role = .through then
      ((s.received .a).arise .closeAll).join .b .a (payloadFrame x kindCloseall .a)
      else (((s.received .a).arise .closeAll).arise .closeAll).join .a .a
        { payloadFrame x kindCloseall .a with pass := .ret }) := by
  show Host.Outcome.next (s.receiveA _ _ _) = _
  rw [State.receiveA_running hp (by simpa using hx)]
  by_cases hr : s.line.role = .through <;>
    simp [State.processA, State.closeAll, hp, hr, LineRole.isEnd_iff]

theorem exec_closeall_b {s : State} {x : Payload} (hp : s.phase = .running) (hx : x.wf = true)
    (hr : s.line.role = .through) : exec (.closeall .b x) s =
      .next (((s.received .b).arise .closeAll).join .a .b (payloadFrame x kindCloseall .b)) := by
  show Host.Outcome.next (s.receiveB _ _) = _
  rw [State.receiveB_running hp (by simpa using hx) (by simp [hr, LineRole.isEnd])]
  rfl

/-- Settles O15: the one pass in THROUGH and the two at an end node, by the role. -/
theorem closeAllActsOnEveryPass : Obligations.CloseAllActsOnEveryPass := by
  unfold Obligations.CloseAllActsOnEveryPass
  intro s x hp hx
  refine ⟨fun hr => ⟨?_, exec_closeall_b hp hx hr⟩, fun hr => ?_⟩
  · rw [exec_closeall_a hp hx, if_pos hr]
  · rw [exec_closeall_a hp hx, if_neg hr]

/-! ### COMMISSION, R73 -/

theorem CauseSet.isEmpty_iff (c : CauseSet) : c.isEmpty = true ↔ c = ⟨false, false, false, false, false⟩ := by
  cases c
  simp [CauseSet.isEmpty, and_assoc]

/-- The five checks of R73 read the site record, ACTIVE and the node record. -/
theorem State.commissionRefusal_congr {s t : State} (hst : s.store = t.store) (hp : s.plan = t.plan)
    (hn : s.node = t.node) : s.commissionRefusal = t.commissionRefusal := by
  simp [State.commissionRefusal, State.laneType, hst, hp, hn]

/-- The first failing check of R73 as the sentence names it: with a valid site record the lane type is the working one. -/
theorem State.commissionRefusal_eq (s : State) : s.commissionRefusal =
    if s.store.site.valid = false then some .position
    else if s.store.site.laneType = .none then some .vote
    else if s.plan.active.entries = [] then some .noTable
    else if s.node.positionAgrees = false then some .position
    else if s.node.causes ≠ ⟨false, false, false, false, false⟩ then some .stateCause
    else none := by
  cases hv : s.store.site.valid <;>
    simp [State.commissionRefusal, State.laneType, hv, ← CauseSet.isEmpty_iff]

theorem commission_refused {s : State} {why : Reject} (h : s.commissionRefusal = some why) (args : List Word) :
    commission s args = (s, .refused why []) := by simp [commission, h]

theorem commission_done {s : State} (h : s.commissionRefusal = none) (args : List Word) :
    commission s args = (s.enterStandby, .done []) := by simp [commission, h]

theorem commission_phase (s : State) (args : List Word) : (commission s args).1.phase = s.phase := by
  unfold commission
  split <;> rfl

/-- Settles O26: the reply is the first failing check's, by the five checks in order; with none failing the node enters
STANDBY. -/
theorem commissionTestsInOrder : Obligations.CommissionTestsInOrder := by
  unfold Obligations.CommissionTestsInOrder
  intro s x h
  have hrun := State.running_of_executes h
  show Host.Outcome.next (s.command .commission x commission) = _
  rw [State.command_executes h (by decide) commission (by rw [commission_phase]; simpa using hrun)]
  have href : (s.handed .commission).commissionRefusal = _ :=
    (State.commissionRefusal_congr (by simp) (by simp) (by simp)).trans s.commissionRefusal_eq
  split_ifs at href ⊢
  case neg => rw [commission_done href]; simp [State.enterStandby_eq]
  all_goals rw [commission_refused href]

/-! ### ENTER_SERVICE and LEAVE_SERVICE, R74, R75 -/

theorem enterService_phase (s : State) (args : List Word) : (enterService s args).1.phase = s.phase := by
  unfold enterService
  (repeat' split) <;> rfl

theorem leaveService_phase (s : State) (args : List Word) : (leaveService s args).1.phase = s.phase := by
  simp [leaveService]

theorem exec_enterService {s : State} {x : CommandPayload} (h : s.executes .enterService x = true) :
    exec (.enterService x) s = .next (
      if s.node.positionAgrees = false then (s.handed .enterService).sendReply .enterService x (.refused .position [])
      else if s.plan.active.entries = [] then
        (s.handed .enterService).sendReply .enterService x (.refused .noTable [])
      else ((s.handed .enterService).enterService).sendReply .enterService x (.done [])) := by
  have hrun := State.running_of_executes h
  show Host.Outcome.next (s.command .enterService x enterService) = _
  rw [State.command_executes h (by decide) enterService (by rw [enterService_phase]; simpa using hrun)]
  cases ha : s.node.positionAgrees <;> by_cases he : s.plan.active.entries = [] <;> simp [enterService, ha, he]

theorem exec_leaveService {s : State} {x : CommandPayload} (h : s.executes .leaveService x = true) :
    exec (.leaveService x) s =
      .next ((((s.handed .leaveService).setNode { s.node with leaving := true }).nodeTests).sendReply .leaveService x
        (.done [])) := by
  have hrun := State.running_of_executes h
  show Host.Outcome.next (s.command .leaveService x leaveService) = _
  rw [State.command_executes h (by decide) leaveService (by rw [leaveService_phase]; simpa using hrun)]
  simp [leaveService]

theorem State.bothClosed_iff (s : State) : s.bothClosed = true ↔ s.faces.e.state = .steady ∧ s.faces.e.shown = .closed ∧
    s.faces.w.state = .steady ∧ s.faces.w.shown = .closed := by
  simp [State.bothClosed, FaceRecord.steadyClosed, and_assoc]

theorem State.nothingPending_iff (s : State) :
    s.nothingPending = true ↔ s.faces.e.pending = none ∧ s.faces.w.pending = none := by
  simp [State.nothingPending]

/-- The node's tests, R75, R77. -/
theorem State.nodeTests_standby {s : State}
    (h : (s.node.state = .service ∧ s.node.leaving = true ∧ s.bothClosed = true ∧ s.nothingPending = true) ∨
      (s.node.state = .maintenance ∧ s.node.ending = true ∧ s.bothClosed = true)) : s.nodeTests = s.enterStandby := by
  rcases h with ⟨hs, hl, hb, hn⟩ | ⟨hs, he, hb⟩
  · simp [State.nodeTests, hs, hl, hb, hn]
  · simp [State.nodeTests, hs, he, hb]

theorem State.nodeTests_keep {s : State}
    (hs : ¬(s.node.state = .service ∧ s.node.leaving = true ∧ s.bothClosed = true ∧ s.nothingPending = true))
    (hm : ¬(s.node.state = .maintenance ∧ s.node.ending = true ∧ s.bothClosed = true)) : s.nodeTests = s := by
  unfold State.nodeTests
  rw [if_neg (by simpa [and_assoc] using hs), if_neg (by simpa [and_assoc] using hm)]

/-- LEAVE_SERVICE is accepted in SERVICE and HELD, R66. -/
theorem State.service_of_executes {s : State} {x : CommandPayload} (h : s.executes .leaveService x = true) :
    s.node.state = .service ∨ s.node.state = .held := by
  simp only [State.executes, Bool.and_eq_true] at h
  obtain ⟨⟨⟨-, hs⟩, -⟩, -⟩ := h
  revert hs
  cases s.node.state <;> decide

/-- Settles O27: ENTER_SERVICE by its two checks, LEAVE_SERVICE by the leaving test on the node with its flag set, and the node's
tests by their two conditions. -/
theorem serviceIsEnteredAndLeft : Obligations.ServiceIsEnteredAndLeft := by
  unfold Obligations.ServiceIsEnteredAndLeft
  refine ⟨fun s x h => ?_, fun s x h => ?_, fun s => ?_⟩
  · rw [exec_enterService h]
    refine ⟨fun ha => by simp [ha], fun ha he => by simp [ha, he], fun ha he => ?_⟩
    simp [ha, he, State.enterService, State.setNode, State.setSup, State.tHold, defaultTHold]
  · rw [exec_leaveService h]
    have hb : ((s.handed .leaveService).setNode { s.node with leaving := true }).bothClosed = s.bothClosed := by
      simp [State.bothClosed]
    have hn : ((s.handed .leaveService).setNode { s.node with leaving := true }).nothingPending = s.nothingPending := by
      simp [State.nothingPending]
    refine ⟨fun hstay => ?_, fun hs hbc hnp => ?_⟩
    · rw [State.nodeTests_keep]
      · rfl
      · rw [hb, hn]
        rintro ⟨hs, -, hbc, hnp⟩
        simp_all
      · rintro ⟨hm, -⟩
        rcases State.service_of_executes h with hs | hs <;> simp_all
    · rw [State.nodeTests_standby (s := (s.handed .leaveService).setNode { s.node with leaving := true })
        (.inl ⟨hs, rfl, hb.trans hbc, hn.trans hnp⟩)]
      simp [State.enterStandby_eq, State.setNode]
  · exact ⟨s.bothClosed_iff, s.nothingPending_iff, State.nodeTests_standby, State.nodeTests_keep⟩

end Sys2Proof.Machine
end

section
/-! Judgement (R64-R67), RESET (R79) and ENUMERATE (R70): what leaves the node and what it is left as. -/

namespace Sys2Proof.Machine

/-! ### Judgement -/

/-- A command frame on a running part leaves as its judgement leaves it, R52, R67. -/
theorem State.command_judged {s u : State} {c : Cmd} {x : CommandPayload} {effect : Effect} {g : Frame}
    (hp : s.phase = .running) (hx : x.wf = true)
    (hj : (s.received .a).judge c x.target effect (commandFrame (BitVec.ofNat 8 c.row.code) x) = (u, g))
    (hu : u.phase = .running) : s.command c x effect = u.sendA g := by
  unfold State.command
  rw [State.receiveA_running hp (by simpa using hx), State.processA_unchanged (by rw [hj]; exact hu), hj]

/-- A REPLY word is taken in an addressed command where it is not 0, R65. -/
theorem replyTaken_iff {target : BitVec 8} {body : List Word} :
    replyTaken target body = true ↔ target ≠ 0 ∧ body.getLastD 0 ≠ 0 := by
  simp [replyTaken, replyWord]

theorem replyTaken_eq_false {target : BitVec 8} {body : List Word} (h : target = 0 ∨ body.getLastD 0 = 0) :
    replyTaken target body = false := by
  rw [← Bool.not_eq_true, replyTaken_iff]
  rintro ⟨ht, hb⟩
  exact h.elim ht hb

section
variable {s : State} {c : Cmd} {x : CommandPayload} (effect : Effect) (hp : s.phase = .running) (hx : x.wf = true)
include hp hx

theorem State.command_notConcerned (h : s.concernedBy x.target = false) :
    s.command c x effect = (s.received .a).sendA (commandFrame (BitVec.ofNat 8 c.row.code) x) :=
  State.command_judged hp hx (by simp [State.judge, State.verdict, State.concernedBy_received, h]) hp

theorem State.command_clash (h : s.concernedBy x.target = true) (ht : replyTaken x.target x.body = true) :
    s.command c x effect = ((s.received .a).latch .position).sendA (commandFrame (BitVec.ofNat 8 c.row.code) x) :=
  State.command_judged hp hx
    (by simp [State.judge, State.verdict, State.concernedBy_received, h, commandFrame, ht]) hp

theorem State.command_silent (h : s.concernedBy x.target = true) (ht : replyTaken x.target x.body = false)
    (hs : c.row.states.has s.node.state = false) :
    s.command c x effect = ((s.received .a).latch .illegal).sendA (commandFrame (BitVec.ofNat 8 c.row.code) x) :=
  State.command_judged hp hx
    (by simp [State.judge, State.verdict, State.concernedBy_received, h, commandFrame, ht, hs]) hp

/-- A form the command is not sent in, or a result area too small, R64, R66. -/
theorem State.command_refused (h : s.concernedBy x.target = true) (ht : replyTaken x.target x.body = false)
    (hs : c.row.states.has s.node.state = true)
    (hf : c.row.form.allows x.target = false ∨ c.roomFor x.target x.body = false) :
    s.command c x effect = (s.received .a).sendReply c x (.refused .argument []) := by
  refine State.command_judged hp hx ?_ hp
  cases ha : c.row.form.allows x.target
  · simp [State.judge, State.verdict, State.concernedBy_received, h, commandFrame, ht, hs, ha]
  · have hr := hf.resolve_left (by simp [ha])
    simp [State.judge, State.verdict, State.concernedBy_received, h, commandFrame, ht, hs, ha, hr]

end

/-- A command silent at step 1 or 2 of R67, UNDEFINED_COMMAND's row. -/
theorem exec_undefinedCommand {s : State} {code : BitVec 8} {x : CommandPayload} (hp : s.phase = .running)
    (hx : x.wf = true) (hc : (Cmd.ofCode code).all (fun c => !c.row.states.has s.node.state) = true) :
    exec (.undefinedCommand code x) s = .next
      (((s.received .a).judgeSilent x.target (commandFrame code x)).1.sendA (commandFrame code x)) := by
  have hphase : ((s.received .a).judgeSilent x.target (commandFrame code x)).1.phase = .running := by
    unfold State.judgeSilent
    (repeat' split) <;> exact hp
  have hframe : ((s.received .a).judgeSilent x.target (commandFrame code x)).2 = commandFrame code x := by
    unfold State.judgeSilent
    (repeat' split) <;> rfl
  have hrow : s.receiveA (commandFrame code x) (fun t f => t.judgeSilent x.target f) unchanged =
      (((s.received .a).judgeSilent x.target (commandFrame code x)).1.sendA (commandFrame code x)) := by
    rw [State.receiveA_running hp (by simpa using hx), State.processA_unchanged hphase]
    exact congrArg _ hframe
  show execUndefinedCommand code x s = _
  unfold execUndefinedCommand
  split
  · rw [hrow]
  · next c he =>
    rw [he] at hc
    rw [if_neg (by simpa using hc), hrow]

theorem Cmd.keepsSequence_iff (c : Cmd) : c.keepsSequence = true ↔
    c ∈ [Cmd.readIdentity, .readSite, .readStatus, .readFace, .readChannel, .readPlan, .readLocks, .readCounters,
      .possFrom, .possTo, .possExcept, .possApply, .possLift] := by
  cases c <;> decide

/-- Settles O16: the tests of R67 in their order, for a command of the table and for one that is not; step 5 by R140. -/
theorem commandsAreJudgedInOrder : Obligations.CommandsAreJudgedInOrder := by
  unfold Obligations.CommandsAreJudgedInOrder
  refine ⟨fun s i c x hi hp hx => ?_, fun s code x hp hx hc => ?_, fun s c => ?_⟩
  · rw [exec_command hi]
    refine ⟨fun h => ?_, fun h ht hb => ?_, fun h ht => ⟨fun hs => ?_, fun hs hf => ?_⟩⟩
    · rw [State.command_notConcerned _ hp hx h]
    · rw [State.command_clash _ hp hx h (replyTaken_iff.mpr ⟨ht, hb⟩)]
    · rw [State.command_silent _ hp hx h (replyTaken_eq_false ht) hs]
    · rw [State.command_refused _ hp hx h (replyTaken_eq_false ht) hs hf]
  · rw [exec_undefinedCommand hp hx hc]
    refine ⟨fun h ht => ?_, fun h ht hb => ?_, fun h => ?_⟩
    · have ht := replyTaken_eq_false ht
      simp [State.judgeSilent, State.concernedBy_received, h, commandFrame, ht]
    · have ht := replyTaken_iff.mpr ⟨ht, hb⟩
      simp [State.judgeSilent, State.concernedBy_received, h, commandFrame, ht]
    · simp [State.judgeSilent, State.concernedBy_received, h]
  · rw [← c.keepsSequence_iff]
    refine ⟨fun h => ?_, fun hc hs => ?_⟩
    · rw [State.handed, State.abandonSequence, if_pos (by simpa using h)]
    · rw [State.handed, State.abandonSequence, if_neg (by simp [hc, hs])]
      rfl

/-! ### RESET, R79 -/

/-- A RESET is answered DONE, and its frame marked where no RESET waits already. -/
theorem exec_reset {s : State} {x : CommandPayload} (h : s.executes .reset x = true) (hw : s.line.resetWaits = false) :
    exec (.reset x) s = .next ((s.handed .reset).sendA
      { (commandFrame 0x36#8 x).answered .reset x.target s.node.address (.done []) with carriesReset := true }) := by
  have hrun := State.running_of_executes h
  have hx : x.wf = true := by
    simp only [State.executes, Bool.and_eq_true] at h
    obtain ⟨⟨⟨⟨⟨⟨-, hx⟩, -⟩, -⟩, -⟩, -⟩, -⟩ := h
    exact hx
  have hv := State.verdict_executes h
  show Host.Outcome.next (s.command .reset x resetCommand) = _
  refine congrArg _ (State.command_judged hrun hx ?_ (by simpa using hrun))
  have hb : (commandFrame (BitVec.ofNat 8 Cmd.reset.row.code) x).body = x.body := rfl
  simp only [State.judge, hb, hv, resetCommand, State.received_resetWaits, hw]
  rw [show (s.received .a).abandonSequence .reset = s.handed .reset from rfl, State.handed_node]
  rfl

/-- A commanded reset whose frame finds its queue full takes effect at once, R79. -/
theorem State.join_full_reset {s : State} {q p : Port} {f : Frame} (h : 2 ≤ (s.line.queue q).length)
    (hf : f.carriesReset = true) : s.join q p f = s.doReset .commanded .settling := by
  rw [State.join, if_pos (show queueLimit ≤ _ from h), if_pos hf]
  exact State.doReset_congr (by simp) (by simp) _ _

/-- Settles O30: the marked frame joins the queue of the role, or finds it full. -/
theorem resetWaitsForItsFrame : Obligations.ResetWaitsForItsFrame := by
  unfold Obligations.ResetWaitsForItsFrame
  intro s x h hw
  rw [exec_reset h hw]
  have hout : (s.handed .reset).line.queue .b = s.line.outboundQueue := by simp [LineBlock.queue]
  have hret : (s.handed .reset).line.queue .a = s.line.returnQueue := by simp [LineBlock.queue]
  have hreset : (s.handed .reset).doReset .commanded .settling = s.doReset .commanded .settling :=
    State.doReset_congr (by simp) (by simp) _ _
  have hend : (s.handed .reset).line.role.isEnd = true ↔ s.line.role ≠ .through := by
    rw [State.handed_line, State.received_role, LineRole.isEnd_iff]
  refine ⟨fun hr hq => ?_, fun hr hq => ?_, fun hfull => ?_⟩
  · rw [State.sendA, if_neg (by rw [hend]; exact not_not.mpr hr), State.join_room (by rwa [hout]), hout]
    rw [State.handed_line]
    rfl
  · rw [State.sendA, if_pos (hend.mpr hr), State.join_room (by rwa [hret]), hret]
    rw [State.handed_line]
    rfl
  · unfold State.sendA
    rcases hfull with ⟨hr, hq⟩ | ⟨hr, hq⟩
    · rw [if_neg (by rw [hend]; exact not_not.mpr hr), State.join_full_reset (by rwa [hout]) rfl, hreset]
    · rw [if_pos (hend.mpr hr), State.join_full_reset (by rwa [hret]) rfl, hreset]

/-! ### ENUMERATE, R70 -/

theorem fld_low {v : Nat} (h : v ≤ 255) : fld v 0 8 = BitVec.ofNat 16 v := by
  simp only [fld, Nat.pow_zero, Nat.mul_one]
  rw [Nat.mod_eq_of_lt (by omega)]

theorem enumerateCounter_cons (w : Word) (rest : List Word) : enumerateCounter (w :: rest) = w.toNat % 256 := loByte_eq w

theorem enumerateCount_cons (w : Word) (rest : List Word) :
    enumerateCount (w :: rest) = BitVec.ofNat 16 (min 255 (w.toNat % 256 + 1)) :: rest := by
  have hfld : fld (satByte (w.toNat % 256 + 1)) 0 8 = BitVec.ofNat 16 (min 255 (w.toNat % 256 + 1)) :=
    fld_low (Nat.min_le_left _ _)
  simp [enumerateCount, putWords, enumerateCounter_cons, hfld]

theorem exec_enumerate {s : State} {x : Payload} (hp : s.phase = .running) (hx : x.wf = true) :
    exec (.enumerate x) s = .next (((s.received .a).enumerated (enumerateCounter x.body)).sendA
      (if s.store.site.valid then { payloadFrame x kindEnumerate .a with body := enumerateCount x.body }
        else payloadFrame x kindEnumerate .a)) := by
  show Host.Outcome.next (s.receiveA _ _ _) = _
  rw [State.receiveA_running hp (by simpa using hx), State.processA_unchanged (by simpa [State.enumerate] using hp)]
  rfl

/-- A clear position-agrees is a cause in SERVICE and HELD alone. -/
theorem State.misplaced_latch {s : State} (h : s.node.state ≠ .service ∧ s.node.state ≠ .held) :
    s.misplaced = s.latch .position := by
  cases hs : s.node.state <;> simp_all [State.misplaced]

theorem State.misplaced_served {s : State} (h : s.node.state = .service ∨ s.node.state = .held) :
    s.misplaced = (s.latch .position).enterFailsafe .position := by
  rcases h with h | h <;> simp [State.misplaced, State.arise, h]

theorem NodeState.idle_iff {x : NodeState} : x.idle = true ↔ x = .unnumbered ∨ x = .numbered ∨ x = .standby := by
  cases x <;> decide

theorem NodeRecord.takeAddress_idle {n : NodeRecord} (h : n.state.idle = true) (c : Nat) : n.takeAddress c =
    { n with state := if n.state = .standby then .standby else .numbered, address := BitVec.ofNat 8 c } := by
  rcases NodeState.idle_iff.mp h with h | h | h <;> simp [NodeRecord.takeAddress, h]

theorem NodeRecord.loseAddress_idle {n : NodeRecord} (h : n.state.idle = true) :
    n.loseAddress = { n with state := .unnumbered, address := 0 } := by
  rcases NodeState.idle_iff.mp h with h | h | h <;> simp [NodeRecord.loseAddress, h]

/-- The states other than UNNUMBERED, NUMBERED and STANDBY keep their address, R70. -/
theorem NodeRecord.takeAddress_keeps {n : NodeRecord} (h : n.state.idle = false) (c : Nat) : n.takeAddress c = n := by
  cases hs : n.state <;> simp_all [NodeRecord.takeAddress, NodeState.idle]

theorem NodeRecord.loseAddress_keeps {n : NodeRecord} (h : n.state.idle = false) : n.loseAddress = n := by
  cases hs : n.state <;> simp_all [NodeRecord.loseAddress, NodeState.idle]

/-- A counter that names an address: the node takes it, and position-agrees compares it with the expected address. -/
theorem State.enumerated_sited {s : State} {c : Nat} {agrees : Bool} (hv : s.store.site.valid = true)
    (hc : 1 ≤ c ∧ c ≤ 250) (ha : agrees = Decidable.decide (c = s.store.site.fields.expected)) :
    s.enumerated c = if agrees then s.setNode { s.node.takeAddress c with positionAgrees := agrees }
      else (s.setNode { s.node.takeAddress c with positionAgrees := agrees }).misplaced := by
  have hr := counterInRange_iff.mpr hc
  rw [State.enumerated, if_pos hv, if_pos hr, ha]
  by_cases he : c = s.store.site.fields.expected <;> simp [he]

theorem State.enumerated_unsited {s : State} {c : Nat} (hv : s.store.site.valid = false) (hc : 1 ≤ c ∧ c ≤ 250) :
    s.enumerated c = s.setNode { s.node.takeAddress c with positionAgrees := false } := by
  have hr := counterInRange_iff.mpr hc
  simp [State.enumerated, hv, hr]

/-- A counter that names no address, R70: in SERVICE and HELD the cause arises where the site record is valid. -/
theorem State.enumerated_full {s : State} {c : Nat} (hc : ¬(1 ≤ c ∧ c ≤ 250)) :
    s.enumerated c = if s.store.site.valid then (s.setNode { s.node.loseAddress with positionAgrees := false }).misplaced
      else (s.setNode { s.node.loseAddress with positionAgrees := false }).latch .position := by
  have hr : counterInRange c = false := by
    rw [← Bool.not_eq_true, counterInRange_iff]
    exact hc
  simp [State.enumerated, hr]

theorem ofNat_mod_256 (n : Nat) : BitVec.ofNat 8 (n % 256) = BitVec.ofNat 8 n := by
  apply BitVec.eq_of_toNat_eq
  simp

theorem wf_of_body {x : Payload} {w : Word} {rest : List Word} (hb : x.body = w :: rest) (hl : rest.length ≤ 123) :
    x.wf = true := by
  simp [Payload.wf, bodyOk, hb]
  omega

section
variable {s : State} {x : Payload} {w : Word} {rest : List Word} (hp : s.phase = .running) (hb : x.body = w :: rest)
  (hl : rest.length ≤ 123)
include hp hb hl

/-- ENUMERATE on a node with a valid site record: the counter goes on one higher, up to 255. -/
theorem exec_enumerate_sited (hv : s.store.site.valid = true) : exec (.enumerate x) s =
    .next (((s.received .a).enumerated (w.toNat % 256)).sendA { payloadFrame x kindEnumerate .a with
      body := BitVec.ofNat 16 (min 255 (w.toNat % 256 + 1)) :: rest }) := by
  rw [exec_enumerate hp (wf_of_body hb hl), if_pos hv, hb, enumerateCounter_cons, enumerateCount_cons]

theorem exec_enumerate_unsited (hv : s.store.site.valid = false) : exec (.enumerate x) s =
    .next (((s.received .a).enumerated (w.toNat % 256)).sendA (payloadFrame x kindEnumerate .a)) := by
  rw [exec_enumerate hp (wf_of_body hb hl), if_neg (by simp [hv]), hb, enumerateCounter_cons]

end

/-- The first half of R70: a counter that names an address. -/
theorem exec_enumerate_address {s : State} {x : Payload} {w : Word} {rest : List Word} {agrees : Bool} {out : Frame}
    (hp : s.phase = .running) (hb : x.body = w :: rest) (hl : rest.length ≤ 123) (hv : s.store.site.valid = true)
    (hc : 1 ≤ w.toNat % 256 ∧ w.toNat % 256 ≤ 250)
    (ho : out = { payloadFrame x kindEnumerate .a with body := BitVec.ofNat 16 (w.toNat % 256 + 1) :: rest })
    (ha : agrees = Decidable.decide (w.toNat % 256 = s.store.site.fields.expected)) :
    exec (.enumerate x) s = .next ((if agrees then
        (s.received .a).setNode { s.node.takeAddress (w.toNat % 256) with positionAgrees := agrees }
      else ((s.received .a).setNode { s.node.takeAddress (w.toNat % 256) with positionAgrees := agrees }).misplaced).sendA
        out) := by
  rw [exec_enumerate_sited hp hb hl hv, State.enumerated_sited (s := s.received .a) hv hc ha, ho, Nat.min_eq_right (by omega)]
  rfl

/-- The second half of R70: a counter of 0 or above 250. -/
theorem exec_enumerate_noAddress {s : State} {x : Payload} {w : Word} {rest : List Word} {out : Frame}
    (hp : s.phase = .running) (hb : x.body = w :: rest) (hl : rest.length ≤ 123)
    (hc : w.toNat % 256 = 0 ∨ 250 < w.toNat % 256)
    (ho : out = { payloadFrame x kindEnumerate .a with
      body := if s.store.site.valid then BitVec.ofNat 16 (min 255 (w.toNat % 256 + 1)) :: rest else x.body }) :
    exec (.enumerate x) s = .next ((if s.store.site.valid then
        ((s.received .a).setNode { s.node.loseAddress with positionAgrees := false }).misplaced
      else ((s.received .a).setNode { s.node.loseAddress with positionAgrees := false }).latch .position).sendA out) := by
  have hfull := State.enumerated_full (s := s.received .a) (c := w.toNat % 256) (by omega)
  cases hv : s.store.site.valid
  · rw [exec_enumerate_unsited hp hb hl hv, hfull, ho]
    simp [hv, payloadFrame]
  · rw [exec_enumerate_sited hp hb hl hv, hfull, ho]
    simp [hv]

/-- Outside SERVICE and HELD a node that disagrees latches POSITION alone. -/
theorem State.misplaced_latchIf {u : State} {agrees : Bool}
    (h : agrees = false → u.node.state ≠ .service ∧ u.node.state ≠ .held) :
    (if agrees then u else u.misplaced) = u.latchIf (!agrees) .position := by
  cases agrees
  · exact State.misplaced_latch (h rfl)
  · rfl

/-- Settles O14: ENUMERATE by its counter, the site record and the node state. -/
theorem enumerateNumbersTheNode : Obligations.EnumerateNumbersTheNode := by
  unfold Obligations.EnumerateNumbersTheNode
  constructor
  · intro s x w rest agrees out hp hb hl hlow hhigh ho ha
    refine ⟨fun hv => ?_, fun hv hs => ?_⟩
    · rw [exec_enumerate_address hp hb hl hv ⟨hlow, hhigh⟩ ho ha]
      refine ⟨fun hs => ?_, fun hs => ?_, fun ⟨hs, hf⟩ => ?_⟩
      · rw [NodeRecord.takeAddress_idle (NodeState.idle_iff.mpr hs), ofNat_mod_256, State.misplaced_latchIf]
        · rfl
        · rcases hs with hs | hs | hs <;> simp [hs]
      · have hkeep : s.node.state.idle = false := by rcases hs with hs | hs | ⟨hs | hs, -⟩ <;> rw [hs] <;> rfl
        rw [NodeRecord.takeAddress_keeps hkeep, State.misplaced_latchIf]
        · rfl
        · rcases hs with hs | hs | ⟨-, ht⟩ <;> simp_all
      · have hkeep : s.node.state.idle = false := by rcases hs with hs | hs <;> rw [hs] <;> rfl
        rw [NodeRecord.takeAddress_keeps hkeep, hf, if_neg (by decide), State.misplaced_served (by exact hs)]
        rfl
    · have hidle : s.node.state.idle = true := by rcases hs with hs | hs <;> rw [hs] <;> rfl
      have hnot : s.node.state ≠ .standby := by rcases hs with hs | hs <;> simp [hs]
      rw [exec_enumerate_unsited hp hb hl hv, State.enumerated_unsited (s := s.received .a) hv ⟨hlow, hhigh⟩,
        State.received_node, NodeRecord.takeAddress_idle hidle, ofNat_mod_256, if_neg hnot]
      rfl
  · intro s x w rest out hp hb hl hc ho
    rw [exec_enumerate_noAddress hp hb hl hc ho]
    refine ⟨fun hs => ?_, fun hv hs => ?_, fun hv hs => ?_⟩
    · rw [NodeRecord.loseAddress_idle (NodeState.idle_iff.mpr hs), State.misplaced_latch (by simp), ite_self]
      rfl
    · have hkeep : s.node.state.idle = false := by rcases hs with hs | hs <;> rw [hs] <;> rfl
      rw [if_pos hv, NodeRecord.loseAddress_keeps hkeep, State.misplaced_latch (by rcases hs with hs | hs <;> simp [hs])]
      rfl
    · have hkeep : s.node.state.idle = false := by rcases hs with hs | hs <;> rw [hs] <;> rfl
      rw [if_pos hv, NodeRecord.loseAddress_keeps hkeep, State.misplaced_served (by exact hs)]
      rfl

end Sys2Proof.Machine
end

section
/-! How a reply stands in the frame (R64, R68, R69). -/

namespace Sys2Proof.Machine

/-! ### Words in a list -/

theorem putWords_append {a b vs : List Word} (h : vs.length ≤ b.length) :
    putWords (a ++ b) a.length vs = a ++ (vs ++ b.drop vs.length) := by
  unfold putWords
  rw [List.take_left, List.drop_append, List.drop_eq_nil_of_le (by omega), List.nil_append, Nat.add_sub_cancel_left,
    List.append_assoc, List.take_of_length_le]
  simp
  omega

/-- Result words behind the arguments, before the last word. -/
theorem putWords_result {args result ws : List Word} {last : Word} (h : ws.length ≤ result.length) :
    putWords (args ++ result ++ [last]) args.length ws = args ++ (ws ++ result.drop ws.length) ++ [last] := by
  rw [List.append_assoc, putWords_append (by simp; omega), List.drop_append_of_le_length h]
  simp

theorem putLast_append (body : List Word) (v w : Word) : putLast (body ++ [v]) w = body ++ [w] := by
  have h := putWords_append (a := body) (b := [v]) (vs := [w]) (by simp)
  simpa [putLast] using h

theorem replyWord_append (body : List Word) (v : Word) : replyWord (body ++ [v]) = v := by simp [replyWord]

/-! ### Words of two bytes -/

theorem twoBytes_eq {hi lo : Nat} (hh : hi < 256) (hl : lo < 256) : twoBytes hi lo = BitVec.ofNat 16 (hi * 256 + lo) := by
  apply BitVec.eq_of_toNat_eq
  rw [twoBytes_toNat hh hl, BitVec.toNat_ofNat]
  omega

theorem Reject.code_lt_256 (x : Reject) : x.code < 256 := by cases x <;> decide

/-- The accept count one higher, up to 255, R69. -/
theorem twoBytes_accept (w : Word) : twoBytes (satByte (hiByte w + 1)) (loByte w) =
    if w.toNat / 256 < 255 then w + 0x0100#16 else w := by
  have hw := w.isLt
  rw [hiByte_eq, loByte_eq, twoBytes_eq (by simp [satByte, byteMax]) (by omega)]
  apply BitVec.eq_of_toNat_eq
  split <;> simp [satByte, byteMax] <;> omega

/-- The refuse count one higher, up to 255, R69. -/
theorem twoBytes_refuse (w : Word) : twoBytes (hiByte w) (satByte (loByte w + 1)) =
    if w.toNat % 256 < 255 then w + 1#16 else w := by
  have hw := w.isLt
  rw [hiByte_eq, loByte_eq, twoBytes_eq (by omega) (by simp [satByte, byteMax])]
  apply BitVec.eq_of_toNat_eq
  split <;> simp [satByte, byteMax] <;> omega

/-! ### Answers -/

section
variable {c : Cmd} {address target : BitVec 8} {args result : List Word} {reply : Word} (hargs : args.length = c.row.args)
include hargs

/-- An addressed reply that has a REPLY word, R68. -/
theorem answer_addressed (ht : target ≠ 0) {r : Reply} {w : Word} (hr : r.word = some w)
    (hfit : r.results.length ≤ result.length) :
    answer c target address (args ++ result ++ [reply]) r =
      args ++ (r.results ++ result.drop r.results.length) ++ [w] := by
  simp only [answer, if_neg ht, answerAddressed, hr]
  rw [← hargs, putWords_result hfit, putLast_append]

omit hargs in
theorem answer_broadcast_done (ws : List Word) : answer c 0 address (args ++ result ++ [reply]) (.done ws) =
    args ++ result ++ [if reply.toNat / 256 < 255 then reply + 0x0100#16 else reply] := by
  simp only [answer, if_pos, answerBroadcast, replyWord_append, twoBytes_accept, putLast_append]

end

/-- The result area after a refusal of a broadcast: the first refusal stands in it where the command writes one, R69, R138. -/
def refusedArea (c : Cmd) (address : BitVec 8) (why : Reject) (result : List Word) : List Word :=
  if (c = .possFrom ∨ c = .possTo ∨ c = .possExcept) ∨ result.headD 1 ≠ 0 then result
  else BitVec.ofNat 16 (address.toNat * 256 + why.code) :: result.drop 1

/-- A refusal is named where the command names one and the result word, which is there, is 0. -/
theorem Cmd.names_iff {c : Cmd} {args result : List Word} {reply : Word} (hargs : args.length = c.row.args) :
    (c.namesRefusal && Decidable.decide (c.row.args + 2 ≤ (args ++ result ++ [reply]).length) &&
      (args ++ result ++ [reply]).getD c.row.args 0 == 0) = true ↔
      ¬((c = .possFrom ∨ c = .possTo ∨ c = .possExcept) ∨ result.headD 1 ≠ 0) := by
  have hnames : c.namesRefusal = true ↔ ¬(c = .possFrom ∨ c = .possTo ∨ c = .possExcept) := by
    simp [Cmd.namesRefusal, and_assoc]
  rw [not_or, ← hnames]
  cases result <;> simp [← hargs]

theorem refuse_eq {c : Cmd} {address : BitVec 8} {args result : List Word} {reply : Word}
    (hargs : args.length = c.row.args) (why : Reject) :
    answerBroadcast.refuse c address (args ++ result ++ [reply]) why =
      args ++ refusedArea c address why result ++ [if reply.toNat % 256 < 255 then reply + 1#16 else reply] := by
  have hnames := Cmd.names_iff (result := result) (reply := reply) hargs
  unfold answerBroadcast.refuse
  simp only [replyWord_append, twoBytes_refuse, putLast_append]
  by_cases h : (c = .possFrom ∨ c = .possTo ∨ c = .possExcept) ∨ result.headD 1 ≠ 0
  · rw [if_neg (hnames.not_left.mpr h), refusedArea, if_pos h]
  · have hroom : [twoBytes address.toNat why.code].length ≤ result.length := by
      cases result
      · simp at h
      · simp
    rw [if_pos (hnames.mpr h), refusedArea, if_neg h, ← hargs, putWords_result hroom,
      twoBytes_eq (by omega) why.code_lt_256]
    rfl

theorem answer_broadcast_refused {c : Cmd} {address : BitVec 8} {args result : List Word} {reply : Word}
    (hargs : args.length = c.row.args) {r : Reply} {why : Reject} (hr : r.refusal = some why) :
    answer c 0 address (args ++ result ++ [reply]) r =
      args ++ refusedArea c address why result ++ [if reply.toNat % 256 < 255 then reply + 1#16 else reply] := by
  cases r <;> cases hr <;> exact refuse_eq hargs _

/-- Settles O17: the reply words by form and outcome; a count at 255 stays. -/
theorem repliesAreWrittenAndFolded : Obligations.RepliesAreWrittenAndFolded := by
  unfold Obligations.RepliesAreWrittenAndFolded
  intro c address args result named ws reply why target hargs ht hfit hnamed
  replace hnamed : named = refusedArea c address why result := hnamed
  have hbusy (hw : why.code = 2) : Reply.busy.refusal = some why := by cases why <;> cases hw; rfl
  have hword : twoBytes 3 why.code = BitVec.ofNat 16 (0x0300 + why.code) := twoBytes_eq (by omega) why.code_lt_256
  subst hnamed
  refine ⟨answer_addressed hargs ht rfl hfit, hword ▸ answer_addressed hargs ht (r := .refused why ws) rfl hfit, ?_, ?_, ?_,
    ?_, ?_, ?_, ?_⟩
  · exact answer_addressed hargs ht (r := .busy) rfl (Nat.zero_le _)
  · intro hlow
    rw [answer_broadcast_done, if_pos hlow]
  · intro hlow
    exact ⟨by rw [answer_broadcast_refused hargs rfl, if_pos hlow],
      fun hw => by rw [answer_broadcast_refused hargs (hbusy hw), if_pos hlow]⟩
  · intro hfull
    rw [answer_broadcast_done, if_neg (by omega)]
  · intro hfull
    exact ⟨by rw [answer_broadcast_refused hargs rfl, if_neg (by omega)],
      fun hw => by rw [answer_broadcast_refused hargs (hbusy hw), if_neg (by omega)]⟩
  · rw [answer, if_neg ht]
    rfl
  · rfl

end Sys2Proof.Machine
end

section
/-! Every command runs to a next state and leaves the queue of waiting commands (O2). -/

namespace Sys2Proof.Machine

/-! ### The effects of the commands -/

/-- An effect leaves the queue of waiting commands. -/
def Effect.KeepsQueue (effect : Effect) : Prop := ∀ s args, (effect s args).1.pending = s.pending

theorem PlanEffect.keepsQueue {effect : Effect} (h : PlanEffect effect) : Effect.KeepsQueue effect := by
  intro s args
  obtain ⟨x, hx⟩ := h s args
  rw [hx]
  rfl

theorem readFace_keepsQueue : Effect.KeepsQueue readFace := by
  intro s args
  unfold readFace
  (repeat' split) <;> simp

theorem readPlan_keepsQueue : Effect.KeepsQueue readPlan := by
  intro s args
  unfold readPlan
  dsimp only
  (repeat' split) <;> simp

theorem writeFace_keepsQueue : Effect.KeepsQueue writeFace := by
  intro s args
  unfold writeFace
  (repeat' split) <;> simp

theorem setMasks_keepsQueue : Effect.KeepsQueue setMasks := by
  intro s args
  unfold setMasks
  (repeat' split) <;> simp

theorem store_keepsQueue : Effect.KeepsQueue store := by
  intro s args
  unfold store
  (repeat' split) <;> simp

theorem eraseStore_keepsQueue : Effect.KeepsQueue eraseStore := by
  intro s args
  unfold eraseStore
  (repeat' split) <;> simp

theorem commission_keepsQueue : Effect.KeepsQueue commission := by
  intro s args
  unfold commission
  (repeat' split) <;> simp

theorem enterService_keepsQueue : Effect.KeepsQueue enterService := by
  intro s args
  unfold enterService
  (repeat' split) <;> simp

theorem leaveService_keepsQueue : Effect.KeepsQueue leaveService := by
  intro s args
  simp [leaveService]

theorem endMaintain_keepsQueue : Effect.KeepsQueue endMaintain := by
  intro s args
  unfold endMaintain
  (repeat' split) <;> simp

theorem faceSetCommand_keepsQueue : Effect.KeepsQueue faceSetCommand := by
  intro s args
  unfold faceSetCommand
  (repeat' split) <;> simp

theorem elementTestCommand_keepsQueue : Effect.KeepsQueue elementTestCommand := by
  intro s args
  unfold elementTestCommand
  (repeat' split) <;> simp

theorem possFrom_keepsQueue : Effect.KeepsQueue possFrom := by
  intro s args
  unfold possFrom
  dsimp only
  (repeat' split) <;> simp

theorem possTo_keepsQueue : Effect.KeepsQueue possTo := by
  intro s args
  unfold possTo
  dsimp only
  (repeat' split) <;> simp

theorem possExcept_keepsQueue : Effect.KeepsQueue possExcept := by
  intro s args
  unfold possExcept
  dsimp only
  (repeat' split) <;> simp

theorem possApply_keepsQueue : Effect.KeepsQueue possApply := by
  intro s args
  unfold possApply
  dsimp only
  (repeat' split) <;> simp

theorem readChannel_keepsQueue (raw : Nat) : Effect.KeepsQueue (readChannel raw) := by
  intro s args
  unfold readChannel
  (repeat' split) <;> simp

theorem writeSite_keepsQueue (arriving : Bool) : Effect.KeepsQueue (writeSite arriving) := by
  intro s args
  unfold writeSite
  (repeat' split) <;> simp

theorem clearFaults_keepsQueue (x : Sensed) : Effect.KeepsQueue (clearFaults x) := by
  intro s args
  unfold clearFaults
  (repeat' split) <;> simp

theorem release_keepsQueue (elapsed : Nat) : Effect.KeepsQueue (release elapsed) := by
  intro s args
  unfold release
  dsimp only
  (repeat' split) <;> simp

theorem possLift_keepsQueue (target : BitVec 8) : Effect.KeepsQueue (possLift target) := by
  intro s args
  unfold possLift
  dsimp only
  (repeat' split) <;> simp

/-- Every command's effect leaves the queue; those of the rows not named here change no more than the node's own records. -/
theorem effectOf_keepsQueue (i : Instr) : (effectOf i).KeepsQueue := by
  cases i
  case readFace => exact readFace_keepsQueue
  case readChannel => exact readChannel_keepsQueue _
  case readPlan => exact readPlan_keepsQueue
  case writeSite => exact writeSite_keepsQueue _
  case writeFace => exact writeFace_keepsQueue
  case setMasks => exact setMasks_keepsQueue
  case clearFaults => exact clearFaults_keepsQueue _
  case loadBegin => exact loadBegin_plan.keepsQueue
  case loadBlock => exact loadBlock_plan.keepsQueue
  case loadEnd => exact loadEnd_plan.keepsQueue
  case swap => exact swap_plan.keepsQueue
  case store => exact store_keepsQueue
  case eraseStore => exact eraseStore_keepsQueue
  case commission => exact commission_keepsQueue
  case enterService => exact enterService_keepsQueue
  case leaveService => exact leaveService_keepsQueue
  case release => exact release_keepsQueue _
  case endMaintain => exact endMaintain_keepsQueue
  case faceSet => exact faceSetCommand_keepsQueue
  case elementTest => exact elementTestCommand_keepsQueue
  case possFrom => exact possFrom_keepsQueue
  case possTo => exact possTo_keepsQueue
  case possExcept => exact possExcept_keepsQueue
  case possApply => exact possApply_keepsQueue
  case possLift => exact possLift_keepsQueue _
  all_goals exact fun _ _ => rfl

/-! ### Every row of the table -/

/-- An outcome is a next state with the queue of `s`. -/
def RunsFrom (s : State) (o : Host.Outcome State Fault Refusal) : Prop := ∃ t, o = .next t ∧ t.pending = s.pending

section
variable {s t u : State}

theorem runsFrom_next (h : t.pending = s.pending) : RunsFrom s (.next t) := ⟨t, rfl, h⟩

theorem runsFrom_ite {c : Prop} [Decidable c] {a b : Host.Outcome State Fault Refusal} (ha : RunsFrom s a)
    (hb : RunsFrom s b) : RunsFrom s (if c then a else b) := by
  split
  · exact ha
  · exact hb

/-- A row that acts under a condition and otherwise leaves the state. -/
theorem runsFrom_when {c : Prop} [Decidable c] (h : t.pending = s.pending) :
    RunsFrom s (if c then .next t else .next s) := runsFrom_ite (runsFrom_next h) (runsFrom_next rfl)

end

/-! Frames and the line, R43-R59. -/

theorem execSweep_runsFrom (p : Port) (x : Payload) (s : State) : RunsFrom s (execSweep p x s) := by
  cases p
  · exact runsFrom_next (State.receiveA_pending _ _ _ _ (by simp) (by simp))
  · exact runsFrom_next (State.receiveB_pending _ _ _ (by simp))

theorem execRollcall_runsFrom (x : Payload) (s : State) : RunsFrom s (execRollcall x s) :=
  runsFrom_next (State.receiveA_pending _ _ _ _ (by simp) fun _ _ => rfl)

theorem execEnumerate_runsFrom (x : Payload) (s : State) : RunsFrom s (execEnumerate x s) :=
  runsFrom_next (State.receiveA_pending _ _ _ _ (by simp) fun _ _ => rfl)

theorem execCloseall_runsFrom (p : Port) (x : Payload) (s : State) : RunsFrom s (execCloseall p x s) := by
  cases p
  · exact runsFrom_next (State.receiveA_pending _ _ _ _ (by simp) (by simp))
  · exact runsFrom_next (State.receiveB_pending _ _ _ (by simp))

theorem execUnknownFrame_runsFrom (p : Port) (k : BitVec 4) (x : Payload) (s : State) :
    RunsFrom s (execUnknownFrame p k x s) := by
  cases p
  · exact runsFrom_when (State.receiveA_pending _ _ _ _ (fun _ _ => rfl) fun _ _ => rfl)
  · exact runsFrom_when (State.receiveB_pending _ _ _ fun _ _ => rfl)

theorem clashPass_pending (x : Payload) (s : State) (f : Frame) : (clashPass x s f).1.pending = s.pending :=
  State.latchIf_pending _ _ _

theorem execForwardUnchanged_runsFrom (p : Port) (k : BitVec 4) (x : Payload) (s : State) :
    RunsFrom s (execForwardUnchanged p k x s) := by
  cases p
  · exact runsFrom_when (State.receiveA_pending _ _ _ _ (clashPass_pending x) fun _ _ => rfl)
  · exact runsFrom_when (State.receiveB_pending _ _ _ fun _ _ => rfl)

theorem execStartUpForward_runsFrom (p : Port) (k : BitVec 4) (x : Payload) (s : State) :
    RunsFrom s (execStartUpForward p k x s) := by
  refine runsFrom_ite ?_ (runsFrom_next rfl)
  split
  · exact runsFrom_next (by simp)
  · exact runsFrom_next (by simp)
  · exact runsFrom_next (by simp)
  · exact runsFrom_next rfl

theorem execFrameCheckFailed_runsFrom (p : Port) (ws : List Word) (s : State) :
    RunsFrom s (execFrameCheckFailed p ws s) := by
  refine runsFrom_ite (runsFrom_next rfl) ?_
  split
  · exact runsFrom_next rfl
  · exact runsFrom_next (by simp)

theorem execUndefinedCommand_runsFrom (code : BitVec 8) (x : CommandPayload) (s : State) :
    RunsFrom s (execUndefinedCommand code x s) := by
  have hjudge : RunsFrom s
      (.next (s.receiveA (commandFrame code x) (fun t f => t.judgeSilent x.target f) unchanged)) :=
    runsFrom_next (State.receiveA_pending _ _ _ _ (by simp) fun _ _ => rfl)
  unfold execUndefinedCommand
  split
  · exact hjudge
  · exact runsFrom_ite (runsFrom_next rfl) hjudge

theorem execFramingError_runsFrom (p : Port) (xs : List Symbol) (s : State) : RunsFrom s (execFramingError p xs s) :=
  runsFrom_next (by simp)

theorem execDiscardingEnd_runsFrom (p : Port) (s : State) : RunsFrom s (execDiscardingEnd p s) := runsFrom_when rfl

theorem execFrameSent_runsFrom (p : Port) (s : State) : RunsFrom s (execFrameSent p s) := by
  unfold execFrameSent
  split
  · exact runsFrom_next rfl
  · exact runsFrom_ite (runsFrom_next rfl) (runsFrom_next rfl)

theorem execPortDown_runsFrom (p : Port) (xs : List Symbol) (s : State) : RunsFrom s (execPortDown p xs s) := by
  cases p
  · exact runsFrom_ite (runsFrom_next rfl) (runsFrom_next (by simp))
  · exact runsFrom_ite (runsFrom_next rfl) (runsFrom_ite (runsFrom_next (by simp)) (runsFrom_next (by simp)))

theorem execPortUp_runsFrom (p : Port) (xs : List Symbol) (s : State) : RunsFrom s (execPortUp p xs s) := by
  cases p
  · exact runsFrom_ite (runsFrom_next rfl) (runsFrom_next (by simp))
  · exact runsFrom_ite (runsFrom_next rfl) (runsFrom_ite (runsFrom_next (by simp)) (runsFrom_next (by simp)))

/-! Channels, R26-R35. -/

theorem execMoved_runsFrom (f : Face) (k : Shutter) (a b : Nat) (s : State) : RunsFrom s (execMoved f k a b s) :=
  runsFrom_when (by simp)

theorem execHitTimeEnd_runsFrom (f : Face) (k : Shutter) (s : State) : RunsFrom s (execHitTimeEnd f k s) :=
  runsFrom_ite (runsFrom_ite (runsFrom_next (by simp)) (runsFrom_next (by simp))) (runsFrom_next rfl)

theorem execHoldLost_runsFrom (f : Face) (k : Shutter) (raw : Nat) (s : State) : RunsFrom s (execHoldLost f k raw s) :=
  runsFrom_when (by simp)

theorem execDropped_runsFrom (f : Face) (k : Shutter) (raw : Nat) (s : State) : RunsFrom s (execDropped f k raw s) :=
  runsFrom_when (by simp)

theorem execNotDropped_runsFrom (f : Face) (k : Shutter) (raw : Nat) (s : State) : RunsFrom s (execNotDropped f k raw s) :=
  runsFrom_when (by simp)

theorem execOvercurrent_runsFrom (f : Face) (k : Shutter) (raw : Nat) (s : State) :
    RunsFrom s (execOvercurrent f k raw s) := runsFrom_when (by simp)

theorem execLit_runsFrom (f : Face) (raw : Nat) (s : State) : RunsFrom s (execLit f raw s) := runsFrom_when (by simp)

theorem execNotLit_runsFrom (f : Face) (s : State) : RunsFrom s (execNotLit f s) := runsFrom_when (by simp)

theorem execLampOpen_runsFrom (f : Face) (raw : Nat) (s : State) : RunsFrom s (execLampOpen f raw s) :=
  runsFrom_when (by simp)

theorem execLampOvercurrent_runsFrom (f : Face) (raw : Nat) (s : State) : RunsFrom s (execLampOvercurrent f raw s) :=
  runsFrom_when (by simp)

theorem execLampCurrentMoveEnd_runsFrom (f : Face) (s : State) : RunsFrom s (execLampCurrentMoveEnd f s) :=
  runsFrom_next (by simp)

/-! Supervision, the supply and resets, R153-R162. -/

theorem execTHoldExpiry_runsFrom (s : State) : RunsFrom s (execTHoldExpiry s) := by
  unfold execTHoldExpiry
  split
  · exact runsFrom_when rfl
  · exact runsFrom_next rfl
  · exact runsFrom_next rfl

theorem execTCloseExpiry_runsFrom (s : State) : RunsFrom s (execTCloseExpiry s) := by
  unfold execTCloseExpiry
  split
  · exact runsFrom_when (by simp)
  · exact runsFrom_next rfl
  · exact runsFrom_next rfl

theorem execLoopOpen_runsFrom (n : Nat) (s : State) : RunsFrom s (execLoopOpen n s) := runsFrom_when (by simp)

theorem execLoopRestored_runsFrom (n : Nat) (s : State) : RunsFrom s (execLoopRestored n s) := runsFrom_when rfl

theorem execSupplyLow_runsFrom (n : Nat) (s : State) : RunsFrom s (execSupplyLow n s) := runsFrom_when (by simp)

theorem execSupplyNormal_runsFrom (n m : Nat) (s : State) : RunsFrom s (execSupplyNormal n m s) := runsFrom_when rfl

theorem execSupplyDipReset_runsFrom (n : Nat) (s : State) : RunsFrom s (execSupplyDipReset n s) :=
  runsFrom_ite (runsFrom_ite (runsFrom_next rfl) (runsFrom_when rfl)) (runsFrom_next rfl)

theorem execPowerOn_runsFrom (s : State) : RunsFrom s (execPowerOn s) := runsFrom_next rfl

theorem execResetEnd_runsFrom (n : Nat) (s : State) : RunsFrom s (execResetEnd n s) := runsFrom_when rfl

/-! Start-up and the storage writer, R181-R190. -/

theorem execStartUpSettleEnd_runsFrom (s : State) : RunsFrom s (execStartUpSettleEnd s) := runsFrom_when (by simp)

theorem execStoreImageDone_runsFrom (s : State) : RunsFrom s (execStoreImageDone s) := by
  unfold execStoreImageDone
  split
  · exact runsFrom_next (by simp)
  · exact runsFrom_next rfl
  · exact runsFrom_next (by simp)
  all_goals exact runsFrom_next rfl

theorem execEraseImageDone_runsFrom (s : State) : RunsFrom s (execEraseImageDone s) := by
  unfold execEraseImageDone
  split
  · exact runsFrom_next rfl
  · exact runsFrom_next (by simp)
  all_goals exact runsFrom_next rfl

theorem execLockWriteDone_runsFrom (s : State) : RunsFrom s (execLockWriteDone s) := by
  unfold execLockWriteDone
  split
  · exact runsFrom_next (by simp)
  all_goals exact runsFrom_next rfl

/-- The rows that carry no command of the tables of R66, each by its own outcome. -/
theorem exec_event_runsFrom {i : Instr} (h : commandOf i = none) (s : State) : RunsFrom s (exec i s) := by
  cases i
  case sweep => exact execSweep_runsFrom _ _ s
  case rollcall => exact execRollcall_runsFrom _ s
  case enumerate => exact execEnumerate_runsFrom _ s
  case closeall => exact execCloseall_runsFrom _ _ s
  case unknownFrame => exact execUnknownFrame_runsFrom _ _ _ s
  case forwardUnchanged => exact execForwardUnchanged_runsFrom _ _ _ s
  case startUpForward => exact execStartUpForward_runsFrom _ _ _ s
  case frameCheckFailed => exact execFrameCheckFailed_runsFrom _ _ s
  case framingError => exact execFramingError_runsFrom _ _ s
  case frameSent => exact execFrameSent_runsFrom _ s
  case portDown => exact execPortDown_runsFrom _ _ s
  case portUp => exact execPortUp_runsFrom _ _ s
  case undefinedCommand => exact execUndefinedCommand_runsFrom _ _ s
  case moved => exact execMoved_runsFrom _ _ _ _ s
  case hitTimeEnd => exact execHitTimeEnd_runsFrom _ _ s
  case holdLost => exact execHoldLost_runsFrom _ _ _ s
  case dropped => exact execDropped_runsFrom _ _ _ s
  case notDropped => exact execNotDropped_runsFrom _ _ _ s
  case overcurrent => exact execOvercurrent_runsFrom _ _ _ s
  case lit => exact execLit_runsFrom _ _ s
  case notLit => exact execNotLit_runsFrom _ s
  case lampOpen => exact execLampOpen_runsFrom _ _ s
  case lampOvercurrent => exact execLampOvercurrent_runsFrom _ _ s
  case lampCurrentMoveEnd => exact execLampCurrentMoveEnd_runsFrom _ s
  case tHoldExpiry => exact execTHoldExpiry_runsFrom s
  case tCloseExpiry => exact execTCloseExpiry_runsFrom s
  case loopOpen => exact execLoopOpen_runsFrom _ s
  case loopRestored => exact execLoopRestored_runsFrom _ s
  case supplyLow => exact execSupplyLow_runsFrom _ s
  case supplyNormal => exact execSupplyNormal_runsFrom _ _ s
  case supplyDipReset => exact execSupplyDipReset_runsFrom _ s
  case powerOn => exact execPowerOn_runsFrom s
  case resetEnd => exact execResetEnd_runsFrom _ s
  case startUpSettleEnd => exact execStartUpSettleEnd_runsFrom s
  case storeImageDone => exact execStoreImageDone_runsFrom s
  case eraseImageDone => exact execEraseImageDone_runsFrom s
  case lockWriteDone => exact execLockWriteDone_runsFrom s
  case discardingEnd => exact execDiscardingEnd_runsFrom _ s
  all_goals cases h

/-- Settles O2: a command's row receives its frame, whose effect leaves the queue; each other row ends in a next state by its own
branches. -/
theorem everyCommandRunsAndKeepsTheQueue : Obligations.EveryCommandRunsAndKeepsTheQueue := by
  unfold Obligations.EveryCommandRunsAndKeepsTheQueue
  intro i s
  cases h : commandOf i with
  | none => exact exec_event_runsFrom h s
  | some cx =>
    obtain ⟨c, x⟩ := cx
    rw [exec_command h]
    exact runsFrom_next (State.command_pending s c x _ (effectOf_keepsQueue i))

end Sys2Proof.Machine
end

section
/-! The forced closure whole (O44): R18, R63, R150, R151. -/

namespace Sys2Proof.Machine

/-! ### What the work on one face leaves -/

/-- A face's record changed by work that gives the face no target. -/
structure FaceRecord.KeepsTarget (r q : FaceRecord) : Prop where
  target    : q.target = r.target
  mergeLost : q.mergeLost = r.mergeLost
  unpending : r.pending = none → q.pending = none

namespace FaceRecord

theorem settleOn_keepsTarget (r : FaceRecord) (a : Aspect) : r.KeepsTarget (r.settleOn a) :=
  ⟨rfl, rfl, fun h => by simp [settleOn, h]⟩

theorem returnClosed_keepsTarget (r : FaceRecord) : r.KeepsTarget r.returnClosed := by
  unfold returnClosed
  split
  · exact ⟨rfl, rfl, id⟩
  · exact ⟨rfl, rfl, fun h => by simp [reasonAll, h]⟩

theorem returnDark_keepsTarget (r : FaceRecord) : r.KeepsTarget r.returnDark :=
  ⟨rfl, rfl, fun h => by simp [returnDark, reasonAll, h]⟩

theorem toReturning_keepsTarget (r : FaceRecord) (floor : Nat) : r.KeepsTarget (r.toReturning floor) :=
  ⟨rfl, rfl, fun h => by simp [toReturning, reasonAll, h]⟩

theorem darken_keepsTarget (r : FaceRecord) : r.KeepsTarget r.darken :=
  ⟨rfl, rfl, fun h => by simp [darken, reasonAll, h]⟩

end FaceRecord

/-- Work on face `f` that gives it no target: the other face, the configurations and the superseded counter stay as well. -/
structure State.KeepsTarget (f : Face) (s t : State) : Prop where
  record        : (s.face f).KeepsTarget (t.face f)
  otherFace     : t.face (otherFace f) = s.face (otherFace f)
  otherChannels : t.channels (Machine.otherFace f) = s.channels (Machine.otherFace f)
  superseded    : t.fault.superseded = s.fault.superseded
  config        : ∀ g, t.config g = s.config g

namespace State.KeepsTarget

variable {s t u : State} {f : Face}

theorem refl (s : State) : s.KeepsTarget f s := ⟨⟨rfl, rfl, id⟩, rfl, rfl, rfl, fun _ => rfl⟩

theorem trans (h : s.KeepsTarget f t) (h' : t.KeepsTarget f u) : s.KeepsTarget f u where
  record :=
    ⟨h'.record.target.trans h.record.target, h'.record.mergeLost.trans h.record.mergeLost,
      fun hp => h'.record.unpending (h.record.unpending hp)⟩
  otherFace := h'.otherFace.trans h.otherFace
  otherChannels := h'.otherChannels.trans h.otherChannels
  superseded := h'.superseded.trans h.superseded
  config g := (h'.config g).trans (h.config g)

theorem setFace {r : FaceRecord} (h : (s.face f).KeepsTarget r) : s.KeepsTarget f (s.setFace f r) :=
  ⟨by rwa [State.setFace_face], by simp, by simp, by simp, by simp⟩

theorem setLamp (c : LampChannel) : s.KeepsTarget f (s.setLamp f c) :=
  ⟨by rw [State.face_of_faces (State.setLamp_faces s f c)]; exact ⟨rfl, rfl, id⟩, State.face_of_faces (by simp) _,
    by simp, by simp, by simp⟩

theorem lampOff (s : State) : s.KeepsTarget f (s.lampOff f) := setLamp _

theorem releaseDriven (s : State) : s.KeepsTarget f (s.releaseDriven f) :=
  ⟨by rw [State.releaseDriven_face]; exact ⟨rfl, rfl, id⟩, by simp, by simp, by simp, by simp [State.releaseDriven]⟩

theorem reportLamp (s : State) (x : ChannelFault) : s.KeepsTarget f (s.reportLamp f x) :=
  ⟨by rw [State.reportLamp_face]; exact ⟨rfl, rfl, id⟩, by simp, by simp, by cases f <;> rfl, by
    intro g; cases f <;> cases g <;> rfl⟩

/-! ### The operations of the table of R18 -/

theorem endReturn (s : State) : s.KeepsTarget f (s.endReturn f) := by
  unfold State.endReturn
  split
  · exact (lampOff s).trans (setFace (by rw [State.lampOff_face]; exact FaceRecord.returnDark_keepsTarget _))
  · exact setFace (FaceRecord.returnClosed_keepsTarget _)

theorem returnTest (s : State) : s.KeepsTarget f (s.returnTest f) := by
  unfold State.returnTest
  split
  · exact endReturn s
  · exact refl s

theorem startReturn (s : State) (floor : Nat) : s.KeepsTarget f (s.startReturn f floor) :=
  ((setFace (FaceRecord.toReturning_keepsTarget _ _)).trans (releaseDriven _)).trans (returnTest _)

theorem lampFault (s : State) : s.KeepsTarget f (s.lampFault f) :=
  (setFace (FaceRecord.darken_keepsTarget _)).trans (releaseDriven _)

theorem relight (s : State) : s.KeepsTarget f (s.relight f) := by
  have hplace : s.KeepsTarget f
      (s.setFace f { (s.face f).place .closed with relightAwaited := false, testedWait := false }) :=
    setFace ⟨rfl, rfl, id⟩
  unfold State.relight
  dsimp only
  split
  · exact hplace.trans (setLamp _)
  · exact hplace
  · exact hplace.trans (setFace (FaceRecord.settleOn_keepsTarget _ _))
  · exact (hplace.trans (reportLamp _ _)).trans (lampFault _)

theorem relightTest (s : State) : s.KeepsTarget f (s.relightTest f) := by
  unfold State.relightTest
  split
  · split
    · exact relight s
    · exact setFace ⟨rfl, rfl, id⟩
  · exact refl s

/-- The table of R18 after the discard of the pending target. -/
theorem releaseAllFace_discarded (s : State) :
    (s.setFace f { s.face f with pending := none }).KeepsTarget f (s.releaseAllFace f) := by
  have hawait (u : State) : u.KeepsTarget f (u.setFace f { u.face f with relightAwaited := true }) :=
    setFace ⟨rfl, rfl, id⟩
  unfold State.releaseAllFace
  dsimp only
  split
  · exact returnTest _
  · split
    · exact refl _
    · exact startReturn _ _
  · split
    · exact refl _
    · split
      · exact (hawait _).trans (relightTest _)
      · exact refl _
    all_goals exact startReturn _ _

theorem releaseAllFace (s : State) : s.KeepsTarget f (s.releaseAllFace f) :=
  (setFace (r := { s.face f with pending := none }) ⟨rfl, rfl, fun _ => rfl⟩).trans (releaseAllFace_discarded s)

end State.KeepsTarget

/-- The table of R18 discards the pending target of its face. -/
theorem State.releaseAllFace_unpending (s : State) (f : Face) : ((s.releaseAllFace f).face f).pending = none :=
  (State.KeepsTarget.releaseAllFace_discarded s).record.unpending (by rw [State.setFace_face])

/-! ### The rows of R18 -/

theorem State.releaseAllFace_closed {s : State} {f : Face} (h : (s.face f).steadyClosed = true) :
    (s.releaseAllFace f).face f = { s.face f with pending := none } := by
  have hs : (s.face f).state = .steady ∧ (s.face f).shown = .closed := by simpa [FaceRecord.steadyClosed] using h
  simp [State.releaseAllFace, hs]

theorem State.releaseAllFace_relighting {s : State} {f : Face} (h : (s.face f).relighting = true) :
    (s.releaseAllFace f).face f = { s.face f with pending := none } := by
  have hs : (s.face f).state = .changing := by
    simp only [FaceRecord.relighting, Bool.and_eq_true, beq_iff_eq] at h
    exact h.1
  simp [State.releaseAllFace, hs, h]

/-- A permissive face and one in a change that is no relight, with a shutter active, R18. -/
theorem State.releaseAllFace_returns {s : State} {f : Face}
    (h : (s.face f).state = .steady ∧ (s.face f).shown.permissive = true ∨
      (s.face f).state = .changing ∧ (s.face f).relighting = false) (hq : s.quiet f = false) :
    (s.releaseAllFace f).face f = { s.face f with
      state := .returning, change := none, pending := none
      env := ⟨if (s.face f).state = .steady then (s.face f).rank else (s.face f).env.floor, 2⟩ } := by
  have hstart (floor : Nat) : ((s.setFace f { s.face f with pending := none }).startReturn f floor).face f =
      { s.face f with state := .returning, change := none, pending := none, env := ⟨floor, 2⟩ } := by
    rw [State.startReturn_active _ (by simpa using hq)]
    simp [FaceRecord.toReturning, FaceRecord.reasonAll]
  rcases h with ⟨hs, hp⟩ | ⟨hs, hr⟩
  · have he : s.releaseAllFace f = (s.setFace f { s.face f with pending := none }).startReturn f (s.face f).rank := by
      cases ha : (s.face f).shown <;> simp_all [State.releaseAllFace, Aspect.permissive]
    rw [he, hstart, if_pos hs]
  · have he : s.releaseAllFace f = (s.setFace f { s.face f with pending := none }).startReturn f (s.face f).env.floor := by
      simp [State.releaseAllFace, hs, hr]
    rw [he, hstart, if_neg (by simp [hs])]

/-- A DARK face without a latch and with every shutter OFF relights, R14, R18. -/
theorem State.releaseAllFace_dark {s : State} {f : Face} (hd : (s.face f).steadyDark = true)
    (hl : (s.face f).latch = .none) (ho : s.allOff f = true) (hoff : (s.lamp f).state = .off) :
    ((s.releaseAllFace f).face f).relighting = true ∧ ((s.releaseAllFace f).lamp f).state = .ramping := by
  obtain ⟨hs, hdark⟩ := (FaceRecord.steadyDark_iff _).mp hd
  have he : s.releaseAllFace f =
      (s.setFace f { s.face f with pending := none, relightAwaited := true }).relight f := by
    rw [← State.relightTest_off (by simp) (by simpa [FaceRecord.steadyDark] using hd) (by simpa using ho)]
    simp [State.releaseAllFace, hs, hdark, hl]
  rw [he, State.relight_off (by simpa using hdark) (by simpa using hoff)]
  simp [FaceRecord.relighting, State.lamp, State.setLamp]

/-! ### Release-all, R38 -/

theorem State.forced_face (s : State) (c : Cause) (f : Face) : (s.forced c).face f = s.face f := by
  cases f <;> rfl

theorem State.forced_config (s : State) (c : Cause) (f : Face) : (s.forced c).config f = s.config f := by
  cases f <;> rfl

/-- The releases leave a face's shutters as active as they were. -/
theorem State.forced_quiet (s : State) (c : Cause) (f : Face) : (s.forced c).quiet f = s.quiet f := by
  cases f
  · exact (State.quiet_congr (State.releaseDriven_channels_other _ .w)).trans (State.releaseDriven_quiet _ .e)
  · exact (State.releaseDriven_quiet _ .w).trans (State.quiet_congr (State.releaseDriven_channels_other _ .e))

theorem State.forced_lamp (s : State) (c : Cause) (f : Face) : (s.forced c).lamp f = s.lamp f := by
  simp only [State.forced, State.assertReleaseAll, State.releaseDriven_lamp_eq]
  rfl

/-- A face with every shutter OFF has none to release. -/
theorem State.releaseDriven_allOff {s : State} {f : Face} (h : s.allOff f = true) (g : Face) :
    (s.releaseDriven g).allOff f = true := by
  by_cases hg : g = f
  · subst hg
    rwa [State.releaseDriven_quiet_self (State.quiet_of_allOff h)]
  · rw [State.allOff_congr (s := s)]
    · exact h
    · rw [eq_otherFace_of_ne (Ne.symm hg)]
      exact State.releaseDriven_channels_other s g

theorem State.forced_allOff {s : State} {f : Face} (h : s.allOff f = true) (c : Cause) :
    (s.forced c).allOff f = true := State.releaseDriven_allOff (State.releaseDriven_allOff h .e) .w

/-! ### Entry to FAILSAFE, R151 -/

/-- The node as the table of R18 finds it for face `f`: face E is taken first. -/
def State.closing (s : State) (c : Cause) : Face → State
  | .e => s.forced c
  | .w => (s.forced c).releaseAllFace .e

/-- The table for face E leaves face W and its channels. -/
theorem State.closing_face (s : State) (c : Cause) (f : Face) : (s.closing c f).face f = s.face f := by
  cases f
  · rfl
  · exact (State.KeepsTarget.releaseAllFace (f := .e) _).otherFace

theorem State.closing_channels (s : State) (c : Cause) (f : Face) :
    (s.closing c f).channels f = (s.forced c).channels f := by
  cases f
  · rfl
  · exact (State.KeepsTarget.releaseAllFace (f := .e) _).otherChannels

/-- The entry leaves face `f` as the table of R18 does. -/
theorem State.enterFailsafe_face (s : State) (c : Cause) (f : Face) :
    (s.enterFailsafe c).face f = ((s.closing c f).releaseAllFace f).face f := by
  cases f
  · exact (State.KeepsTarget.releaseAllFace (f := .w) _).otherFace
  · rfl

theorem State.enterFailsafe_channels (s : State) (c : Cause) (f : Face) :
    (s.enterFailsafe c).channels f = ((s.closing c f).releaseAllFace f).channels f := by
  cases f
  · exact (State.KeepsTarget.releaseAllFace (f := .w) _).otherChannels
  · rfl

theorem State.enterFailsafe_superseded (s : State) (c : Cause) :
    (s.enterFailsafe c).fault.superseded = s.fault.superseded :=
  (State.KeepsTarget.releaseAllFace (f := .w) _).superseded.trans
    (State.KeepsTarget.releaseAllFace (f := .e) (s.forced c)).superseded

theorem State.enterFailsafe_config (s : State) (c : Cause) (f : Face) : (s.enterFailsafe c).config f = s.config f :=
  ((State.KeepsTarget.releaseAllFace (f := .w) _).config f).trans
    (((State.KeepsTarget.releaseAllFace (f := .e) (s.forced c)).config f).trans (s.forced_config c f))

/-- No shutter is driven once release-all is asserted, R38. -/
theorem State.enterFailsafe_not_driven (s : State) (c : Cause) (f : Face) : (s.enterFailsafe c).anyDriven f = false :=
  ((State.FacesOnly.releaseAllFace (s.forced c) .e).trans (.releaseAllFace _ .w)).not_driven rfl (s.forced_not_driven c f)

theorem State.enterFailsafe_node (s : State) (c : Cause) : (s.enterFailsafe c).node =
    { s.node.addCause c with state := .failsafe, leaving := false, ending := false } :=
  ((State.FacesOnly.releaseAllFace (s.forced c) .e).trans (.releaseAllFace _ .w)).node

theorem State.enterFailsafe_sup (s : State) (c : Cause) :
    (s.enterFailsafe c).sup = { s.sup with timer := .stopped, releaseAll := true } :=
  ((State.FacesOnly.releaseAllFace (s.forced c) .e).trans (.releaseAllFace _ .w)).sup

/-- Outside UNNUMBERED, NUMBERED and FAILSAFE a cause is the entry to FAILSAFE, R63. -/
theorem State.arise_enterFailsafe {s : State} {c : Cause}
    (h : s.node.state = .standby ∨ s.node.state = .service ∨ s.node.state = .held ∨ s.node.state = .maintenance) :
    s.arise c = s.enterFailsafe c := by
  rcases h with h | h | h | h <;> simp [State.arise, h]

/-- Settles O44: the entry to FAILSAFE is release-all and then the table of R18 for face E and for face W; each row is read on the
node as the table finds it. -/
theorem forcedClosureIsOneEvent : Obligations.ForcedClosureIsOneEvent := by
  unfold Obligations.ForcedClosureIsOneEvent
  intro s c f
  refine ⟨fun h => by rcases h with h | h | h <;> simp [State.arise, h, NodeRecord.addCause, State.setNode], fun h => ?_⟩
  rw [State.arise_enterFailsafe h, State.enterFailsafe_face]
  have hface := s.closing_face c f
  have hkeep := State.KeepsTarget.releaseAllFace (f := f) (s.closing c f)
  have hquiet : (s.closing c f).quiet f = s.quiet f := (State.quiet_congr (s.closing_channels c f)).trans (s.forced_quiet c f)
  refine ⟨s.enterFailsafe_node c, s.enterFailsafe_sup c, s.enterFailsafe_not_driven c f, State.releaseAllFace_unpending _ f,
    hface ▸ hkeep.record.target, hface ▸ hkeep.record.mergeLost, s.enterFailsafe_superseded c, by simp, by simp, by simp,
    by simp, by simp, s.enterFailsafe_config c f, fun hc => ?_, fun hr => ?_, fun hr hq => ?_, fun hd hl ho hoff => ?_⟩
  · rw [State.releaseAllFace_closed (by rwa [hface]), hface]
  · rw [State.releaseAllFace_relighting (by rwa [hface]), hface]
  · rw [State.releaseAllFace_returns (by rwa [hface]) (hquiet.trans hq), hface]
  · have hlamp : (s.closing c f).lamp f = s.lamp f :=
      (congrArg FaceChannels.lamp (s.closing_channels c f)).trans (s.forced_lamp c f)
    have hoff' : (s.closing c f).allOff f = true := by
      rw [State.allOff_congr (s.closing_channels c f)]
      exact State.forced_allOff ho c
    obtain ⟨hrelight, hramp⟩ := State.releaseAllFace_dark (s := s.closing c f) (f := f) (by rwa [hface]) (by rwa [hface])
      hoff' (by rwa [hlamp])
    exact ⟨hrelight, by rw [State.lamp, State.enterFailsafe_channels]; exact hramp⟩

end Sys2Proof.Machine
end

section
/-! MAINTAIN, END_MAINTAIN and the changes that end while maintenance is ending (O29): R12-R15, R21, R39, R76, R77. -/

namespace Sys2Proof.Machine

/-! ### The close of one face -/

/-- The change of R12 as it starts. -/
theorem State.beginClose_eq (s : State) (f : Face) : s.beginClose f = (s.setFace f { s.face f with
    state := .changing, env := ⟨(s.face f).shown.rank.getD 0, 2⟩
    change := some ⟨(s.face f).shown, .closed, .one⟩ }).releaseShutter f .mask := by
  rw [State.beginClose, FaceRecord.place, changeEnv_closed]

/-- A DARK face asked to CLOSED with every shutter OFF relights at once, R14, R39. -/
theorem State.awaitRelight_off {s : State} {f : Face} (hd : (s.face f).steadyDark = true) (ho : s.allOff f = true) :
    s.awaitRelight f = (s.setFace f { s.face f with relightAwaited := true }).relight f := by
  rw [State.awaitRelight_quiet (State.quiet_of_allOff ho)]
  exact State.relightTest_off (by simp) (by simpa [FaceRecord.steadyDark] using hd) (by simpa using ho)

theorem State.KeepsTarget.releaseShutter {f : Face} (s : State) (k : Shutter) : s.KeepsTarget f (s.releaseShutter f k) :=
  ⟨by rw [State.releaseShutter_face]; exact ⟨rfl, rfl, id⟩, by simp, by simp [State.releaseShutter],
    by simp, by simp [State.releaseShutter]⟩

theorem State.KeepsTarget.awaitRelight {f : Face} (s : State) : s.KeepsTarget f (s.awaitRelight f) :=
  ((State.KeepsTarget.setFace (r := { s.face f with
    relightAwaited := true, testedWait := (s.face f).testedWait || s.anyDriven f }) ⟨rfl, rfl, id⟩).trans
      (.releaseDriven _)).trans (.relightTest _)

theorem State.KeepsTarget.askClose {f : Face} (s : State) : s.KeepsTarget f (s.askClose f) := by
  have hbegin : s.KeepsTarget f (s.beginClose f) :=
    (State.KeepsTarget.setFace (r := (s.face f).place .closed) ⟨rfl, rfl, id⟩).trans (.releaseShutter _ _)
  unfold State.askClose
  split
  · exact .refl s
  · exact .awaitRelight s
  all_goals exact hbegin

/-! ### END_MAINTAIN on one face, R77 -/

section
variable {s : State} {f : Face}

theorem State.endFace_closed (h : (s.face f).steadyClosed = true) : s.endFace f = s := if_pos h

theorem State.endFace_steady (h : (s.face f).state = .steady) (hc : (s.face f).shown ≠ .closed) :
    s.endFace f = (s.setFace f { s.face f with target := ⟨.closed, .maint⟩ }).askClose f := by
  rw [State.endFace, if_neg (by simp [FaceRecord.steadyClosed, h, hc])]
  exact if_pos h

theorem State.endFace_moving (h : (s.face f).state ≠ .steady) :
    s.endFace f = s.setFace f { s.face f with target := ⟨.closed, .maint⟩ } := by
  rw [State.endFace, if_neg (by simp [FaceRecord.steadyClosed, h])]
  exact if_neg h

theorem State.endFace_face_other (s : State) (f : Face) : (s.endFace f).face (otherFace f) = s.face (otherFace f) := by
  unfold State.endFace
  dsimp only
  split
  · rfl
  · split
    · rw [(State.KeepsTarget.askClose _).otherFace, State.setFace_face_other]
    · rw [State.setFace_face_other]

/-- A permissive face starts its change to CLOSED, R12. -/
theorem State.endFace_permissive (h : (s.face f).state = .steady) (hp : (s.face f).shown.permissive = true) :
    s.endFace f = (s.setFace f { s.face f with
      state := .changing, env := ⟨(s.face f).shown.rank.getD 0, 2⟩
      change := some ⟨(s.face f).shown, .closed, .one⟩, target := ⟨.closed, .maint⟩ }).releaseShutter f .mask := by
  rw [State.endFace_steady h (by rintro hc; simp [hc, Aspect.permissive] at hp),
    State.askClose_permissive (by simpa using hp), State.beginClose_eq]
  simp

/-- A DARK face with a shutter active waits, R39. -/
theorem State.endFace_dark_active (hd : (s.face f).steadyDark = true) (hq : s.quiet f = false) :
    s.endFace f = (s.setFace f { s.face f with
      target := ⟨.closed, .maint⟩, relightAwaited := true
      testedWait := (s.face f).testedWait || s.anyDriven f }).releaseDriven f := by
  obtain ⟨hs, hdark⟩ := (FaceRecord.steadyDark_iff _).mp hd
  rw [State.endFace_steady hs (by simp [hdark]), State.askClose_dark (by simpa using hdark),
    State.awaitRelight_active (by simpa using hq)]
  simp

/-- A quiet DARK face with a shutter BLOCKED stays DARK, R18, R39. -/
theorem State.endFace_dark_blocked (hd : (s.face f).steadyDark = true) (hq : s.quiet f = true)
    (hb : s.anyBlocked f = true) : s.endFace f = s.setFace f { s.face f with
      target := ⟨.closed, .maint⟩, relightAwaited := false, testedWait := false
      latch := if (s.face f).latch = .lamp ∧ (s.face f).testedWait = false then .lamp else .element } := by
  obtain ⟨hs, hdark⟩ := (FaceRecord.steadyDark_iff _).mp hd
  rw [State.endFace_steady hs (by simp [hdark]), State.askClose_dark (by simpa using hdark),
    State.awaitRelight_blocked (by simpa [FaceRecord.steadyDark] using hd) (by simpa using hq) (by simpa using hb)]
  simp

/-- A DARK face with every shutter OFF relights, R14, R39. -/
theorem State.endFace_dark_off (hd : (s.face f).steadyDark = true) (ho : s.allOff f = true) :
    s.endFace f =
      (s.setFace f { s.face f with target := ⟨.closed, .maint⟩, relightAwaited := true }).relight f := by
  obtain ⟨hs, hdark⟩ := (FaceRecord.steadyDark_iff _).mp hd
  rw [State.endFace_steady hs (by simp [hdark]), State.askClose_dark (by simpa using hdark),
    State.awaitRelight_off (by simpa [FaceRecord.steadyDark] using hd) (by simpa using ho)]
  simp

theorem State.endFace_lamp_off (hd : (s.face f).steadyDark = true) (ho : s.allOff f = true)
    (hl : (s.lamp f).state = .off) : s.endFace f = (s.setFace f { s.face f with
      state := .changing, env := ⟨0, 2⟩, change := some ⟨.dark, .closed, .one⟩
      target := ⟨.closed, .maint⟩, relightAwaited := false, testedWait := false }).setLamp f { s.lamp f with
        state := .ramping, timer := some (s.config f).rampTime } := by
  have hdark := ((FaceRecord.steadyDark_iff _).mp hd).2
  rw [State.endFace_dark_off hd ho, State.relight_off (by simpa using hdark) (by simpa using hl)]
  simp

theorem State.endFace_lamp_ramping (hd : (s.face f).steadyDark = true) (ho : s.allOff f = true)
    (hl : (s.lamp f).state = .ramping) : s.endFace f = s.setFace f { s.face f with
      state := .changing, env := ⟨0, 2⟩, change := some ⟨.dark, .closed, .one⟩
      target := ⟨.closed, .maint⟩, relightAwaited := false, testedWait := false } := by
  have hdark := ((FaceRecord.steadyDark_iff _).mp hd).2
  rw [State.endFace_dark_off hd ho, State.relight_ramping (by simpa using hdark) (by simpa using hl)]
  simp

/-- A LIT lamp: the face is CLOSED at once. -/
theorem State.endFace_lamp_lit (hd : (s.face f).steadyDark = true) (ho : s.allOff f = true)
    (hl : (s.lamp f).state = .lit) (hp : (s.face f).pending = none) : s.endFace f = s.setFace f { s.face f with
      shown := .closed, state := .steady, env := ⟨2, 2⟩, change := none, target := ⟨.closed, .maint⟩
      relightAwaited := false, testedWait := false } := by
  have hdark := ((FaceRecord.steadyDark_iff _).mp hd).2
  rw [State.endFace_dark_off hd ho,
    State.relight_lit (by simpa using hdark) (by simpa using hl) (by simpa using hp)]
  simp

/-- A BLOCKED lamp: the face stays DARK and the fault is reported again, R37. -/
theorem State.endFace_lamp_blocked (hd : (s.face f).steadyDark = true) (ho : s.allOff f = true)
    (hl : (s.lamp f).state = .blocked) (hp : (s.face f).pending = none) : s.endFace f = (s.setFace f { s.face f with
      env := ⟨0, 2⟩, change := none, latch := .lamp, target := ⟨.closed, .maint⟩
      relightAwaited := false, testedWait := false }).reportLamp f (s.lamp f).lastFault := by
  rw [State.endFace_dark_off hd ho, State.relight_blocked (by simpa [FaceRecord.steadyDark] using hd)
    (by simpa using State.quiet_of_allOff ho) (by simpa using hl)]
  simp [hp]

end

/-! ### The commands -/

theorem exec_maintain {s : State} {x : CommandPayload} (h : s.executes .maintain x = true) :
    exec (.maintain x) s = .next (({ s.handed .maintain with
      node := { s.node with state := .maintenance } } : State).sendReply .maintain x (.done [])) := by
  have hrun := State.running_of_executes h
  show Host.Outcome.next (s.command .maintain x maintain) = _
  rw [State.command_executes h (by decide) maintain (by simpa [maintain] using hrun)]
  simp [maintain, State.setNode]

theorem endMaintain_phase (s : State) (args : List Word) : (endMaintain s args).1.phase = s.phase := by
  unfold endMaintain
  split
  · rfl
  · simp

/-- A second END_MAINTAIN starts nothing. -/
theorem exec_endMaintain_again {s : State} {x : CommandPayload} (h : s.executes .endMaintain x = true)
    (he : s.node.ending = true) :
    exec (.endMaintain x) s = .next ((s.handed .endMaintain).sendReply .endMaintain x (.done [])) := by
  have hrun := State.running_of_executes h
  show Host.Outcome.next (s.command .endMaintain x endMaintain) = _
  rw [State.command_executes h (by decide) endMaintain (by rw [endMaintain_phase]; simpa using hrun)]
  simp [endMaintain, he]

/-- The node an END_MAINTAIN closes the faces of. -/
def State.endingMaintenance (s : State) : State :=
  { s.handed .endMaintain with node := { s.node with ending := true } }

theorem exec_endMaintain {s : State} {x : CommandPayload} (h : s.executes .endMaintain x = true)
    (he : s.node.ending = false) : exec (.endMaintain x) s =
      .next ((((s.endingMaintenance.endFace .e).endFace .w).nodeTests).sendReply .endMaintain x (.done [])) := by
  have hrun := State.running_of_executes h
  show Host.Outcome.next (s.command .endMaintain x endMaintain) = _
  rw [State.command_executes h (by decide) endMaintain (by rw [endMaintain_phase]; simpa using hrun)]
  simp only [endMaintain, State.handed_node, he]
  rfl

section
variable {s : State} {f : Face}

@[simp] theorem State.endingMaintenance_node (s : State) : s.endingMaintenance.node = { s.node with ending := true } := rfl
@[simp] theorem State.endingMaintenance_faces (s : State) : s.endingMaintenance.faces = s.faces := s.handed_faces _
@[simp] theorem State.endingMaintenance_face (s : State) (f : Face) : s.endingMaintenance.face f = s.face f :=
  State.face_of_faces (by simp) f
@[simp] theorem State.endingMaintenance_channels (s : State) (f : Face) : s.endingMaintenance.channels f = s.channels f :=
  State.channels_of_elem (s.handed_elem _) f
@[simp] theorem State.endingMaintenance_lamp (s : State) (f : Face) : s.endingMaintenance.lamp f = s.lamp f :=
  congrArg FaceChannels.lamp (s.endingMaintenance_channels f)
@[simp] theorem State.endingMaintenance_config (s : State) (f : Face) : s.endingMaintenance.config f = s.config f := by
  cases f <;> simp [State.config, State.endingMaintenance]

/-- With one face STEADY on CLOSED an END_MAINTAIN closes the other. -/
theorem endFaces_eq (u : State) (h : (u.face (otherFace f)).steadyClosed = true) :
    (u.endFace .e).endFace .w = u.endFace f := by
  cases f
  · exact State.endFace_closed (by rw [show Face.w = otherFace .e from rfl, State.endFace_face_other]; exact h)
  · rw [State.endFace_closed (f := .e) h]

theorem exec_endMaintain_one {x : CommandPayload} (h : s.executes .endMaintain x = true) (he : s.node.ending = false)
    (ho : (s.face (otherFace f)).steadyClosed = true) : exec (.endMaintain x) s =
      .next (((s.endingMaintenance.endFace f).nodeTests).sendReply .endMaintain x (.done [])) := by
  rw [exec_endMaintain h he, endFaces_eq (f := f) _ (by simpa using ho)]

/-- END_MAINTAIN on the one face that is not STEADY CLOSED: a close that leaves it so leaves the node in MAINTENANCE, R77. -/
theorem exec_endMaintain_open {x : CommandPayload} (h : s.executes .endMaintain x = true) (he : s.node.ending = false)
    (ho : (s.face (otherFace f)).steadyClosed = true) {t u : State} (ht : t = s.endingMaintenance)
    (hu : t.endFace f = u) (hopen : (u.face f).steadyClosed = false) :
    exec (.endMaintain x) s = .next (u.sendReply .endMaintain x (.done [])) := by
  rw [exec_endMaintain_one h he ho, ← ht, hu, State.nodeTests_of_open hopen]

end

/-! ### Changes that end while maintenance is ending, R21 -/

section
variable {s : State} {f : Face}

theorem State.endingClose_on (hm : s.node.state = .maintenance) (he : s.node.ending = true)
    (hs : (s.face f).state = .steady) : s.endingClose f = s.askClose f := by
  simp [State.endingClose, hm, he, hs]

/-- A change to a permissive aspect that ends starts the change to CLOSED. -/
theorem State.completeChange_closing {b : Aspect} {rank : Nat} (hm : s.node.state = .maintenance)
    (he : s.node.ending = true) (hs : (s.face f).state = .changing) (hb : b.permissive = true) (hr : b.rank = some rank)
    (hp : (s.face f).pending = none) : s.completeChange f b = (s.setFace f { s.face f with
      shown := b, env := ⟨rank, 2⟩, change := some ⟨b, .closed, .one⟩ }).releaseShutter f .mask := by
  rw [State.completeChange, FaceRecord.settleOn_eq (by simp [hp]),
    State.endingClose_on (by simpa using hm) (by simpa using he) (by simp), State.askClose_permissive (by simpa using hb), State.beginClose_eq]
  simp [hr, hs, hp]

/-- The wait of R13 that ends while maintenance is ending is followed by the wait for the relight. -/
theorem State.darkTest_closing (hm : s.node.state = .maintenance) (he : s.node.ending = true)
    (hd : (s.face f).changingTo .dark = true) (hq : s.quiet f = true) (hp : (s.face f).pending = none) :
    s.darkTest f = ((s.lampOff f).setFace f { s.face f with
      shown := .dark, state := .steady, env := ⟨0, 2⟩, change := none
      latch := if s.anyBlocked f = true then .element else (s.face f).latch }).awaitRelight f := by
  have hr : (s.face f).settleOn .dark =
      { s.face f with shown := .dark, state := .steady, env := ⟨0, 2⟩, change := none } := by
    rw [FaceRecord.settleOn_eq (by simp [hp])]
    simp [steadyEnv, Aspect.rank, Envelope.wide, hp]
  simp only [State.darkTest, hd, hq, Bool.and_self, if_true, hr]
  rw [State.endingClose_on (by simpa using hm) (by simpa using he) (by split <;> simp),
    State.askClose_dark (by split <;> simp)]
  split <;> rfl

end

/-- A MASK that reports MOVED ends an opening change, R10, and the change to CLOSED follows. -/
theorem exec_moved_closing {s : State} {f : Face} {b : Aspect} {rawPeak rawNow peak rank : Nat}
    (hm : s.node.state = .maintenance) (he : s.node.ending = true) (hs : (s.face f).state = .changing)
    (hb : b.permissive = true) (hr : b.rank = some rank) (hp : (s.face f).pending = none)
    (hc : (s.face f).change = some ⟨.closed, b, .two⟩) (hpull : (s.shutter f .mask).state = .pulling)
    (hseen : (s.shutter f .mask).movedSeen = false)
    (hpeak : peak = max (max ((s.shutter f .mask).peak.getD 0) (s.measureShutter f .mask rawPeak))
      (s.measureShutter f .mask rawNow))
    (hdip : s.measureShutter f .mask rawNow + (s.config f).mask.dipThreshold < peak) :
    exec (.moved f .mask rawPeak rawNow) s = .next
      (((s.setShutter f .mask { s.shutter f .mask with
          measured := s.measureShutter f .mask rawNow, movedSeen := true, peak := some peak }).setFace f
        { s.face f with
          shown := b, env := ⟨rank, 2⟩, change := some ⟨b, .closed, .one⟩ }).releaseShutter f .mask) := by
  rw [exec_moved hpull hseen hpeak hdip, State.movedStep_completes (by simpa using hs) (by simpa using hc),
    State.completeChange_closing (by simpa using hm) (by simpa using he) (by simpa using hs) hb hr (by simpa using hp),
    State.afterReport_changing (by simpa using hs) (by simp [FaceRecord.changingTo])]
  simp

/-- A symbol that reports DROPPED ends a sideways change, R11, and the change to CLOSED follows. -/
theorem exec_dropped_closing {s : State} {f : Face} {k : Shutter} {a b : Aspect} {raw rank : Nat}
    (hm : s.node.state = .maintenance) (he : s.node.ending = true) (hs : (s.face f).state = .changing)
    (hb : b.permissive = true) (hr : b.rank = some rank) (hp : (s.face f).pending = none)
    (hc : (s.face f).change = some ⟨a, b, .two⟩) (ha : a.symbol = some k) (hrel : (s.shutter f k).state = .releasing)
    (hz : s.measureShutter f k raw = 0) :
    exec (.dropped f k raw) s = .next
      (((s.setShutter f k { s.shutter f k with
          state := .off, measured := 0, peak := none, timer := none }).setFace f
        { s.face f with
          shown := b, env := ⟨rank, 2⟩, change := some ⟨b, .closed, .one⟩ }).releaseShutter f .mask) := by
  rw [exec_dropped hrel hz, State.droppedStep_completes (by simpa using hs) (by simpa using hc) ha,
    State.completeChange_closing (by simpa using hm) (by simpa using he) (by simpa using hs) hb hr (by simpa using hp),
    State.afterReport_changing (by simpa using hs) (by simp [FaceRecord.changingTo])]
  simp

section
variable {s t u : State} {f : Face} {k : Shutter} {a : Aspect} {raw : Nat}

/-- An off to a lamp that is not BLOCKED, R35. -/
theorem LampChannel.turnOff_eq {c : LampChannel} (h : c.state ≠ .blocked) :
    c.turnOff.2 = { c with state := .off, timer := none, moveFrom := none } := by
  cases hc : c.state <;> simp_all [LampChannel.turnOff]

theorem LampChannel.turnOff_blocked {c : LampChannel} (h : c.state = .blocked) : c.turnOff.2 = c := by
  simp [LampChannel.turnOff, h]

/-- A shutter that reports DROPPED ends the wait of R13: the face is DARK, its lamp off, and it awaits the relight. -/
theorem exec_dropped_dark (hm : s.node.state = .maintenance) (he : s.node.ending = true)
    (hs : (s.face f).state = .changing) (hc : (s.face f).change = some ⟨a, .dark, .one⟩)
    (hp : (s.face f).pending = none) (hrel : (s.shutter f k).state = .releasing) (hz : s.measureShutter f k raw = 0)
    (ht : t = s.setShutter f k { s.shutter f k with state := .off, measured := 0, peak := none, timer := none })
    (hq : t.quiet f = true)
    (hu : ((t.lampOff f).setFace f { s.face f with
      shown := .dark, state := .steady, env := ⟨0, 2⟩, change := none
      latch := if t.anyBlocked f = true then .element else (s.face f).latch }).awaitRelight f = u)
    (hw : (u.face f).relightAwaited = false) (hopen : (u.face f).steadyClosed = false) :
    exec (.dropped f k raw) s = .next u := by
  have htf : t.face f = s.face f := by rw [ht]; simp
  have hdark : (t.face f).changingTo .dark = true := by rw [htf]; simp [FaceRecord.changingTo, hs, hc]
  rw [exec_dropped hrel hz, ← ht, State.droppedStep_to_dark (by rwa [htf]) (by rwa [htf]), State.afterReport,
    State.channelTests_to_dark hdark,
    State.darkTest_closing (by rw [ht]; simpa using hm) (by rw [ht]; simpa using he) hdark hq (by rwa [htf]), htf, hu,
    State.relightTest_of_not (by simp [hw]), State.nodeTests_of_open hopen]

end

/-- With both faces STEADY CLOSED an END_MAINTAIN takes the node to STANDBY at once, R77. -/
theorem exec_endMaintain_standby {s : State} {x : CommandPayload} (h : s.executes .endMaintain x = true)
    (he : s.node.ending = false) (hb : s.bothClosed = true) : exec (.endMaintain x) s =
      .next (({ s.handed .endMaintain with
        node := { s.node with state := .standby, leaving := false, ending := false }
        sup := { s.sup with timer := .stopped, releaseAll := false }
        faces := ⟨{ s.faces.e with mergeLost := none }, { s.faces.w with mergeLost := none }⟩ } : State).sendReply
          .endMaintain x (.done [])) := by
  have hm : s.node.state = .maintenance := State.maintenance_of_executes h rfl
  obtain ⟨hce, hcw⟩ : s.faces.e.steadyClosed = true ∧ s.faces.w.steadyClosed = true := by
    simpa [State.bothClosed] using hb
  have hnode : s.endingMaintenance.nodeTests = s.endingMaintenance.enterStandby :=
    State.nodeTests_standby (.inr ⟨hm, rfl, by simpa [State.bothClosed] using hb⟩)
  rw [exec_endMaintain_one (f := .e) h he hcw, State.endFace_closed (by simpa [State.face] using hce), hnode,
    State.enterStandby_eq]
  simp [State.endingMaintenance]

/-- A LIT lamp closes the last open face at once, and the node enters STANDBY, R77. -/
theorem exec_endMaintain_lit {s t : State} {x : CommandPayload} {f : Face} (h : s.executes .endMaintain x = true)
    (he : s.node.ending = false) (ho : (s.face (otherFace f)).steadyClosed = true) (hd : (s.face f).steadyDark = true)
    (hoff : s.allOff f = true) (hl : (s.lamp f).state = .lit) (hp : (s.face f).pending = none)
    (ht : t = s.endingMaintenance) :
    exec (.endMaintain x) s = .next ((({ t with
      node := { s.node with state := .standby, leaving := false, ending := false }
      sup := { s.sup with timer := .stopped, releaseAll := false } } : State).setFace (otherFace f)
        { s.face (otherFace f) with mergeLost := none }).setFace f { s.face f with
          shown := .closed, state := .steady, env := ⟨2, 2⟩, change := none, target := ⟨.closed, .maint⟩
          mergeLost := none, relightAwaited := false, testedWait := false }
      |>.sendReply .endMaintain x (.done [])) := by
  have hm : s.node.state = .maintenance := State.maintenance_of_executes h rfl
  have hface := State.endFace_lamp_lit (s := s.endingMaintenance) (f := f) (by simpa using hd)
    ((State.allOff_congr (s.endingMaintenance_channels f)).trans hoff) (by simpa using hl) (by simpa using hp)
  have hclosed : (s.endingMaintenance.endFace f).bothClosed = true := by
    rw [hface]
    cases f <;> simpa [State.bothClosed, State.setFace, State.face, otherFace, FaceRecord.steadyClosed] using ho
  rw [exec_endMaintain_one h he ho,
    State.nodeTests_standby (.inr ⟨by rw [hface]; simpa using hm, by rw [hface]; simp, hclosed⟩), hface,
    State.enterStandby_eq, ht]
  cases f <;> simp [State.endingMaintenance, State.setFace, State.setFaces, State.face, otherFace]

/-- Settles O29: MAINTAIN and END_MAINTAIN by their effects, the close of each face by its state, and the changes that end while
maintenance is ending by the close that follows them. -/
theorem endMaintainClosesTheFaces : Obligations.EndMaintainClosesTheFaces := by
  unfold Obligations.EndMaintainClosesTheFaces
  refine ⟨?commands, ?onFace, ?oneFace, ?ranked, ?toDark⟩
  case commands =>
    intro s x
    refine ⟨exec_maintain, exec_endMaintain_again, exec_endMaintain_standby, fun h he hw hs hp => ?_⟩
    rw [exec_endMaintain_open (f := .e) h he hw rfl (State.endFace_permissive (by simpa [State.face] using hs)
      (by simpa [State.face] using hp)) (by simp [FaceRecord.steadyClosed])]
    simp [State.endingMaintenance, State.setFace, State.setFaces, State.face, FaceRecord.rank]
  case onFace =>
    intro s t u x f
    refine ⟨fun h he ht => ht ▸ exec_endMaintain h he,
      fun hs hc => State.endFace_closed (by simp [FaceRecord.steadyClosed, hs, hc]), State.endFace_steady, State.endFace_moving⟩
  case oneFace =>
    intro s t x f h he ho hopen ht
    have ht : t = s.endingMaintenance := ht
    have hf : t.face f = s.face f := by rw [ht, State.endingMaintenance_face]
    have hch : t.channels f = s.channels f := by rw [ht, State.endingMaintenance_channels]
    refine ⟨fun hs hp => ?_, fun hs => ?_, fun hd => ⟨fun hact => ?_, fun hidle hblk => ?_, fun hoff => ?_⟩⟩
    · refine exec_endMaintain_open h he ho ht ((State.endFace_permissive (by rwa [hf]) (by rwa [hf])).trans (by rw [hf])) ?_
      simp [FaceRecord.steadyClosed]
    · refine exec_endMaintain_open h he ho ht ((State.endFace_moving (by rwa [hf])).trans (by rw [hf])) ?_
      simp [FaceRecord.steadyClosed, hs]
    · have hq : t.quiet f = false := by
        obtain ⟨k, -, hk⟩ := hact
        rw [State.quiet_congr hch]
        exact State.quiet_of_active hk
      refine exec_endMaintain_open h he ho ht ((State.endFace_dark_active (by rwa [hf]) hq).trans
        (by rw [hf, State.anyDriven_congr hch])) ?_
      simp [FaceRecord.steadyClosed, ((FaceRecord.steadyDark_iff _).mp hd).2]
    · have hq : t.quiet f = true := by rwa [State.quiet_congr hch, State.quiet_iff]
      have hb : t.anyBlocked f = true := by
        obtain ⟨k, -, hk⟩ := hblk
        rw [State.anyBlocked_congr hch, State.anyBlocked_iff]
        exact ⟨k, hk⟩
      refine exec_endMaintain_open h he ho ht ((State.endFace_dark_blocked (by rwa [hf]) hq hb).trans (by rw [hf])) ?_
      simp [FaceRecord.steadyClosed, ((FaceRecord.steadyDark_iff _).mp hd).2]
    · have hoff := (s.allOff_iff f).mpr hoff
      have htoff : t.allOff f = true := (State.allOff_congr hch).trans hoff
      have hlamp : t.lamp f = s.lamp f := congrArg FaceChannels.lamp hch
      have hconfig : t.config f = s.config f := by rw [ht, State.endingMaintenance_config]
      refine ⟨fun hl => ?_, fun hl => ?_, fun hl hp => exec_endMaintain_lit h he ho hd hoff hl hp ht, fun hl hp => ?_⟩
      · refine exec_endMaintain_open h he ho ht ((State.endFace_lamp_off (by rwa [hf]) htoff (by rwa [hlamp])).trans
          (by rw [hf, hlamp, hconfig])) ?_
        simp [FaceRecord.steadyClosed]
      · refine exec_endMaintain_open h he ho ht ((State.endFace_lamp_ramping (by rwa [hf]) htoff (by rwa [hlamp])).trans
          (by rw [hf])) ?_
        simp [FaceRecord.steadyClosed]
      · refine exec_endMaintain_open h he ho ht ((State.endFace_lamp_blocked (by rwa [hf]) htoff (by rwa [hlamp])
          (by rwa [hf])).trans (by rw [hf, hlamp])) ?_
        simp [FaceRecord.steadyClosed, ((FaceRecord.steadyDark_iff _).mp hd).2]
  case ranked =>
    intro s f k a b raw rawPeak rawNow peak rank hm he hs hb hr hp
    exact ⟨fun hc => exec_moved_closing hm he hs hb hr hp hc, fun hc => exec_dropped_closing hm he hs hb hr hp hc⟩
  case toDark =>
    intro s t f k a raw hm he hs hc hp hrel hz ht
    have hlamp : t.lamp f = s.lamp f := by rw [ht]; simp
    have hconfig : t.config f = s.config f := by rw [ht]; simp
    refine ⟨fun ho hl => ?_, fun ho hl => ?_, fun hq hb => ?_⟩
    · refine exec_dropped_dark hm he hs hc hp hrel hz ht (State.quiet_of_allOff ho) ?_ (by simp) ?_
      · rw [State.awaitRelight_off (by simp [FaceRecord.steadyDark]) (by simpa using ho),
          State.relight_off (by simp) (by simp [LampChannel.turnOff_eq, hlamp, hl])]
        have hb : ¬ t.anyBlocked f = true := fun hb => by simp [State.allOff_of_anyBlocked hb] at ho
        simp [State.lampOff, LampChannel.turnOff_eq, hlamp, hconfig, hl, hb]
      · simp [FaceRecord.steadyClosed]
    · have hstill : t.lampOff f = t := by
        rw [State.lampOff, LampChannel.turnOff_blocked (hlamp ▸ hl), State.setLamp_self]
      refine exec_dropped_dark hm he hs hc hp hrel hz ht (State.quiet_of_allOff ho) ?_ (by simp)
        (by simp [FaceRecord.steadyClosed])
      rw [hstill, State.awaitRelight_off (by simp [FaceRecord.steadyDark]) (by simpa using ho),
        State.relight_blocked (by simp [FaceRecord.steadyDark]) (by simpa using State.quiet_of_allOff ho)
          (by simpa [hlamp] using hl)]
      simp [hp, hlamp]
    · refine exec_dropped_dark hm he hs hc hp hrel hz ht hq ?_ (by simp) (by simp [FaceRecord.steadyClosed])
      rw [State.awaitRelight_blocked (by simp [FaceRecord.steadyDark]) (by simpa using hq) (by simpa using hb)]
      simp [hb]

end Sys2Proof.Machine
end

section
/-! The passes of a SWEEP frame (O45-O49): R82-R84, R86-R93, R95-R100, with supervision's part of R153 and R154. Each
kind of pass has one equation for `State.sweepPass`; the statements follow from these and from the port the frame came
on. -/

namespace Sys2Proof.Machine

/-! ### The roll, R86 -/

/-- Settles O46: R86's two tables row by row. -/
theorem theRollFollowsTheGantryOrder : Obligations.TheRollFollowsTheGantryOrder := by
  unfold Obligations.TheRollFollowsTheGantryOrder
  intro g k b
  refine ⟨fun h => if_pos h, fun h => ?_, fun h => ?_, fun h => if_pos h, fun h => ?_, fun h => ?_, rfl⟩
  · exact (if_neg (by omega)).trans (if_neg (by omega))
  · exact (if_neg (by omega)).trans (if_pos h)
  · exact (if_neg (by omega)).trans (if_neg (by omega))
  · exact (if_neg (by omega)).trans (if_pos h)

/-! ### The content of a pass, R83 -/

/-- A body of 29 words is a sweep's, LENGTH 32. -/
theorem SweepBody.ofWords_isSome (ws : List Word) : (SweepBody.ofWords ws).isSome = true ↔ ws.length = 29 := by
  unfold SweepBody.ofWords
  split <;> simp_all [sweepBodyWords]

theorem SweepBody.length_of_ofWords {ws : List Word} {b : SweepBody} (h : SweepBody.ofWords ws = some b) :
    ws.length = 29 := (SweepBody.ofWords_isSome ws).mp (by rw [h]; rfl)

theorem SweepBody.ofWords_eq_none {ws : List Word} (h : ws.length ≠ 29) : SweepBody.ofWords ws = none := by
  rw [← Option.not_isSome_iff_eq_none, SweepBody.ofWords_isSome]
  exact h

theorem gantryFieldOk_iff (g : Nat) : gantryFieldOk g = true ↔ g ≤ 64 ∨ g = 255 := by
  show (decide (g ≤ 64) || g == 255) = true ↔ _
  simp

/-- The three checks of R83 on a content. -/
theorem sweepContent_eq_some_iff {f : Frame} {b : SweepBody} :
    sweepContent f = some b ↔ SweepBody.ofWords f.body = some b ∧ b.plan ≤ 250 ∧
      (b.curGantry ≤ 64 ∨ b.curGantry = 255) ∧ (b.prevGantry ≤ 64 ∨ b.prevGantry = 255) := by
  unfold sweepContent
  cases h : SweepBody.ofWords f.body with
  | none => simp
  | some c =>
    simp only [Option.ite_none_right_eq_some, Option.some.injEq, Bool.and_eq_true, decide_eq_true_eq,
      gantryFieldOk_iff, and_assoc]
    constructor
    · rintro ⟨hplan, hcur, hprev, rfl⟩
      exact ⟨rfl, hplan, hcur, hprev⟩
    · rintro ⟨rfl, hplan, hcur, hprev⟩
      exact ⟨hplan, hcur, hprev, rfl⟩

/-- What makes a pass malformed, R83. -/
theorem sweepContent_eq_none {f : Frame} {b : SweepBody} (h : f.body.length ≠ 29 ∨ (SweepBody.ofWords f.body = some b ∧
    (250 < b.plan ∨ (64 < b.curGantry ∧ b.curGantry ≠ 255) ∨ (64 < b.prevGantry ∧ b.prevGantry ≠ 255)))) :
    sweepContent f = none := by
  rw [Option.eq_none_iff_forall_ne_some]
  intro c hc
  obtain ⟨hwords, hplan, hcur, hprev⟩ := sweepContent_eq_some_iff.mp hc
  obtain hlen | ⟨hb, hbad⟩ := h
  · exact hlen (SweepBody.length_of_ofWords hwords)
  · cases Option.some.inj (hb.symm.trans hwords)
    omega

/-- A SWEEP frame with a content is a frame of R45. -/
theorem Payload.wf_of_ofWords {x : Payload} {b : SweepBody} (h : SweepBody.ofWords x.body = some b) : x.wf = true := by
  simp [Payload.wf, bodyOk, SweepBody.length_of_ofWords h]

/-! ### The sweep record, R89-R93 -/

section
variable (x : SweepBlock) (p : Pass) (q : BitVec 16)

theorem SweepBlock.take_out : x.take .out q = { x with expected := .ret, seq := some q } := rfl

/-- A return pass in step bears the record's sequence, so that its taking moves the expected pass alone, R92. -/
theorem SweepBlock.take_ret :
    x.take .ret q = { x with expected := if x.inStep .ret q then .out else x.expected } := by
  unfold SweepBlock.take
  cases h : x.inStep .ret q with
  | false => rfl
  | true =>
    have hseq : x.seq = some q := by
      simp only [SweepBlock.inStep, Bool.and_eq_true, beq_iff_eq] at h
      exact h.2
    simp [hseq]

theorem SweepBlock.inStep_ret_iff : x.inStep .ret q = true ↔ x.expected = .ret ∧ x.seq = some q := by
  simp [SweepBlock.inStep]

/-- The kept entries have no part in the judgement of a pass. -/
@[simp] theorem SweepBlock.inStep_keep (g k width : Nat) (b : SweepBody) :
    (x.keep p g k width b).inStep p q = x.inStep p q := by cases p <;> rfl

@[simp] theorem SweepBlock.mayAct_keep (g k width : Nat) (b : SweepBody) :
    (x.keep p g k width b).mayAct p = x.mayAct p := by cases p <;> rfl

@[simp] theorem SweepBlock.inStep_drop : (x.drop p q).inStep p q = x.inStep p q := by cases p <;> rfl

end

theorem State.takePass_false (s : State) (p : Pass) (q : BitVec 16) :
    s.takePass p q false = s.setSweep (s.sweep.take p q) := by
  cases p with
  | out => rfl
  | ret => simp only [State.takePass, SweepBlock.take_ret]; rfl

/-! ### A valid pass arrives and is taken, R84 steps 3 and 4 -/

/-- Supervision on a valid pass, R153, R154, over all node states. -/
theorem State.heard_eq (s : State) : s.heard = { s with
    node := { s.node with state := if s.node.state = .held then .service else s.node.state }
    sup := { s.sup with
      recency := some 0
      timer := if s.node.state = .service ∨ s.node.state = .held then .holdStage s.tHold else s.sup.timer } } := by
  obtain ⟨_, _, ⟨state⟩⟩ := s
  cases state <;> rfl

/-- A valid pass as it arrives, the record having taken it: the kept entries, the judgement, supervision, and POSITION
where prev is not adjacent, R88-R93. -/
theorem State.arrive_takePass (s : State) (p : Pass) (b : SweepBody) (acting : Bool) :
    (s.arrive p b).takePass p b.seq acting = ({ s with
      sweep := { (s.sweep.keep p s.gantry s.lane s.width b).take p b.seq with
        lastActing := if acting then some p else s.sweep.lastActing }
      node := { s.node with state := if s.node.state = .held then .service else s.node.state }
      sup := { s.sup with
        recency := some 0
        timer := if s.node.state = .service ∨ s.node.state = .held then .holdStage s.tHold else s.sup.timer } } :
          State).latchIf (!adjacent p s.gantry b) .position := by
  rw [State.arrive, State.heard_eq]
  cases p <;> cases adjacent _ s.gantry b <;> rfl

theorem State.arrive_sweep (s : State) (p : Pass) (b : SweepBody) :
    (s.arrive p b).sweep = s.sweep.keep p s.gantry s.lane s.width b := by simp [State.arrive]

/-- A valid pass is judged by the record as it stood, and by a node state that HELD counts as SERVICE in, R84, R93. -/
theorem State.acts_arrive (s : State) (p : Pass) (b : SweepBody) (hold : Bool) :
    (s.arrive p b).acts p b.seq hold = (s.sweep.inStep p b.seq && !hold &&
      (s.node.state == .service || s.node.state == .held) && s.sweep.mayAct p) := by
  have hstate : ((s.arrive p b).node.state == .service) = (s.node.state == .service || s.node.state == .held) := by
    rw [State.arrive, State.heard_eq]
    cases h : s.node.state <;> simp [h]
  simp [State.acts, hstate, State.arrive_sweep]

/-! ### The kinds of pass, R84 -/

section
variable {s : State} {f : Frame} {b c : SweepBody}

theorem State.sweepPass_malformed (h : sweepContent f = none) : s.sweepPass f = ((s.latch .line).nodeTests, f) := by
  simp [State.sweepPass, h]

theorem State.sweepPass_siteless (h : sweepContent f = some b) (hv : s.store.site.valid = false) :
    s.sweepPass f = ((s.setSweep (s.sweep.take f.pass b.seq)).nodeTests, f) := by
  simp [State.sweepPass, h, hv, State.takePass_false]

theorem State.sweepPass_orderFault (h : sweepContent f = some b) (hv : s.store.site.valid = true)
    (hf : rollOutcome f.pass s.gantry s.lane b = .orderFault) : s.sweepPass f =
      (((s.latch .position).setSweep ((s.sweep.drop f.pass b.seq).take f.pass b.seq)).nodeTests,
        f.withSweep (s.foldOn f.pass b)) := by
  simp only [State.sweepPass, h, hv, hf, if_true, State.faultyPass, State.takePass_false]
  cases f.pass <;> rfl

/-- A valid pass with its body after the roll, and its judgement written out. -/
theorem State.sweepPass_valid (h : sweepContent f = some c) (hv : s.store.site.valid = true)
    (hb : (rollOutcome f.pass s.gantry s.lane c = .roll ∧ b = c.roll s.gantry) ∨
      (rollOutcome f.pass s.gantry s.lane c = .stay ∧ b = c))
    {t u : State} {v : PassView} {acting : Bool}
    (ht : t = (s.arrive f.pass b).takePass f.pass b.seq acting)
    (hact : acting = (s.arrive f.pass b).acts f.pass b.seq (holdFlag f.flags))
    (hview : v = ⟨f.pass, b.seq, b.plan, prevEntry f.pass s.gantry s.lane b⟩)
    (hu : u = (t.faceWork .e v acting).faceWork .w v acting) :
    s.sweepPass f = (u.nodeTests, f.withSweep (u.foldOn f.pass (b.writeOwn s.lane u.ownEntry))) := by
  subst hu hview ht hact
  obtain ⟨hroll, rfl⟩ | ⟨hroll, rfl⟩ := hb <;>
    simp [State.sweepPass, h, hv, hroll, State.validPass]

end

/-! ### The port a pass comes on, R52 -/

section
variable {s : State} {x : Payload} (hp : s.phase = .running) (hx : x.wf = true)
include hp hx

/-- An outbound pass at a THROUGH node goes on by port B. -/
theorem exec_sweep_a_through (hr : s.line.role = .through) : exec (.sweep .a x) s =
    .next (((s.received .a).sweepPass (payloadFrame x kindSweep .a)).1.join .b .a
      ((s.received .a).sweepPass (payloadFrame x kindSweep .a)).2) := by
  show Host.Outcome.next (s.receiveA _ _ _) = _
  rw [State.receiveA_running hp (by simpa using hx)]
  simp [State.processA, hp, hr, LineRole.isEnd]

/-- An outbound pass at an END-role node is followed by its return pass, on the frame seeded for it. -/
theorem exec_sweep_a_end (hr : s.line.role ≠ .through) {t : State} {f : Frame}
    (ht : t = ((s.received .a).sweepPass (payloadFrame x kindSweep .a)).1)
    (hf : f = ((s.received .a).sweepPass (payloadFrame x kindSweep .a)).2) : exec (.sweep .a x) s =
      .next ((t.sweepReturn { f with pass := .ret }).1.join .a .a (t.sweepReturn { f with pass := .ret }).2) := by
  subst ht hf
  show Host.Outcome.next (s.receiveA _ _ _) = _
  rw [State.receiveA_running hp (by simpa using hx)]
  simp [State.processA, hp, hr, LineRole.isEnd_iff]

/-- A return pass at a THROUGH node goes on by port A. -/
theorem exec_sweep_b (hr : s.line.role = .through) : exec (.sweep .b x) s =
    .next (((s.received .b).sweepPass (payloadFrame x kindSweep .b)).1.join .a .b
      ((s.received .b).sweepPass (payloadFrame x kindSweep .b)).2) := by
  show Host.Outcome.next (s.receiveB _ _) = _
  rw [State.receiveB_running hp (by simpa using hx) (by simp [hr, LineRole.isEnd])]

end

/-! ### Passes that are not valid, R83, R87 -/

/-- Settles O45: the equations for a malformed pass, a pass without a site record and a pass with an order fault, each on
both ports. -/
theorem aPassThatIsNotValidDecidesNothing : Obligations.APassThatIsNotValidDecidesNothing := by
  unfold Obligations.APassThatIsNotValidDecidesNothing
  refine ⟨fun s x b hp hx hr hbad => ⟨?_, ?_⟩, fun s x b hp hr hv hb hplan hcur hprev => ?_,
    fun s x b hp hr hv hb => ?_⟩
  · rw [exec_sweep_a_through hp hx hr, State.sweepPass_malformed (sweepContent_eq_none hbad)]
  · rw [exec_sweep_b hp hx hr, State.sweepPass_malformed (sweepContent_eq_none hbad)]
  · have hx := Payload.wf_of_ofWords hb
    have hc : ∀ p, sweepContent (payloadFrame x kindSweep p) = some b := fun _ =>
      sweepContent_eq_some_iff.mpr ⟨hb, hplan, hcur, hprev⟩
    refine ⟨?_, fun hstep => ?_, fun hstep => ?_⟩
    · rw [exec_sweep_a_through hp hx hr, State.sweepPass_siteless (s := s.received .a) (hc .a) hv]
      rfl
    all_goals
      rw [exec_sweep_b hp hx hr, State.sweepPass_siteless (s := s.received .b) (hc .b) hv]
      simp only [payloadFrame, passOf, State.received_sweep, SweepBlock.take_ret, SweepBlock.inStep_ret_iff, hstep]
      rfl
  · have hx := Payload.wf_of_ofWords (sweepContent_eq_some_iff.mp hb).1
    refine ⟨fun hf => ?_, fun hf => ?_⟩
    · rw [exec_sweep_a_through hp hx hr, State.sweepPass_orderFault (s := s.received .a) hb hv hf]
      rfl
    · rw [exec_sweep_b hp hx hr, State.sweepPass_orderFault (s := s.received .b) (f := payloadFrame x kindSweep .b)
        hb hv hf]
      simp only [payloadFrame, passOf, State.received_sweep, SweepBlock.take_ret, SweepBlock.inStep_drop]
      rfl

/-! ### Valid passes, R84 -/

/-- Settles O47: the pass as it arrives, as `State.arrive_takePass` gives it, is the statement's state. -/
theorem aValidOutboundPassTakesTheStepsInOrder : Obligations.AValidOutboundPassTakesTheStepsInOrder := by
  unfold Obligations.AValidOutboundPassTakesTheStepsInOrder
  intro s t x b v acting hp hr hv ⟨c, hc, hb⟩ hview hact ht
  have hx := Payload.wf_of_ofWords (sweepContent_eq_some_iff.mp hc).1
  have hview' : v = ⟨.out, b.seq, b.plan, prevEntry .out s.gantry s.lane b⟩ := by simp [hview, prevEntry, adjacent]
  have hact' : acting = ((s.received .a).arrive .out b).acts .out b.seq (holdFlag x.flags) := by
    rw [State.acts_arrive]
    exact hact
  have harrive : t = ((s.received .a).arrive .out b).takePass .out b.seq acting := by
    rw [ht, hview', State.arrive_takePass]
    rfl
  rw [exec_sweep_a_through hp hx hr, State.sweepPass_valid (s := s.received .a) hc hv hb harrive hact' hview' rfl]
  rfl

/-! ### The fold, R99, R100 -/

theorem State.countFaces_latched (s : State) : (s.countFaces fun r => r.latch != .none) =
    (if s.faces.e.latch = .none then 0 else 1) + (if s.faces.w.latch = .none then 0 else 1) := by
  unfold State.countFaces
  congr 1 <;> split <;> simp [*]

theorem State.countFaces_pending (s : State) : (s.countFaces fun r => r.pending.isSome) =
    (if s.faces.e.pending = none then 0 else 1) + (if s.faces.w.pending = none then 0 else 1) := by
  unfold State.countFaces
  congr 1 <;> split <;> simp_all [Option.ne_none_iff_isSome]

/-- Settles O48: as the outbound pass, with the record's step of R92 for the return; then the fold's four fields. -/
theorem aValidReturnPassTakesTheStepsInOrder : Obligations.AValidReturnPassTakesTheStepsInOrder := by
  unfold Obligations.AValidReturnPassTakesTheStepsInOrder
  refine ⟨?_, fun s b _ _ => ⟨?_, ?_, fun h => ⟨max_eq_right h.le, if_pos h⟩,
    fun h => ⟨max_eq_left h, if_neg (by omega)⟩⟩⟩
  · intro s t x b v acting hp hr hv ⟨c, hc, hb⟩ hview hact ht
    have hx := Payload.wf_of_ofWords (sweepContent_eq_some_iff.mp hc).1
    have hview' : v = ⟨.ret, b.seq, b.plan, prevEntry .ret s.gantry s.lane b⟩ := by
      simp [hview, prevEntry, adjacent, eastEnd]
    have hact' : acting = ((s.received .b).arrive .ret b).acts .ret b.seq (holdFlag x.flags) := by
      rw [State.acts_arrive]
      exact hact
    have harrive : t = ((s.received .b).arrive .ret b).takePass .ret b.seq acting := by
      have hadj : (!adjacent .ret s.gantry b) = (b.prevGantry != s.gantry + 1 && b.prevGantry != 255) := Bool.not_or ..
      rw [ht, hview', State.arrive_takePass, SweepBlock.take_ret, ← hadj]
      simp only [SweepBlock.inStep_keep, SweepBlock.inStep_ret_iff]
      rfl
    rw [exec_sweep_b hp hx hr, State.sweepPass_valid (s := s.received .b) hc hv hb harrive hact' hview' rfl]
    rfl
  · rw [add_assoc, ← s.countFaces_latched]
    rfl
  · rw [add_assoc, ← s.countFaces_pending]
    rfl

/-! ### The turnaround, R97, R98 -/

theorem State.seed_endConfigured {s : State} {f : Frame} {b : SweepBody} (hr : s.line.role = .endConfigured)
    (hc : sweepContent f = some b) :
    s.seed f = f.withSweep { b with curGantry := 255, cur := b.east, endAddress := s.node.address.toNat } := by
  simp [State.seed, hc, hr, eastEnd]

theorem State.seed_endWrapped {s : State} {f : Frame} {b : SweepBody} (hr : s.line.role = .endWrapped)
    (hc : sweepContent f = some b) : s.seed f =
      { f.withSweep { b with curGantry := 255, cur := absentVector, endAddress := s.node.address.toNat } with
        flags := f.flags ||| 2 } := by
  simp [State.seed, hc, hr, eastEnd, setWrapFlag]

/-- Settles O49: the pass leaves the role, so that the seeding is the role's. -/
theorem anEndNodeSeedsTheReturnPass : Obligations.AnEndNodeSeedsTheReturnPass := by
  unfold Obligations.AnEndNodeSeedsTheReturnPass
  intro s t x f b hp hr hx ht hf hc
  have hrole : t.line.role = s.line.role := by simp [ht]
  have hc' : sweepContent { f with pass := .ret } = some b := hc
  rw [exec_sweep_a_end hp hx hr ht hf, State.sweepReturn]
  refine ⟨fun hrc => ?_, fun hrw => ?_⟩
  · rw [State.seed_endConfigured (hrole.trans hrc) hc']
    rfl
  · rw [State.seed_endWrapped (hrole.trans hrw) hc']
    rfl

end Sys2Proof.Machine
end

section
/-! The targets and gates of a face, and its work on a pass (O50, O51, O53): R103-R105, R107-R111, R114-R117. Each row
of the resolution, each kind of change at the gates and each outcome of the merge-target check has an equation of its
own. -/

namespace Sys2Proof.Machine

/-! ### The cover of a lock, R142 -/

theorem LockFaces.covers_iff (x : LockFaces) (f : Face) :
    x.covers f = true ↔ x = .both ∨ (f = .e ∧ x = .e) ∨ (f = .w ∧ x = .w) := by
  cases x <;> cases f <;> decide

theorem State.covered_iff (s : State) (f : Face) : s.covered f = true ↔
    ∃ l ∈ s.poss.locks, l.faces = .both ∨ (f = .e ∧ l.faces = .e) ∨ (f = .w ∧ l.faces = .w) := by
  simp only [State.covered, List.any_eq_true, LockFaces.covers_iff]

/-! ### The plan aspect, R105 -/

section
variable {s : State} {f : Face} {plan : Nat}

theorem State.planAspect_zero (s : State) (f : Face) : s.planAspect f 0 = (.closed, false) := rfl

theorem State.planAspect_missing (hp : plan ≠ 0) (hx : s.lookup plan = none) :
    s.planAspect f plan = (.closed, true) := by simp [State.planAspect, hp, hx]

section
variable {y : PlanEntry} (hp : plan ≠ 0) (hx : s.lookup plan = some y)
include hp hx

/-- The lane type forbids the entry's aspect, or its diagonal cannot be shown. -/
theorem State.planAspect_barred
    (h : ((y.aspect f).permissive = true ∧ s.laneType.allows f = false) ∨ s.canShow f (y.aspect f) = false) :
    s.planAspect f plan = (.closed, true) := by
  simp only [State.planAspect, if_neg hp, hx, Bool.and_eq_true, Bool.not_eq_true']
  split
  · rfl
  next hlane => exact if_pos (h.resolve_left hlane)

theorem State.planAspect_shown (ha : ¬((y.aspect f).permissive = true ∧ s.laneType.allows f = false))
    (hs : s.canShow f (y.aspect f) = true) : s.planAspect f plan = (y.aspect f, false) := by
  simp only [State.planAspect, if_neg hp, hx, Bool.and_eq_true, Bool.not_eq_true', if_neg ha, hs]
  rfl

end
end

/-! ### The target, R104, R106 -/

theorem State.warning_target (s : State) (f : Face) (c : TargetCause) :
    ((⟨(s.warningAspect f).1, c⟩, (s.warningAspect f).2) : Target × Bool) =
      if s.canShow f (s.config f).warning then (⟨(s.config f).warning, c⟩, false) else (⟨.closed, c⟩, true) := by
  unfold State.warningAspect
  split <;> rfl

/-- Settles O50: the rows of R104 with the cover, the warning aspect and the absent downstream written out, then R105's
lookup case by case. -/
theorem targetsComeFromTheFirstRow : Obligations.TargetsComeFromTheFirstRow := by
  unfold Obligations.TargetsComeFromTheFirstRow
  refine ⟨fun s f plan => ?rows, fun s f plan y => ⟨s.planAspect_zero f, State.planAspect_missing,
    fun hp hx => ⟨State.planAspect_barred hp hx, State.planAspect_shown hp hx⟩⟩⟩
  simp only [State.resolve, State.warning_target, ← State.covered_iff, Option.isSome_iff_ne_none, Bool.and_eq_true,
    decide_eq_true_eq]
  rfl

/-! ### The gates, R107-R111 -/

theorem FaceRecord.steadyClosed_eq_false_iff (r : FaceRecord) :
    r.steadyClosed = false ↔ r.state ≠ .steady ∨ r.shown ≠ .closed := by
  simp [FaceRecord.steadyClosed, imp_iff_not_or]

/-- A floor is read from an entry that is there, or as 0, R82. -/
theorem PassView.floor_eq (v : PassView) (f : Face) :
    (halfEnv (v.half f)).floor = (v.entry.map fun e => (e.half f).floor).getD 0 := by
  unfold PassView.half
  cases v.entry <;> rfl

/-- A ceiling is read from an entry that is there, or as 2, R82. -/
theorem PassView.ceiling_eq (v : PassView) (f : Face) :
    (halfEnv (v.half f)).ceiling = (v.entry.map fun e => (e.half f).ceiling).getD 2 := by
  unfold PassView.half
  cases v.entry <;> rfl

theorem eq_lowerPass_iff (p : Pass) (f : Face) : p = lowerPass f ↔ p ≠ raisePass f := by
  cases p <;> cases f <;> decide

theorem raisePass_eq (f : Face) : raisePass f = if f = .e then .out else .ret := by cases f <;> rfl

section
variable {s : State} {f : Face} {v : PassView} {a : Aspect} {r q : Nat} (hr : (s.face f).shown.rank = some r)
  (hq : a.rank = some q)
include hr hq

theorem State.gate_raise (h : r < q) :
    s.gate f v a = if v.pass = raisePass f then raiseGate q (v.half f) else .notNow := by
  simp only [State.gate, hr, hq, if_pos h]

theorem State.gate_lower (h : q < r) :
    s.gate f v a = if v.pass = raisePass f then .notNow else s.lowerGate f v a := by
  simp only [State.gate, hr, hq, if_neg h.not_gt, if_pos h, eq_lowerPass_iff, ite_not]

theorem State.gate_sideways (h : q = r) :
    s.gate f v a = if v.pass = raisePass f then .notNow else s.sidewaysGate f v a := by
  simp only [State.gate, hr, hq, h, lt_irrefl, if_false, eq_lowerPass_iff, ite_not]

end

theorem raiseGate_eq (v : PassView) (f : Face) (q : Nat) : raiseGate q (v.half f) =
    if q - 1 ≤ ((v.entry.map fun e => (e.half f).floor).getD 0) then .pass else .fail .upstream := by
  simp only [raiseGate, PassView.floor_eq, Nat.sub_le_iff_le_add]

theorem State.lowerGate_eq (s : State) (f : Face) (v : PassView) {a : Aspect} {q : Nat} (hq : a.rank = some q) :
    s.lowerGate f v a =
      if (s.face (otherFace f)).state ≠ .steady ∨ (s.face (otherFace f)).shown ≠ .closed then .fail .pair
      else if s.laneType.allows f = false then .fail .lane
      else if s.covered f = true then .fail .possession
      else if s.mergeGate f v.seq a = false then .fail .mergeTarget
      else if ((v.entry.map fun e => (e.half f).ceiling).getD 2) ≤ q + 1 then .pass
      else .fail .downstream := by
  simp only [State.lowerGate, Bool.not_eq_true', FaceRecord.steadyClosed_eq_false_iff, PassView.ceiling_eq, hq,
    Option.getD_some]

theorem State.sidewaysGate_eq (s : State) (f : Face) (v : PassView) (a : Aspect) :
    s.sidewaysGate f v a =
      if s.covered f = true then .fail .possession
      else if s.mergeGate f v.seq a = false then .fail .mergeTarget
      else .pass := by
  simp only [State.sidewaysGate, Bool.not_eq_true']

/-! ### Merge targets, R90, R110 -/

/-- The diagonal of a side. -/
def Side.diagonal (d : Side) : Aspect := if d = .left then .mergeL else .mergeR

theorem Side.diagonal_rank (d : Side) : d.diagonal.rank = some 1 := by cases d <;> rfl

theorem Aspect.side_eq_some_iff (a : Aspect) (d : Side) : a.side = some d ↔ a = d.diagonal := by
  cases a <;> cases d <;> decide

theorem SweepBlock.merge_eq (b : SweepBlock) (f : Face) (d : Side) :
    b.merge f d = if (f = .e ∧ d = .left) ∨ (f = .w ∧ d = .right) then b.lower else b.upper := by
  cases f <;> cases d <;> rfl

theorem MergeEntry.openFor_iff (m : MergeEntry) (f : Face) :
    m.openFor f = true ↔ m.entry.any (fun x => (x.half f).ceiling == 0) = true := by
  unfold MergeEntry.openFor
  cases m.entry <;> rfl

theorem State.mergeGate_diagonal (s : State) (f : Face) (seq : BitVec 16) (d : Side) :
    s.mergeGate f seq d.diagonal = true ↔ (s.sweep.merge f d).openFor f = true ∧
      ((s.sweep.merge f d).seq = some seq ∨ (s.sweep.merge f d).seq = some (seq - 1)) := by
  simp only [State.mergeGate, (Aspect.side_eq_some_iff _ d).mpr rfl, Bool.and_eq_true, Bool.or_eq_true, beq_iff_eq]

/-- Settles O51: a raise, a lowering and a sideways change each on the pass that gates it and on the other. -/
theorem gatesJudgeEachChange : Obligations.GatesJudgeEachChange := by
  unfold Obligations.GatesJudgeEachChange
  simp only [← raisePass_eq]
  refine ⟨fun s f v a r q hr hq h => ⟨fun hp => ?_, fun hp => ?_⟩,
    fun s f v a r q hr hq h => ⟨fun hp => ?_, fun hp => ?_⟩,
    fun s f v d seq m hm => ⟨?_, rfl, fun hr hp => ?_⟩⟩
  · rw [State.gate_raise hr hq h, if_neg hp]
  · rw [State.gate_raise hr hq h, if_pos hp, raiseGate_eq]
  · rw [State.gate_lower hr hq h, if_pos hp]
  · rw [State.gate_lower hr hq h, if_neg hp, State.lowerGate_eq s f v hq]
  · rw [hm, ← SweepBlock.merge_eq, ← MergeEntry.openFor_iff]
    exact State.mergeGate_diagonal s f seq d
  · exact (State.gate_sideways hr d.diagonal_rank rfl).trans ((if_neg hp).trans (State.sidewaysGate_eq s f v _))

/-! ### Waiting, R114, R115 -/

theorem State.advanceAge_none {s : State} {f : Face} (h : (s.face f).pending = none) : s.advanceAge f = s := by
  have hrecord : (s.face f).ageOne = s.face f := by
    unfold FaceRecord.ageOne
    rw [h, Option.map_none, ← h]
  simp [State.advanceAge, State.stalled, State.latchIf, hrecord, h]

theorem State.advanceAge_some {s : State} {f : Face} {p : PendingTarget} (h : (s.face f).pending = some p) :
    s.advanceAge f =
      if s.store.site.fields.stall ≤ min 255 (p.age + 1) then
        (s.setFace f { s.face f with pending := some { p with age := min 255 (p.age + 1) } }).latch .stall
      else s.setFace f { s.face f with pending := some { p with age := min 255 (p.age + 1) } } := by
  have hrecord : (s.face f).ageOne = { s.face f with pending := some { p with age := min 255 (p.age + 1) } } := by
    unfold FaceRecord.ageOne
    rw [h]
    rfl
  simp only [State.advanceAge, State.stalled, State.latchIf, hrecord, State.setFace_face, State.setFace_store,
    decide_eq_true_eq]

/-! ### The merge-target check, R116, R117 -/

/-- The side that the check looks at: that of the aspect shown, or of the one sought. -/
theorem FaceRecord.mergeSide_iff (r : FaceRecord) (d : Side) : r.mergeSide = some d ↔
    (r.state = .steady ∧ r.shown = d.diagonal) ∨ (r.state = .changing ∧ r.change.map Change.dst = some d.diagonal) := by
  unfold FaceRecord.mergeSide
  cases r.state <;> cases r.change <;> simp [Aspect.side_eq_some_iff]

section
variable {s : State} {f : Face} {d : Side}

theorem State.mergeFound_none (h : (s.face f).mergeLost = none) : s.mergeFound f = s := by
  simp only [State.mergeFound, h]

theorem State.mergeFound_open (h : (s.face f).mergeLost = some d) (ho : (s.sweep.merge f d).openFor f = true) :
    s.mergeFound f = s.setFace f { s.face f with mergeLost := none } := by
  simp only [State.mergeFound, h, if_pos ho, State.clearMergeLost]

theorem State.mergeFound_lost (h : (s.face f).mergeLost = some d) (ho : (s.sweep.merge f d).openFor f = false) :
    s.mergeFound f = s := by
  simp only [State.mergeFound, h, ho, Bool.false_eq_true, if_false]

theorem State.mergeTest_none (h : (s.face f).mergeSide = none) : s.mergeTest f = s := by
  simp only [State.mergeTest, h]

theorem State.mergeTest_open (h : (s.face f).mergeSide = some d) (ho : (s.sweep.merge f d).openFor f = true) :
    s.mergeTest f = s := by
  simp only [State.mergeTest, h, if_pos ho]

/-- No diagonal is shown or sought, or its target is open: the check finds nothing. -/
theorem State.mergeTest_well (h : (s.face f).mergeSide = none ∨
    ((s.face f).mergeSide = some d ∧ (s.sweep.merge f d).openFor f = true)) : s.mergeTest f = s :=
  h.elim State.mergeTest_none fun ⟨hd, ho⟩ => State.mergeTest_open hd ho

/-- The target is lost: MERGE is set, and the latch with the side unless it is set already. -/
theorem State.mergeTest_lost (h : (s.face f).mergeSide = some d) (ho : (s.sweep.merge f d).openFor f = false) :
    s.mergeTest f =
      (s.setFace f { s.face f with mergeLost := some ((s.face f).mergeLost.getD d) }).latch .merge := by
  simp only [State.mergeTest, h, ho, Bool.false_eq_true, if_false]
  cases (s.face f).mergeLost <;> rfl

end

/-- The latch is no part of what the check looks at. -/
theorem FaceRecord.mergeSide_unlatched (r : FaceRecord) : { r with mergeLost := none }.mergeSide = r.mergeSide := rfl

/-! What the check writes of a face's record, R103 step 2. -/

theorem State.mergeFound_eq_setFace (s : State) (f : Face) :
    ∃ m, s.mergeFound f = s.setFace f { s.face f with mergeLost := m } := by
  have hsame : s = s.setFace f { s.face f with mergeLost := (s.face f).mergeLost } := (State.setFace_self s f).symm
  cases hm : (s.face f).mergeLost with
  | none => exact ⟨_, (State.mergeFound_none hm).trans hsame⟩
  | some d =>
    cases ho : (s.sweep.merge f d).openFor f with
    | true => exact ⟨none, State.mergeFound_open hm ho⟩
    | false => exact ⟨_, (State.mergeFound_lost hm ho).trans hsame⟩

theorem State.mergeTest_face (s : State) (f : Face) :
    ∃ m, ∀ g, (s.mergeTest f).face g = (s.setFace f { s.face f with mergeLost := m }).face g := by
  have hsame : s = s.setFace f { s.face f with mergeLost := (s.face f).mergeLost } := (State.setFace_self s f).symm
  cases hd : (s.face f).mergeSide with
  | none => exact ⟨_, fun g => congrArg (·.face g) ((State.mergeTest_none hd).trans hsame)⟩
  | some d =>
    cases ho : (s.sweep.merge f d).openFor f with
    | true => exact ⟨_, fun g => congrArg (·.face g) ((State.mergeTest_open hd ho).trans hsame)⟩
    | false => exact ⟨_, fun g => by rw [State.mergeTest_lost hd ho, State.latch_face]⟩

/-- Of its face's record the check writes the merge-lost latch alone, and of the other face's nothing. -/
theorem State.mergeCheck_face (s : State) (f : Face) :
    ∃ m, ∀ g, (s.mergeCheck f).face g = (s.setFace f { s.face f with mergeLost := m }).face g := by
  obtain ⟨_, hfound⟩ := s.mergeFound_eq_setFace f
  obtain ⟨m, htest⟩ := (s.mergeFound f).mergeTest_face f
  refine ⟨m, fun g => (htest g).trans ?_⟩
  simp only [hfound, State.setFace_face, State.setFace_setFace]

theorem State.mergeCheck_face_self (s : State) (f : Face) :
    (s.mergeCheck f).face f = { s.face f with mergeLost := ((s.mergeCheck f).face f).mergeLost } := by
  obtain ⟨m, h⟩ := s.mergeCheck_face f
  rw [h f, State.setFace_face]

theorem State.mergeCheck_face_other (s : State) (f : Face) :
    (s.mergeCheck f).face (otherFace f) = s.face (otherFace f) := by
  obtain ⟨m, h⟩ := s.mergeCheck_face f
  rw [h, State.setFace_face_other]

/-! The outcomes of the check by what the latch holds. -/

section
variable {s : State} {f : Face} {d : Side}

theorem State.mergeCheck_of_none (h : (s.face f).mergeLost = none) : s.mergeCheck f = s.mergeTest f := by
  rw [State.mergeCheck, State.mergeFound_none h]

theorem State.mergeCheck_of_lost (h : (s.face f).mergeLost = some d) (ho : (s.sweep.merge f d).openFor f = false) :
    s.mergeCheck f = s.mergeTest f := by
  rw [State.mergeCheck, State.mergeFound_lost h ho]

theorem State.mergeCheck_of_open (h : (s.face f).mergeLost = some d) (ho : (s.sweep.merge f d).openFor f = true) :
    s.mergeCheck f = (s.setFace f { s.face f with mergeLost := none }).mergeTest f := by
  rw [State.mergeCheck, State.mergeFound_open h ho]

end

/-! ### A face's work on a pass, R103 -/

theorem State.decide_eq {s : State} {f : Face} {v : PassView} {t : Target} {b : Bool} (h : s.resolve f v.plan = (t, b)) :
    s.decide f v = (if b = true then s.latch .plan else s).takeTarget f t (s.gate f v t.aspect) := by
  simp only [State.decide, h, State.latchIf]

/-- Settles O53: the work, the decision, the age, then the check by what the latch holds and what is found open. -/
theorem waitsAgeAndMergesAreChecked : Obligations.WaitsAgeAndMergesAreChecked := by
  unfold Obligations.WaitsAgeAndMergesAreChecked
  refine ⟨fun s f v => ⟨rfl, rfl, s.mergeCheck_face_self f, by simp, by simp, by simp, s.mergeCheck_face_other f⟩,
    fun s f v t b => State.decide_eq, fun s f p => ⟨State.advanceAge_some, State.advanceAge_none⟩,
    fun s f d e => ⟨fun hl => ?clear, fun hl ho => ?found, fun hl ho => ?kept, MergeEntry.openFor_iff _ f,
      FaceRecord.mergeSide_iff _ d⟩⟩
  case clear =>
    rw [State.mergeCheck_of_none hl]
    refine ⟨State.mergeTest_none, fun hs => ⟨State.mergeTest_open hs, fun ho => ?_⟩⟩
    rw [State.mergeTest_lost hs ho, hl, Option.getD_none]
  case found =>
    rw [State.mergeCheck_of_open hl ho]
    refine ⟨fun hs => State.mergeTest_well (d := e) ?_, fun hs he => ?_⟩
    · simpa [FaceRecord.mergeSide_unlatched] using hs
    · rw [State.mergeTest_lost (d := e) (by simpa [FaceRecord.mergeSide_unlatched] using hs) (by simpa using he)]
      simp only [State.setFace_face, State.setFace_setFace, Option.getD_none]
  case kept =>
    rw [State.mergeCheck_of_lost hl ho]
    refine ⟨State.mergeTest_well, fun hs he => ?_⟩
    rw [State.mergeTest_lost hs he, hl, Option.getD_some, ← hl, State.setFace_self]

end Sys2Proof.Machine
end

section
/-! The plan commands as executed: SWAP (O24), LOAD_BEGIN and LOAD_END (O22), LOAD_BLOCK (O23): R122, R124-R127, R129, R130,
R190, R193. -/

namespace Sys2Proof.Machine

/-! ### A plan command executed -/

section
variable {i : Instr} {s : State} {c : Cmd} {x : CommandPayload} {r : Reply}

/-- A command that only replies, R64-R69. -/
theorem exec_answers (hi : commandOf i = some (c, x)) (h : s.executes c x = true) (hc : c ≠ .reset)
    (he : effectOf i (s.handed c) (c.argsOf x.body) = (s.handed c, r)) :
    exec i s = .next ((s.handed c).sendReply c x r) := by
  rw [exec_command hi, State.command_executes h hc _ (by rw [he, State.handed_phase, State.running_of_executes h]), he]

/-- A command that changes the plan tables alone. -/
theorem exec_plan {b : PlanBlock} (hi : commandOf i = some (c, x)) (h : s.executes c x = true) (hc : c ≠ .reset)
    (he : effectOf i (s.handed c) (c.argsOf x.body) = ((s.handed c).setPlan b, r)) :
    exec i s = .next (({ s.handed c with plan := b } : State).sendReply c x r) := by
  have hp : ((s.handed c).setPlan b).phase = .running := by
    rw [State.setPlan_phase, State.handed_phase, State.running_of_executes h]
  rw [exec_command hi, State.command_executes h hc _ (by rw [he]; exact hp), he]
  rfl

end

/-! ### SWAP, R129, R130 -/

section
variable {s : State} {b : PlanBlock} (args : List Word) (hb : s.plan = b)
include hb

theorem swap_spoiled (hv : b.stagingValid = false) : swap s args = (s, .refused .spoiled []) := by
  simp [swap, hb, hv]

theorem swap_busy (hv : b.stagingValid = true) (hw : s.store.writer ≠ .idle) : swap s args = (s, .busy) := by
  simp [swap, hb, hv, hw]

theorem swap_done (hv : b.stagingValid = true) (hw : s.store.writer = .idle) :
    swap s args = (s.setPlan b.exchange, .done []) := by
  simp [swap, hb, hv, hw]

end

/-- Settles O24: SWAP's two tests in their order, then the exchange. -/
theorem swapExchangesTheBanks : Obligations.SwapExchangesTheBanks := by
  unfold Obligations.SwapExchangesTheBanks
  intro s x h
  have hb := s.handed_plan .swap
  have hst := s.handed_store .swap
  exact ⟨fun hv => exec_answers rfl h (by decide) (swap_spoiled (Cmd.swap.argsOf x.body) hb hv),
    fun hv hw => exec_answers rfl h (by decide) (swap_busy (Cmd.swap.argsOf x.body) hb hv (by rwa [hst])),
    fun hv hw => exec_plan rfl h (by decide) (swap_done (Cmd.swap.argsOf x.body) hb hv (by rwa [hst]))⟩

/-! ### LOAD_BEGIN, R124 -/

section
variable {s : State} {args : List Word} {w : Word} (ha : argWord args 0 = w)
include ha

theorem loadBegin_opens {b : PlanBlock} (hb : s.plan = b) (hlow : 1 ≤ w.toNat) (hhigh : w.toNat ≤ 48) :
    loadBegin s args = (s.setPlan { b with
      staging := ⟨[], 0xFFFF#16⟩, stagingValid := false, session := ⟨.opened, some w.toNat, 0⟩ }, .done []) := by
  simp [loadBegin, bankLimit, ha, hb, hlow, hhigh, Bank.empty]

theorem loadBegin_refused (h : w.toNat = 0 ∨ 48 < w.toNat) : loadBegin s args = (s, .refused .argument []) := by
  simp only [loadBegin, bankLimit, ha, Bool.and_eq_true, decide_eq_true_eq]
  rw [if_neg (by omega)]

end

/-! ### LOAD_END, R127, R190 -/

theorem fld_word (v : Nat) : fld v 0 16 = BitVec.ofNat 16 v := by
  simp [fld, ← BitVec.toNat_inj]

/-- Beside an ACTIVE with entries the load waits in STAGING, R127. -/
theorem PlanBlock.finishLoad_waits {b : PlanBlock} (h : b.active.entries ≠ []) :
    b.finishLoad = { b with stagingValid := true, session := ⟨.none, none, b.session.received⟩ } := by
  simp [PlanBlock.finishLoad, h]

/-- Into an empty ACTIVE the load goes at once, R190. -/
theorem PlanBlock.finishLoad_exchanges {b : PlanBlock} (h : b.active.entries = []) :
    b.finishLoad = { active := b.staging, staging := b.active, stagingValid := false
                     session := ⟨.none, none, b.session.received⟩ } := by
  simp [PlanBlock.finishLoad, PlanBlock.exchange, h]

section
variable {s : State} {args : List Word} {b : PlanBlock} (hb : s.plan = b)
include hb

theorem loadEnd_closed (h : b.session.state ≠ .opened) : loadEnd s args = (s, .refused .spoiled []) := by
  simp [loadEnd, hb, h]

variable (ho : b.session.state = .opened)
include ho

theorem loadEnd_short (hr : b.session.received < b.session.expected.getD 0) : loadEnd s args =
    (s.setPlan { b with session := { b.session with state := .spoiled } },
      .refused .count [BitVec.ofNat 16 b.session.received]) := by
  simp [loadEnd, hb, ho, hr, fld_word]

variable {w : Word} (ha : argWord args 0 = w) (hr : b.session.expected.getD 0 ≤ b.session.received)
include ha hr

theorem loadEnd_mismatched (hc : b.staging.check ≠ w) : loadEnd s args =
    (s.setPlan { b with session := { b.session with state := .spoiled } }, .refused .check [b.staging.check]) := by
  simp [loadEnd, hb, ho, ha, Nat.not_lt.mpr hr, hc]

theorem loadEnd_whole (hc : b.staging.check = w) :
    loadEnd s args = (s.setPlan b.finishLoad, .done [b.staging.check]) := by
  simp [loadEnd, hb, ho, ha, Nat.not_lt.mpr hr, hc]

end

/-- Settles O22: LOAD_BEGIN by its count; LOAD_END by the session, its count and its check value in their order, then the load
that waits in STAGING or goes into an empty ACTIVE. -/
theorem aLoadSessionFillsStaging : Obligations.ALoadSessionFillsStaging := by
  unfold Obligations.ALoadSessionFillsStaging
  refine ⟨fun s x h => ?begin, fun s x h => ?fin⟩
  case begin =>
    have ha : argWord (Cmd.loadBegin.argsOf x.body) 0 = x.arg := argWord_argsOf x (by decide)
    exact ⟨fun hlow hhigh => exec_plan rfl h (by decide) (loadBegin_opens ha (s.handed_plan _) hlow hhigh),
      fun hn => exec_answers rfl h (by decide) (loadBegin_refused ha hn)⟩
  case fin =>
    have ha : argWord (Cmd.loadEnd.argsOf x.body) 0 = x.arg := argWord_argsOf x (by decide)
    have hb := s.handed_plan .loadEnd
    refine ⟨fun hs => exec_answers rfl h (by decide) (loadEnd_closed hb hs),
      fun ho => ⟨fun hr => exec_plan rfl h (by decide) (loadEnd_short hb ho hr),
        fun hr hc => exec_plan rfl h (by decide) (loadEnd_mismatched hb ho ha hr hc),
        fun hr hc => ?whole⟩⟩
    case whole =>
      have hdone := loadEnd_whole hb ho ha hr hc
      refine ⟨fun hne => ?_, fun he => ?_⟩
      · rw [PlanBlock.finishLoad_waits hne] at hdone
        exact exec_plan rfl h (by decide) hdone
      · rw [PlanBlock.finishLoad_exchanges he] at hdone
        exact exec_plan rfl h (by decide) hdone

/-! ### The checks of an entry, R122, R126 -/

theorem RawPlanEntry.ofWord_eq (w : Word) : RawPlanEntry.ofWord w =
    ⟨w.toNat / 256, Aspect.ofCode (w.toNat / 32 % 8), Aspect.ofCode (w.toNat / 4 % 8)⟩ := by
  simp only [RawPlanEntry.ofWord, hiByte_eq]
  rfl

theorem State.aspectOk_iff (s : State) (f : Face) (a : Aspect) :
    s.aspectOk f a = true ↔ (a = .closed ∨ s.laneType.allows f = true) ∧ s.canShow f a = true := by
  simp [State.aspectOk]

theorem State.entryOf_undefined {s : State} {w : Word}
    (h : Aspect.ofCode (w.toNat / 32 % 8) = none ∨ Aspect.ofCode (w.toNat / 4 % 8) = none) : s.entryOf w = none := by
  unfold State.entryOf
  rw [RawPlanEntry.ofWord_eq]
  rcases h with he | hw
  · rw [he]
  · rw [hw]
    cases Aspect.ofCode (w.toNat / 32 % 8) <;> rfl

/-- What R122 asks of an entry's plan number and aspects. -/
def State.EntryPasses (s : State) (n : Nat) (a b : Aspect) : Prop :=
  1 ≤ n ∧ n ≤ 250 ∧ a ≠ .dark ∧ b ≠ .dark ∧ ¬(a.permissive = true ∧ b.permissive = true) ∧
    (a = .closed ∨ s.laneType.allows .e = true) ∧ (b = .closed ∨ s.laneType.allows .w = true) ∧
    s.canShow .e a = true ∧ s.canShow .w b = true

theorem State.entryOf_defined (s : State) {w : Word} {a b : Aspect} (ha : Aspect.ofCode (w.toNat / 32 % 8) = some a)
    (hb : Aspect.ofCode (w.toNat / 4 % 8) = some b) :
    (s.EntryPasses (w.toNat / 256) a b → s.entryOf w = some ⟨w.toNat / 256, a, b⟩) ∧
      (¬ s.EntryPasses (w.toNat / 256) a b → s.entryOf w = none) := by
  unfold State.entryOf
  rw [RawPlanEntry.ofWord_eq, ha, hb]
  have htest : (1 ≤ w.toNat / 256 && w.toNat / 256 ≤ maxAddress && a != .dark && b != .dark &&
      !(a.permissive && b.permissive) && s.aspectOk .e a && s.aspectOk .w b) = true ↔
      s.EntryPasses (w.toNat / 256) a b := by
    rw [State.EntryPasses, show (250 : Nat) = maxAddress from rfl]
    simp only [Bool.and_eq_true, State.aspectOk_iff, decide_eq_true_eq, bne_iff_ne, Bool.not_eq_true', ← Bool.not_eq_true]
    tauto
  exact ⟨fun h => if_pos (htest.mpr h), fun h => if_neg (mt htest.mp h)⟩


section
variable {s : State} {expected received index p : Nat} {prev : Option Nat} {w : Word} {y : PlanEntry}

theorem State.checkEntry_count (h : expected < received + index) :
    s.checkEntry expected received index prev w = .error .count := if_pos h

theorem State.checkEntry_entry (h : received + index ≤ expected) (hw : s.entryOf w = none) :
    s.checkEntry expected received index prev w = .error .entry := by
  simp only [State.checkEntry, if_neg (Nat.not_lt.mpr h), hw]

theorem State.checkEntry_first (h : received + index ≤ expected) (hw : s.entryOf w = some y) :
    s.checkEntry expected received index none w = .ok y := by
  simp only [State.checkEntry, if_neg (Nat.not_lt.mpr h), hw]

/-- Behind an entry before it: the plan numbers ascend, R126. -/
theorem State.checkEntry_next (h : received + index ≤ expected) (hw : s.entryOf w = some y) :
    s.checkEntry expected received index (some p) w =
      if y.plan = p then .error .duplicate else if y.plan < p then .error .order else .ok y := by
  simp only [State.checkEntry, if_neg (Nat.not_lt.mpr h), hw]

/-! ### The checks of a block, R126 -/

variable {ws : List Word} {why : Reject}

theorem State.checkBlock_error (h : s.checkEntry expected received index prev w = .error why) :
    s.checkBlock expected received index prev (w :: ws) = .failed why index := by
  rw [State.checkBlock, h]

theorem State.checkBlock_ok (h : s.checkEntry expected received index prev w = .ok y) :
    s.checkBlock expected received index prev (w :: ws) =
      (s.checkBlock expected received (index + 1) (some y.plan) ws).after y := by
  rw [State.checkBlock, h]

end

/-- The checks of R122 read the site record and the fitted shutters. -/
theorem State.entryOf_congr {s t : State} (hs : t.store = s.store) (hf : ∀ f k, t.fitted f k = s.fitted f k) (w : Word) :
    t.entryOf w = s.entryOf w := by
  have hl : t.laneType = s.laneType := by rw [State.laneType, State.laneType, hs]
  have hc (f : Face) (a : Aspect) : t.canShow f a = s.canShow f a := by
    simp only [State.canShow, State.lane, State.width, hs, hf]
  have ho : t.aspectOk = s.aspectOk := by
    funext f a
    rw [State.aspectOk, State.aspectOk, hl, hc]
  unfold State.entryOf
  rw [ho]

theorem State.checkBlock_congr {s t : State} (h : ∀ w, t.entryOf w = s.entryOf w) (expected received index : Nat)
    (prev : Option Nat) (ws : List Word) :
    t.checkBlock expected received index prev ws = s.checkBlock expected received index prev ws := by
  induction ws generalizing index prev with
  | nil => rfl
  | cons w ws ih => simp only [State.checkBlock, State.checkEntry, h, ih]

theorem State.handed_checkBlock (s : State) (c : Cmd) : (s.handed c).checkBlock = s.checkBlock := by
  funext expected received index prev ws
  exact State.checkBlock_congr (State.entryOf_congr (s.handed_store c) (s.handed_fitted c)) expected received index prev ws

/-! ### LOAD_BLOCK, R125 -/

section
variable {s : State} {args : List Word} {n : Nat} (ha : (argWord args 0).toNat = n)
include ha

theorem loadBlock_refused (h : n = 0 ∨ 8 < n) : loadBlock s args = (s, .refused .argument []) := by
  simp only [loadBlock, ha, Bool.or_eq_true, decide_eq_true_eq]
  rw [if_pos (by omega)]

variable {b : PlanBlock} (hb : s.plan = b) (hlow : 1 ≤ n) (hhigh : n ≤ 8)
include hb hlow hhigh

theorem loadBlock_closed (h : b.session.state ≠ .opened) : loadBlock s args = (s, .refused .spoiled []) := by
  simp [loadBlock, ha, hb, Nat.not_lt.mpr hhigh, Nat.one_le_iff_ne_zero.mp hlow, h]

variable {ws : List Word} (hws : (args.drop 1).take n = ws) (ho : b.session.state = .opened)
include hws ho

theorem loadBlock_taken {es : List PlanEntry}
    (h : s.checkBlock (b.session.expected.getD 0) b.session.received 1 b.staging.lastPlan ws = .taken es) :
    loadBlock s args = (s.setPlan { b with
        staging := ⟨b.staging.entries ++ es, bankCheck (b.staging.entries ++ es)⟩
        session := { b.session with received := b.session.received + n } },
      .done [BitVec.ofNat 16 (b.session.received + n)]) := by
  simp only [loadBlock, ha, hb, hws, h, fld_word]
  rw [if_neg (by simp; omega), if_neg (not_not.mpr ho)]
  rfl

theorem loadBlock_failed {why : Reject} {i : Nat}
    (h : s.checkBlock (b.session.expected.getD 0) b.session.received 1 b.staging.lastPlan ws = .failed why i) :
    loadBlock s args = (s.setPlan { b with session := { b.session with state := .spoiled } },
      .refused why [twoBytes i (b.session.received + i)]) := by
  simp only [loadBlock, ha, hb, hws, h]
  rw [if_neg (by simp; omega), if_neg (not_not.mpr ho)]

end

/-- The entry words of a block of at most 8 lie within the command's 9 argument words. -/
theorem argsOf_loadBlock_entries (body : List Word) {n : Nat} (hn : n ≤ 8) :
    ((Cmd.loadBlock.argsOf body).drop 1).take n = (body.drop 1).take n := by
  show ((body.take 9).drop 1).take n = _
  rw [List.drop_take, List.take_take, min_eq_left (by omega)]

/-- Settles O23: an entry's tests and a block's each by the branch of its check; LOAD_BLOCK by its entry count, its session and
the outcome of its block. -/
theorem loadBlockAppendsOrSpoils : Obligations.LoadBlockAppendsOrSpoils := by
  unfold Obligations.LoadBlockAppendsOrSpoils
  refine ⟨fun s w a b => ⟨State.entryOf_undefined, fun ha hb => s.entryOf_defined ha hb⟩,
    fun s expected received index p w y => ⟨fun h => ⟨State.checkEntry_count h, State.checkEntry_count h⟩,
      fun h => ⟨fun hw => ⟨State.checkEntry_entry h hw, State.checkEntry_entry h hw⟩, fun hw => ?entry⟩⟩,
    fun s expected received index i prev w ws y es why => ⟨rfl, State.checkBlock_error, fun hy => ?block⟩,
    fun s x es why i h => ?command⟩
  case entry =>
    rw [State.checkEntry_next h hw]
    exact ⟨State.checkEntry_first h hw, fun he => if_pos he,
      fun hlt => by rw [if_neg hlt.ne, if_pos hlt], fun hlt => by rw [if_neg hlt.ne', if_neg hlt.not_gt]⟩
  case block =>
    rw [State.checkBlock_ok hy]
    exact ⟨fun ht => by rw [ht]; rfl, fun hf => by rw [hf]; rfl⟩
  case command =>
    have ha : (argWord (Cmd.loadBlock.argsOf x.body) 0).toNat = x.arg.toNat := by rw [argWord_argsOf x (by decide)]
    have hb := s.handed_plan .loadBlock
    rw [← s.handed_checkBlock .loadBlock]
    refine ⟨fun hn => exec_answers rfl h (by decide) (loadBlock_refused ha hn), fun hlow hhigh =>
      ⟨fun hs => exec_answers rfl h (by decide) (loadBlock_closed ha hb hlow hhigh hs), fun ho => ?opened⟩⟩
    case opened =>
      have hws := argsOf_loadBlock_entries x.body hhigh
      exact ⟨fun ht => exec_plan rfl h (by decide) (loadBlock_taken ha hb hlow hhigh hws ho ht),
        fun hf => exec_plan rfl h (by decide) (loadBlock_failed ha hb hlow hhigh hws ho hf)⟩

end Sys2Proof.Machine
end

section
/-! The possession block under its own operations, R136-R149: at most 4 locks with distinct ids of 1-15, and the sequence record
as R136 gives it. -/

namespace Sys2Proof.Machine

/-! ### The lock table, R141 -/

theorem distinct_iff (l : List Nat) : distinct l = true ↔ l.Nodup := by
  induction l with
  | nil => simp [distinct]
  | cons a l ih => simp [distinct, ih]

theorem locksOk_iff (ls : List Lock) : locksOk ls = true ↔
    ls.length ≤ 4 ∧ (ls.map Lock.id).Nodup ∧ ∀ i ∈ ls.map Lock.id, lockIdOk i = true := by
  simp only [locksOk, Bool.and_eq_true, decide_eq_true_eq, distinct_iff, List.all_eq_true, and_assoc]
  rfl

/-- The ids alone decide. -/
theorem locksOk_congr {ls ms : List Lock} (h : ms.map Lock.id = ls.map Lock.id) : locksOk ms = locksOk ls := by
  have hlen : ms.length = ls.length := by simpa using congrArg List.length h
  rw [locksOk, locksOk, h, hlen]

theorem locksOk_append {ls : List Lock} {l : Lock} (h : locksOk ls = true) (hlen : ls.length < 4)
    (hid : lockIdOk l.id = true) (hnew : l.id ∉ ls.map Lock.id) : locksOk (ls ++ [l]) = true := by
  obtain ⟨-, hnodup, hids⟩ := (locksOk_iff ls).mp h
  rw [locksOk_iff, List.map_append, List.length_append]
  refine ⟨by simpa using hlen, List.nodup_append'.mpr ⟨hnodup, by simp, by simpa using hnew⟩, fun i hi => ?_⟩
  rcases List.mem_append.mp hi with hold | hl
  · exact hids i hold
  · rw [List.map_singleton, List.mem_singleton] at hl
    rwa [hl]

theorem locksOk_sublist {ls ms : List Lock} (hs : ms.Sublist ls) (h : locksOk ls = true) : locksOk ms = true := by
  obtain ⟨hlen, hnodup, hids⟩ := (locksOk_iff ls).mp h
  exact (locksOk_iff ms).mpr ⟨hs.length_le.trans hlen, hnodup.sublist (hs.map _), fun i hi =>
    hids i ((hs.map _).subset hi)⟩

/-- The locks of an image that passes its test, R149, R181. -/
theorem locksOk_load {ls : List StoredLock} (h : lockTest ls = true) : locksOk (ls.map StoredLock.load) = true := by
  have hids : (ls.map StoredLock.load).map Lock.id = ls.map StoredLock.id := by simp [StoredLock.load]
  rw [locksOk, hids, List.length_map]
  exact h

theorem PossBlock.holds_eq_false {b : PossBlock} {id : Nat} (h : ¬ b.holds id = true) : id ∉ b.locks.map Lock.id := by
  intro hm
  obtain ⟨l, hl, rfl⟩ := List.mem_map.mp hm
  exact h (List.any_eq_true.mpr ⟨l, hl, beq_self_eq_true l.id⟩)

/-! ### The sequence record, R136 -/

theorem SeqRecord.sound_fromSet {x : SeqRecord} (h : x.state = .fromSet) : x.sound = true ↔
    x.fromGantry.isSome = true ∧ x.laneMask.isSome = true ∧ x.faces.isSome = true ∧ x.toGantry = none ∧
      x.exceptList = [] := by
  simp [SeqRecord.sound, h, and_assoc]

theorem SeqRecord.sound_rangeSet {x : SeqRecord} (h : x.state = .rangeSet) : x.sound = true ↔
    x.fromGantry.isSome = true ∧ x.laneMask.isSome = true ∧ x.faces.isSome = true ∧ x.toGantry.isSome = true ∧
      x.exceptList.length ≤ 8 ∧ x.exceptList.Nodup := by
  simp only [SeqRecord.sound, h, Bool.and_eq_true, decide_eq_true_eq, distinct_iff, and_assoc]
  rfl

/-- POSS_TO, R137: the range is set, and no gantry is excepted yet. -/
theorem SeqRecord.sound_to {x : SeqRecord} (h : x.sound = true) (hs : x.state = .fromSet) (g : Nat) :
    ({ x with state := .rangeSet, toGantry := some g } : SeqRecord).sound = true := by
  obtain ⟨hg, hm, hf, -, he⟩ := (SeqRecord.sound_fromSet hs).mp h
  exact (SeqRecord.sound_rangeSet rfl).mpr ⟨hg, hm, hf, rfl, by simp [he], by simp [he]⟩

/-- POSS_EXCEPT, R137, R138: a further gantry where the list has room. -/
theorem SeqRecord.sound_except {x : SeqRecord} (h : x.sound = true) (hs : x.state = .rangeSet) {g : Nat}
    (hnew : g ∉ x.exceptList) (hroom : x.exceptList.length < 8) :
    ({ x with exceptList := x.exceptList ++ [g] } : SeqRecord).sound = true := by
  obtain ⟨hg, hm, hf, ht, -, hd⟩ := (SeqRecord.sound_rangeSet hs).mp h
  exact (SeqRecord.sound_rangeSet (x := { x with exceptList := x.exceptList ++ [g] }) hs).mpr
    ⟨hg, hm, hf, ht, by simpa using hroom, List.nodup_append'.mpr ⟨hd, by simp, by simpa using hnew⟩⟩

/-! ### The block -/

/-- The lock table and the sequence record as R136 and R141 give them. -/
structure PossBlock.Sound (b : PossBlock) : Prop where
  locks : locksOk b.locks = true
  seq   : b.seq.sound = true

/-- The marks of the locks and the dirty flag are not judged. -/
theorem PossBlock.Sound.of_ids {b d : PossBlock} (h : b.Sound) (hl : d.locks.map Lock.id = b.locks.map Lock.id)
    (hs : d.seq.sound = true) : d.Sound := ⟨(locksOk_congr hl).trans h.locks, hs⟩

end Sys2Proof.Machine
end

section
/-! The invariant of the tables and the queues (O57): R49, R121, R123, R136, R141. The plan tables are kept by what every
command keeps; the possession block and the forwarding queues are followed through the operations that change them, which
every other operation leaves alone. -/

namespace Sys2Proof.Machine

/-! ### The plan tables -/

theorem EffectHolds.of_plan {effect : Effect} {c : Cmd} (h : ∀ s args, (effect s args).1.plan = s.plan) :
    EffectHolds (fun s => s.plan.sound = true) c effect := fun s args hs _ _ _ =>
  show (effect s args).1.plan.sound = true by rw [h]; exact hs

theorem planSound_invariant : Invariant fun s => s.plan.sound = true where
  line h _ := h
  fault h := h
  sweep h := h
  poss h := h
  store h _ := h
  sup h _ _ := h
  faces h _ hf := hf.plan.symm ▸ h
  nodeTests h := by simpa using h
  arise h := by simpa using h
  phase h _ := h
  reset := rfl
  heard h _ := by simpa using h
  enumerated h _ := by simpa using h
  tHold h _ _ := h
  resetCause h := h
  settled {s} h _ := by
    have hpl := State.loadPlan_sound (s := s.loadIdentity.loadCalibration.loadSite.loadConfigs) (by simpa using h)
    simpa [State.loadAll] using hpl
  site h _ := h
  loadBegin _ args h _ _ _ := loadBegin_sound h args
  loadBlock _ _ h _ _ hargs := loadBlock_sound h hargs
  loadEnd _ args h _ _ _ := (loadEnd_sound h args).1
  swap _ args h _ _ _ := (swap_sound h args).1
  commission := .of_plan fun s args => by unfold commission; split <;> simp
  enterService := .of_plan fun s args => by unfold enterService; (repeat' split) <;> simp
  leaveService := .of_plan fun s args => by simp [leaveService]
  release := .of_plan fun s args => by unfold release; dsimp only; (repeat' split) <;> simp
  maintain := .of_plan fun s args => rfl
  ending h _ _ := h

/-! ### The possession block and the queues -/

@[simp] theorem LineBlock.setRx_queue (l : LineBlock) (p q : Port) (x : Receiver) :
    (l.setRx p x).queue q = l.queue q := by cases p <;> cases q <;> rfl

@[simp] theorem LineBlock.setCounters_queue (l : LineBlock) (p q : Port) (x : LineCounters) :
    (l.setCounters p x).queue q = l.queue q := by cases p <;> cases q <;> rfl

@[simp] theorem LineBlock.setLink_queue (l : LineBlock) (p q : Port) (x : Link) :
    (l.setLink p x).queue q = l.queue q := by cases p <;> cases q <;> rfl

@[simp] theorem LineBlock.rxTo_queue (l : LineBlock) (p q : Port) (x : RxState) : (l.rxTo p x).queue q = l.queue q :=
  l.setRx_queue p q _

theorem LineBlock.queuesOk_iff (l : LineBlock) : l.queuesOk = true ↔ ∀ p, (l.queue p).length ≤ 2 := by
  simp only [LineBlock.queuesOk, Bool.and_eq_true, decide_eq_true_eq]
  exact ⟨fun ⟨hout, hret⟩ p => by cases p; exacts [hret, hout], fun h => ⟨h .b, h .a⟩⟩

/-- The possession block sound, at most 2 frames in each queue. -/
structure State.Limited (s : State) : Prop where
  poss   : s.poss.Sound
  queues : ∀ p, (s.line.queue p).length ≤ 2

namespace State.Limited

variable {s t : State}

/-- What leaves the possession block and lengthens no queue. -/
theorem of_queues (h : s.Limited) (hp : t.poss = s.poss) (hq : ∀ p, (t.line.queue p).length ≤ (s.line.queue p).length) :
    t.Limited := ⟨hp ▸ h.poss, fun p => (hq p).trans (h.queues p)⟩

theorem of_frame (h : s.Limited) (hp : t.poss = s.poss) (hl : t.line = s.line) : t.Limited :=
  h.of_queues hp fun p => by rw [hl]

theorem facesOnly (h : s.Limited) (hf : s.FacesOnly t) : t.Limited := h.of_frame hf.poss hf.line

theorem setLine {l : LineBlock} (h : s.Limited) (hq : ∀ p, (l.queue p).length ≤ (s.line.queue p).length) :
    (s.setLine l).Limited := h.of_queues rfl hq

theorem setPoss {x : PossBlock} (h : s.Limited) (hx : x.Sound) : (s.setPoss x).Limited := ⟨hx, h.queues⟩

theorem setStore {x : StorageBlock} (h : s.Limited) : (s.setStore x).Limited := h.of_frame rfl rfl

/-- Every reset empties both queues and the possession block, R59, R149. -/
theorem doReset (s : State) (c : ResetCause) (ph : Phase) : (s.doReset c ph).Limited :=
  ⟨⟨rfl, rfl⟩, fun p => by cases p <;> exact Nat.zero_le 2⟩

/-! Receipt and the queues, R44-R58. -/

theorem received (h : s.Limited) (p : Port) : (s.received p).Limited := h.of_queues (by simp) (by simp)

theorem countError (h : s.Limited) (p : Port) (e : FrameError) : (s.countError p e).Limited :=
  h.of_queues (by simp) fun q => by
    cases e <;> simp [State.countError, State.countFraming, State.countCrc, State.countDirection]

theorem countOverrun (h : s.Limited) (p : Port) : (s.countOverrun p).Limited :=
  h.of_queues rfl fun q => by simp [State.countOverrun]

theorem countUnknown (h : s.Limited) (p : Port) : (s.countUnknown p).Limited :=
  h.of_queues rfl fun q => by simp [State.countUnknown]

/-- A frame joins a queue with room alone, R49. -/
theorem join (h : s.Limited) (q p : Port) (f : Frame) : (s.join q p f).Limited := by
  unfold State.join
  split
  · split
    · exact doReset _ _ _
    · exact h.countOverrun p
  · next hroom =>
    refine ⟨h.poss, fun r => ?_⟩
    rw [State.setLine_line, LineBlock.setQueue_queue]
    split
    · have hlen : (s.line.queue q).length < 2 := Nat.not_le.mp hroom
      simpa using hlen
    · exact h.queues r

theorem forwardInStartUp (h : s.Limited) (p : Port) (f : Frame) : (s.forwardInStartUp p f).Limited := by
  unfold State.forwardInStartUp
  split
  · exact (h.countUnknown p).join _ p f
  · exact h.join _ p f

theorem receiveA {f : Frame} {out ret : State → Frame → State × Frame} (h : s.Limited)
    (ho : PassHolds State.Limited out) (hr : PassHolds State.Limited ret) : (s.receiveA f out ret).Limited := by
  have hrec := h.received .a
  unfold State.receiveA
  split
  · split
    · exact hrec.forwardInStartUp .a f
    · exact hrec.forwardInStartUp .a f
    · exact hrec.forwardInStartUp .a f
    · next hrun =>
      have hout := ho _ f hrec (by simpa using hrun)
      unfold State.processA
      dsimp only
      split
      · exact hout
      · next hn =>
        split
        · exact (hr _ _ hout (not_not.mp hn)).join .a .a _
        · exact hout.join .b .a _
  · exact h

theorem receiveB {f : Frame} {ret : State → Frame → State × Frame} (h : s.Limited)
    (hr : PassHolds State.Limited ret) : (s.receiveB f ret).Limited := by
  have hrec := h.received .b
  unfold State.receiveB
  split
  · split
    · exact hrec.forwardInStartUp .b f
    · exact hrec.forwardInStartUp .b f
    · exact hrec.forwardInStartUp .b f
    · next hrun => exact (hr _ f hrec (by simpa using hrun)).join .a .b _
  · exact h

theorem listen (h : s.Limited) (p : Port) (xs : List Symbol) : (s.listen p xs).Limited :=
  h.of_queues (by simp) fun q => by cases q <;> simp [LineBlock.queue]

theorem portLost (h : s.Limited) (p : Port) (xs : List Symbol) : (s.portLost p xs).Limited := by
  have hdown : ((s.listen p xs).setLine ((s.listen p xs).line.setLink p .down)).Limited :=
    (h.listen p xs).setLine (by simp)
  unfold State.portLost
  dsimp only
  split
  · exact State.Limited.countError (hdown.setLine (by simp)) p .framing
  · exact hdown

theorem portBack (h : s.Limited) (p : Port) (xs : List Symbol) : (s.portBack p xs).Limited :=
  (h.listen p xs).setLine (by simp)

/-! The line role, R51-R54. -/

/-- The wrap discards the outbound queue, R53. -/
theorem wrap (h : s.Limited) : s.wrap.Limited := by
  unfold State.wrap
  dsimp only
  split
  · exact doReset _ _ _
  · refine h.of_queues rfl fun q => ?_
    cases q
    · exact Nat.le_refl _
    · exact Nat.zero_le _

theorem endConfigure (h : s.Limited) : s.endConfigure.Limited :=
  h.setLine fun q => by cases q <;> exact Nat.le_refl _

theorem through (h : s.Limited) (arriving : Bool) : (s.through arriving).Limited :=
  h.setLine fun q => by cases arriving <;> cases q <;> exact Nat.le_refl _

theorem writeRole (h : s.Limited) (b c : Bool) : (s.writeRole b c).Limited := by
  unfold State.writeRole
  split
  · exact h.endConfigure
  · exact h.endConfigure
  · exact h
  · exact h
  · exact h
  · split
    · exact h.through c
    · exact h.wrap

theorem startUpEnd (h : s.Limited) : s.startUpEnd.Limited := by
  have hrun : (s.setPhase .running).Limited := h.of_frame rfl rfl
  unfold State.startUpEnd
  dsimp only
  split
  · exact hrun.endConfigure
  · split
    · exact hrun.wrap
    · exact hrun.through false

theorem lampReported (h : s.Limited) (f : Face) : (s.lampReported f).Limited := by
  unfold State.lampReported
  split
  · split
    · exact h.startUpEnd
    · exact h.of_frame rfl rfl
  · split
    · exact h.startUpEnd
    · exact h.of_frame rfl rfl
  all_goals exact h

theorem reports (h : s.Limited) (ht : s.Reports t) : t.Limited := by
  obtain rfl | ⟨-, u, hu, rfl | ⟨f, rfl⟩⟩ := ht
  · exact h
  · exact (h.facesOnly hu).of_frame (by simp) (by simp)
  · exact State.Limited.lampReported ((h.facesOnly hu).of_frame (by simp) (by simp)) f

/-! The storage writer and start-up's loads, R146, R149, R187. -/

theorem lockWriteBegin (h : s.Limited) : s.lockWriteBegin.Limited := by
  unfold State.lockWriteBegin
  split
  · have hids : (s.poss.locks.map fun l => { l with inCopy := true }).map Lock.id = s.poss.locks.map Lock.id := by simp
    exact State.Limited.setStore (h.setPoss (h.poss.of_ids hids h.poss.seq))
  · exact h

theorem writerIdle (h : s.Limited) : s.writerIdle.Limited := lockWriteBegin h.setStore

theorem loadLocks (h : s.Limited) : s.loadLocks.Limited := by
  unfold State.loadLocks
  split
  · exact State.Limited.of_frame (h.setPoss (x := { s.poss with locks := [] }) ⟨rfl, h.poss.seq⟩) rfl rfl
  · next ls hls =>
    exact State.Limited.setStore (h.setPoss ⟨locksOk_load (Image.sound_passes hls), h.poss.seq⟩)

theorem loadAll (h : s.Limited) : s.loadAll.Limited := loadLocks (h.of_frame (by simp) (by simp))

end State.Limited

/-! ### Effects of commands -/

/-- An effect that leaves the possession block and the line. -/
theorem EffectHolds.of_aside {effect : Effect} {c : Cmd}
    (h : ∀ s args, (effect s args).1.poss = s.poss ∧ (effect s args).1.line = s.line) :
    EffectHolds State.Limited c effect := fun s args hs _ _ _ => hs.of_frame (h s args).1 (h s args).2

theorem PlanEffect.limited {effect : Effect} (he : PlanEffect effect) (c : Cmd) : EffectHolds State.Limited c effect :=
  .of_aside fun s args => by
    obtain ⟨b, hb⟩ := he s args
    rw [hb]
    exact ⟨rfl, rfl⟩

theorem writeSite_limited (arriving : Bool) : EffectHolds State.Limited .writeSite (writeSite arriving) := by
  intro s args h _ _ _
  unfold writeSite
  (repeat' split)
  · exact h
  · exact h
  · exact State.Limited.writeRole (h.of_frame (by simp) (by simp)) _ _
  · exact h

/-! Possessions, R137-R146. -/

theorem State.Limited.setSeq {s : State} {x : SeqRecord} (h : s.Limited) (hx : x.sound = true) : (s.setSeq x).Limited :=
  h.setPoss (x := { s.poss with seq := x }) ⟨h.poss.locks, hx⟩

theorem State.Limited.sequenceError {s : State} (h : s.Limited) : s.sequenceError.1.Limited :=
  (h.setSeq (x := .cleared) rfl).of_frame rfl rfl

theorem State.Limited.abandonSequence {s : State} (h : s.Limited) (c : Cmd) : (s.abandonSequence c).Limited := by
  unfold State.abandonSequence
  split
  · exact h
  · exact (h.setSeq (x := .cleared) rfl).of_frame rfl rfl

theorem possFrom_limited : EffectHolds State.Limited .possFrom possFrom := by
  intro s args h _ _ _
  unfold possFrom
  dsimp only
  (repeat' split)
  · exact h
  · exact h
  · exact h.setSeq rfl
  · exact h.sequenceError

theorem possTo_limited : EffectHolds State.Limited .possTo possTo := by
  intro s args h _ _ _
  unfold possTo
  dsimp only
  (repeat' split)
  · exact h
  · next hc =>
    have hs : s.poss.seq.state = .fromSet := by simp_all
    exact h.setSeq (SeqRecord.sound_to h.poss.seq hs _)
  · exact h.sequenceError

theorem possExcept_limited : EffectHolds State.Limited .possExcept possExcept := by
  intro s args h _ _ _
  unfold possExcept
  dsimp only
  (repeat' split)
  · exact h
  · exact h.sequenceError
  · exact h
  · next hs hnew hroom =>
    exact h.setSeq (SeqRecord.sound_except h.poss.seq (not_not.mp hs) (by simpa using hnew) hroom)
  · exact h.sequenceError

/-- A new lock's id is of 1-15 and none of the table's, and the table has room, R139. -/
theorem State.Limited.applyLock {s : State} (h : s.Limited) {id : Nat} (hid : lockIdOk id = true)
    (hnew : id ∉ s.poss.locks.map Lock.id) (hroom : s.poss.locks.length < 4) (fs : LockFaces) :
    (s.applyLock id fs).Limited := by
  have hset := h.setPoss (x := { seq := .cleared, locks := s.poss.locks ++ [⟨id, fs, false, false⟩], dirty := true })
    ⟨locksOk_append h.poss.locks hroom hid hnew, rfl⟩
  exact State.Limited.lockWriteBegin (hset.of_frame (by simp) (by simp))

theorem possApply_limited : EffectHolds State.Limited .possApply possApply := by
  intro s args h _ _ _
  unfold possApply
  dsimp only
  (repeat' split)
  · exact h
  · exact h.sequenceError
  · exact h.setSeq rfl
  · exact h.setSeq rfl
  · exact h.setSeq rfl
  · next hid _ _ hnew hroom =>
    exact h.applyLock (by simpa using hid) (PossBlock.holds_eq_false hnew) (Nat.not_le.mp hroom) _

theorem possLift_limited (target : BitVec 8) : EffectHolds State.Limited .possLift (possLift target) := by
  intro s args h _ _ _
  unfold possLift
  dsimp only
  (repeat' split)
  · exact h
  · exact State.Limited.lockWriteBegin (h.setPoss ⟨locksOk_sublist List.filter_sublist h.poss.locks, h.poss.seq⟩)
  · exact h
  · exact h

theorem effectOf_limited {i : Instr} {c : Cmd} {x : CommandPayload} (hi : commandOf i = some (c, x)) :
    EffectHolds State.Limited c (effectOf i) := by
  cases i <;> cases hi
  case readIdentity | readSite | readStatus | readLocks | readCounters | reset => exact .of_still fun _ _ => rfl
  case readFace => exact .of_still fun s args => by rw [effectOf, readFace_eq]
  case readChannel => exact .of_still fun s args => by rw [effectOf, readChannel_eq]
  case readPlan => exact .of_still fun s args => by rw [effectOf, readPlan_eq]
  case writeSite => exact writeSite_limited _
  case writeFace => exact .of_aside fun s args => by rw [effectOf]; unfold writeFace; (repeat' split) <;> simp
  case setMasks => exact .of_aside fun s args => by rw [effectOf]; unfold setMasks; split <;> simp
  case clearFaults => exact .of_aside fun s args => by rw [effectOf]; unfold clearFaults; (repeat' split) <;> simp
  case loadBegin => exact loadBegin_plan.limited _
  case loadBlock => exact loadBlock_plan.limited _
  case loadEnd => exact loadEnd_plan.limited _
  case swap => exact swap_plan.limited _
  case store => exact .of_aside fun s args => by rw [effectOf]; unfold store; split <;> simp
  case eraseStore => exact .of_aside fun s args => by rw [effectOf]; unfold eraseStore; split <;> simp
  case commission => exact .of_aside fun s args => by rw [effectOf]; unfold commission; split <;> simp
  case enterService => exact .of_aside fun s args => by rw [effectOf]; unfold enterService; (repeat' split) <;> simp
  case leaveService => exact .of_aside fun s args => by simp [effectOf, leaveService]
  case release => exact .of_aside fun s args => by rw [effectOf]; unfold release; dsimp only; (repeat' split) <;> simp
  case maintain => exact .of_aside fun s args => ⟨rfl, rfl⟩
  case endMaintain => exact .of_aside fun s args => by rw [effectOf]; unfold endMaintain; split <;> simp
  case faceSet => exact .of_aside fun s args => by rw [effectOf]; unfold faceSetCommand; (repeat' split) <;> simp
  case elementTest =>
    exact .of_aside fun s args => by rw [effectOf]; unfold elementTestCommand; (repeat' split) <;> simp
  case possFrom => exact possFrom_limited
  case possTo => exact possTo_limited
  case possExcept => exact possExcept_limited
  case possApply => exact possApply_limited
  case possLift => exact possLift_limited _

theorem judge_limited {c : Cmd} {target : BitVec 8} {effect : Effect} (he : EffectHolds State.Limited c effect) :
    PassHolds State.Limited fun t f => t.judge c target effect f := by
  intro s f h hrun
  show (s.judge c target effect f).1.Limited
  unfold State.judge
  split
  · exact h
  · exact h.of_frame rfl rfl
  · exact h.of_frame rfl rfl
  · exact h
  · exact h
  · next hv =>
    obtain ⟨hs, hroom⟩ := State.verdict_execute hv
    exact he _ _ (h.abandonSequence c) (by simpa using hrun) (by simpa using hs) (argsOf_length hroom)

theorem State.Limited.command {s t : State} {i : Instr} {c : Cmd} {x : CommandPayload} (hi : commandOf i = some (c, x))
    (h : s.Limited) (ht : exec i s = .next t) : t.Limited := by
  rw [exec_command hi] at ht
  cases ht
  exact h.receiveA (judge_limited (effectOf_limited hi)) unchanged_holds

/-! ### Frames -/

/-- A pass that leaves the possession block and the line. -/
theorem PassHolds.of_aside {pass : State → Frame → State × Frame}
    (h : ∀ s f, (pass s f).1.poss = s.poss ∧ (pass s f).1.line = s.line) : PassHolds State.Limited pass :=
  fun s f hs _ => hs.of_frame (h s f).1 (h s f).2

theorem sweepPass_limited : PassHolds State.Limited State.sweepPass := .of_aside fun s f => by simp

theorem sweepReturn_limited : PassHolds State.Limited State.sweepReturn := .of_aside fun s f => by simp

theorem closeAll_limited : PassHolds State.Limited State.closeAll := .of_aside fun s f => by simp

theorem unknownPass_limited (p : Port) : PassHolds State.Limited (unknownPass p) := fun _ _ h _ => h.countUnknown p

namespace State.Limited

variable {s t : State} {p : Port}

theorem sweep {x : Payload} (h : s.Limited) (ht : execSweep p x s = .next t) : t.Limited := by
  cases p <;> cases ht
  · exact h.receiveA sweepPass_limited sweepReturn_limited
  · exact h.receiveB sweepPass_limited

theorem closeall {x : Payload} (h : s.Limited) (ht : execCloseall p x s = .next t) : t.Limited := by
  cases p <;> cases ht
  · exact h.receiveA closeAll_limited closeAll_limited
  · exact h.receiveB closeAll_limited

theorem unknownFrame {k : BitVec 4} {x : Payload} (h : s.Limited) (ht : execUnknownFrame p k x s = .next t) :
    t.Limited := by
  unfold execUnknownFrame at ht
  split at ht
  · cases p <;> cases ht
    · exact h.receiveA (unknownPass_limited .a) unchanged_holds
    · exact h.receiveB (unknownPass_limited .b)
  · cases ht; exact h

theorem forwardUnchanged {k : BitVec 4} {x : Payload} (h : s.Limited) (ht : execForwardUnchanged p k x s = .next t) :
    t.Limited := by
  unfold execForwardUnchanged at ht
  cases p <;> dsimp only at ht <;> split at ht <;> cases ht
  · exact h.receiveA (.of_aside fun s f => by simp [clashPass]) unchanged_holds
  · exact h
  · exact h.receiveB unchanged_holds
  · exact h

theorem startUpForward {k : BitVec 4} {x : Payload} (h : s.Limited) (ht : execStartUpForward p k x s = .next t) :
    t.Limited := by
  unfold execStartUpForward at ht
  split at ht
  · split at ht <;> cases ht
    · exact (h.received p).forwardInStartUp p _
    · exact (h.received p).forwardInStartUp p _
    · exact (h.received p).forwardInStartUp p _
    · exact h
  · cases ht; exact h

theorem frameCheckFailed {ws : List Word} (h : s.Limited) (ht : execFrameCheckFailed p ws s = .next t) : t.Limited := by
  unfold execFrameCheckFailed at ht
  split at ht
  · cases ht; exact h
  · split at ht <;> cases ht
    · exact h
    · exact State.Limited.countError (h.setLine (by simp)) p _

theorem undefinedCommand {c : BitVec 8} {x : CommandPayload} (h : s.Limited)
    (ht : execUndefinedCommand c x s = .next t) : t.Limited := by
  have hr : (s.receiveA (commandFrame c x) (fun t f => t.judgeSilent x.target f) unchanged).Limited :=
    h.receiveA (.of_aside fun s f => by simp) unchanged_holds
  unfold execUndefinedCommand at ht
  split at ht
  · cases ht; exact hr
  · split at ht <;> cases ht
    · exact h
    · exact hr

/-! The line's events, R43, R44, R50. -/

theorem discardingEnd (h : s.Limited) (ht : execDiscardingEnd p s = .next t) : t.Limited := by
  unfold execDiscardingEnd at ht
  split at ht <;> cases ht
  · exact h.setLine (by simp)
  · exact h

theorem frameSent (h : s.Limited) (ht : execFrameSent p s = .next t) : t.Limited := by
  unfold execFrameSent at ht
  split at ht
  · cases ht; exact h
  · next f rest hq =>
    dsimp only at ht
    split at ht <;> cases ht
    · exact doReset _ _ _
    · refine h.setLine fun r => ?_
      rw [LineBlock.setQueue_queue]
      split
      · next hr => rw [hr, hq]; exact Nat.le_succ _
      · exact Nat.le_refl _

theorem portDown {xs : List Symbol} (h : s.Limited) (ht : execPortDown p xs s = .next t) : t.Limited := by
  unfold execPortDown at ht
  split at ht
  · cases ht; exact h
  · split at ht
    · cases ht; exact h.portLost .a xs
    · split at ht <;> cases ht
      · exact (h.portLost .b xs).wrap
      · exact h.portLost .b xs

theorem portUp {xs : List Symbol} (h : s.Limited) (ht : execPortUp p xs s = .next t) : t.Limited := by
  unfold execPortUp at ht
  split at ht
  · cases ht; exact h
  · split at ht
    · cases ht; exact h.portBack .a xs
    · split at ht <;> cases ht
      · exact (h.portBack .b xs).through _
      · exact h.portBack .b xs

/-! Start-up and the storage writer, R146, R183-R187. -/

theorem settled (h : s.Limited) (ht : execStartUpSettleEnd s = .next t) : t.Limited := by
  unfold execStartUpSettleEnd at ht
  split at ht <;> cases ht
  · exact h.loadAll.of_frame (by simp) (by simp)
  · exact h

theorem storeImageDone (h : s.Limited) (ht : execStoreImageDone s = .next t) : t.Limited := by
  unfold execStoreImageDone at ht
  split at ht <;> cases ht
  · exact h.of_frame (by simp) (by simp)
  · exact h.setStore
  · exact State.Limited.writerIdle h.setStore
  all_goals exact h

theorem eraseImageDone (h : s.Limited) (ht : execEraseImageDone s = .next t) : t.Limited := by
  unfold execEraseImageDone at ht
  split at ht <;> cases ht
  · exact h.setStore
  · exact h.writerIdle
  all_goals exact h

theorem lockWriteDone (h : s.Limited) (ht : execLockWriteDone s = .next t) : t.Limited := by
  unfold execLockWriteDone at ht
  split at ht <;> cases ht
  · have hids : (s.poss.locks.map Lock.written).map Lock.id = s.poss.locks.map Lock.id := by simp [Lock.written]
    exact State.Limited.writerIdle (State.Limited.setStore (h.setPoss (h.poss.of_ids hids h.poss.seq)))
  all_goals exact h

/-! Supervision and power, R154-R159. -/

theorem tHoldExpiry (h : s.Limited) (ht : execTHoldExpiry s = .next t) : t.Limited := by
  unfold execTHoldExpiry at ht
  split at ht
  · split at ht <;> cases ht
    · exact h.of_frame rfl rfl
    · exact h
  all_goals cases ht; exact h

theorem tCloseExpiry (h : s.Limited) (ht : execTCloseExpiry s = .next t) : t.Limited := by
  unfold execTCloseExpiry at ht
  split at ht
  · split at ht <;> cases ht
    · exact h.of_frame (by simp) (by simp)
    · exact h
  all_goals cases ht; exact h

theorem supplyDipReset {mv : Nat} (h : s.Limited) (ht : execSupplyDipReset mv s = .next t) : t.Limited := by
  unfold execSupplyDipReset at ht
  split at ht
  · split at ht
    · cases ht; exact doReset _ _ _
    · split at ht <;> cases ht
      · exact h.of_frame rfl rfl
      · exact h
  · cases ht; exact h

/-- A row that acts under a condition, leaving the possession block and the line. -/
theorem of_guarded {c : Prop} [Decidable c] {u : State} (h : s.Limited)
    (ht : (if c then .next u else .next s : Host.Outcome State Fault Refusal) = .next t) (hp : u.poss = s.poss)
    (hl : u.line = s.line) : t.Limited := by
  split at ht <;> cases ht
  · exact h.of_frame hp hl
  · exact h

/-! ### Every command, every step -/

theorem exec {i : Instr} (h : s.Limited) (ht : Machine.exec i s = .next t) : t.Limited := by
  cases i
  case readIdentity | readSite | readStatus | readFace | readChannel | readPlan | readLocks | readCounters | writeSite |
      writeFace | setMasks | clearFaults | loadBegin | loadBlock | loadEnd | swap | store | eraseStore | commission |
      enterService | leaveService | release | maintain | endMaintain | reset | faceSet | elementTest | possFrom | possTo |
      possExcept | possApply | possLift => exact h.command rfl ht
  case sweep => exact h.sweep ht
  case rollcall => cases ht; exact h.receiveA (.of_aside fun s f => by simp) unchanged_holds
  case enumerate => cases ht; exact h.receiveA (.of_aside fun s f => by simp) unchanged_holds
  case closeall => exact h.closeall ht
  case unknownFrame => exact h.unknownFrame ht
  case forwardUnchanged => exact h.forwardUnchanged ht
  case startUpForward => exact h.startUpForward ht
  case frameCheckFailed => exact h.frameCheckFailed ht
  case framingError => cases ht; exact h.listen _ _
  case frameSent => exact h.frameSent ht
  case portDown => exact h.portDown ht
  case portUp => exact h.portUp ht
  case undefinedCommand => exact h.undefinedCommand ht
  case moved => exact h.reports (execMoved_reports ht)
  case hitTimeEnd => exact h.reports (execHitTimeEnd_reports ht)
  case holdLost => exact h.reports (execHoldLost_reports ht)
  case dropped => exact h.reports (execDropped_reports ht)
  case notDropped => exact h.reports (execNotDropped_reports ht)
  case overcurrent => exact h.reports (execOvercurrent_reports ht)
  case lit => exact h.reports (execLit_reports ht)
  case notLit => exact h.reports (execNotLit_reports ht)
  case lampOpen => exact h.reports (execLampOpen_reports ht)
  case lampOvercurrent => exact h.reports (execLampOvercurrent_reports ht)
  case lampCurrentMoveEnd => cases ht; exact h.facesOnly (.setLamp s _ _)
  case tHoldExpiry => exact h.tHoldExpiry ht
  case tCloseExpiry => exact h.tCloseExpiry ht
  case loopOpen => exact h.of_guarded ht (by simp) (by simp)
  case loopRestored => exact h.of_guarded ht rfl rfl
  case supplyLow => exact h.of_guarded ht (by simp) (by simp)
  case supplyNormal => exact h.of_guarded ht rfl rfl
  case supplyDipReset => exact h.supplyDipReset ht
  case powerOn => cases ht; exact doReset _ _ _
  case resetEnd => exact h.of_guarded ht rfl rfl
  case startUpSettleEnd => exact h.settled ht
  case storeImageDone => exact h.storeImageDone ht
  case eraseImageDone => exact h.eraseImageDone ht
  case lockWriteDone => exact h.lockWriteDone ht
  case discardingEnd => exact h.discardingEnd ht

theorem step (h : s.Limited) (ht : Machine.step s = .next t) : t.Limited := by
  cases hp : s.pending with
  | nil => simp only [Machine.step, hp, Host.Outcome.next.injEq] at ht; exact ht ▸ h
  | cons i rest =>
    rw [step_cons hp] at ht
    exact State.Limited.exec (h.of_frame (t := s.setPending rest) rfl rfl) ht

end State.Limited

/-- Settles O57: the plan tables are sound by what every command keeps of them; the locks, the sequence record and the queues by
the operations that change them, each within its limit. -/
theorem tablesAndQueuesStaySound : Obligations.TablesAndQueuesStaySound := by
  unfold Obligations.TablesAndQueuesStaySound
  intro s t ht hplan hlocks hseq hqueues
  have hlim : s.Limited := ⟨⟨hlocks, hseq⟩, s.line.queuesOk_iff.mp hqueues⟩
  obtain ⟨⟨hlocks', hseq'⟩, hqueues'⟩ := hlim.step ht
  exact ⟨planSound_invariant.step (fun _ h => h) hplan ht, hlocks', hseq', t.line.queuesOk_iff.mpr hqueues'⟩

end Sys2Proof.Machine
end

section
/-! The possession steps as executed: POSS_FROM, POSS_TO and POSS_EXCEPT (O33) and POSS_LIFT (O35): R137, R138, R144-R146. -/

namespace Sys2Proof.Machine

/-! ### A possession command executed -/

/-- A possession command leaves a sequence in progress to its own effect, R140. -/
theorem exec_possession {i : Instr} {s u : State} {c : Cmd} {x : CommandPayload} {r : Reply}
    (hi : commandOf i = some (c, x)) (h : s.executes c x = true) (hk : c.keepsSequence = true)
    (he : effectOf i (s.received .a) (c.argsOf x.body) = (u, r)) (hu : u.phase = s.phase) :
    exec i s = .next (u.sendReply c x r) := by
  have hc : c ≠ .reset := by
    rintro rfl
    exact absurd hk (by decide)
  rw [← State.handed_keeps hk] at he
  rw [exec_command hi, State.command_executes h hc _ (by rw [he]; exact hu.trans (State.running_of_executes h)), he]

/-- A node that is not concerned writes nothing into the frame, R139, R145. -/
theorem State.sendReply_notConcerned (s : State) (c : Cmd) (x : CommandPayload) :
    s.sendReply c x .notConcerned = s.sendA (commandFrame (BitVec.ofNat 8 c.row.code) x) := by
  have hb : answer c x.target s.node.address x.body .notConcerned = x.body := by
    unfold answer
    split <;> rfl
  simp only [State.sendReply, Frame.answered, commandFrame, hb]

/-- A sequence error sets the SEQUENCE latch and clears the record, R138. -/
theorem State.sequenceError_eq (s : State) : s.sequenceError = ({ s with
    poss := { s.poss with seq := ⟨.none, none, none, none, none, []⟩ }
    fault := { s.fault with latches := s.fault.latches ||| 256 } }, .refused .sequence []) := rfl

theorem gantryOk_iff (g : Nat) : gantryOk g = true ↔ 1 ≤ g ∧ g ≤ 64 := by
  simp only [gantryOk, Bool.and_eq_true, decide_eq_true_eq]
  exact Iff.rfl

theorem gantryOk_eq_false {g : Nat} (h : g = 0 ∨ 64 < g) : gantryOk g = false := by
  rw [← Bool.not_eq_true, gantryOk_iff]
  omega

theorem lockIdOk_iff (i : Nat) : lockIdOk i = true ↔ 1 ≤ i ∧ i ≤ 15 := by
  simp [lockIdOk]

theorem lockIdOk_eq_false {i : Nat} (h : i = 0 ∨ 15 < i) : lockIdOk i = false := by
  rw [← Bool.not_eq_true, lockIdOk_iff]
  omega

/-! ### POSS_FROM -/

/-- The lane mask of POSS_FROM names no lane, R137. -/
theorem laneMask_eq_zero_iff (w : Word) : w.setWidth 8 = 0 ↔ w.toNat % 256 = 0 := by
  rw [← BitVec.toNat_inj]
  simp

section
variable {s : State} {args : List Word} {w v : Word} (ha : argWord args 0 = w) (hb : argWord args 1 = v)
include ha hb

theorem possFrom_refused (h : LockFaces.ofCode v.toNat = none ∨ w.toNat / 256 = 0 ∨ 64 < w.toNat / 256 ∨
    w.toNat % 256 = 0) : possFrom s args = (s, .refused .argument []) := by
  unfold possFrom
  simp only [ha, hb, hiByte_eq]
  split
  · rfl
  · next hf =>
    rw [if_pos]
    rcases h with h | h | h | h
    · rw [hf] at h; cases h
    · simp [gantryOk_eq_false (.inl h)]
    · simp [gantryOk_eq_false (.inr h)]
    · simp [(laneMask_eq_zero_iff w).mpr h]

variable {fs : LockFaces} (hf : LockFaces.ofCode v.toNat = some fs) (hlow : 1 ≤ w.toNat / 256)
  (hhigh : w.toNat / 256 ≤ 64) (hm : w.toNat % 256 ≠ 0)
include hf hlow hhigh hm

/-- The arguments pass, and the sequence state decides, R138. -/
theorem possFrom_judged : possFrom s args =
    if s.poss.seq.state = .none then
      (s.setSeq ⟨.fromSet, some (w.toNat / 256), some (BitVec.ofNat 8 w.toNat), some fs, none, []⟩, .done [])
    else s.sequenceError := by
  have hmask : ¬w.setWidth 8 = 0 := fun h => hm ((laneMask_eq_zero_iff w).mp h)
  simp only [possFrom, ha, hb, hiByte_eq, hf, (gantryOk_iff _).mpr ⟨hlow, hhigh⟩, hmask, BitVec.ofNat_toNat]
  rfl

end

/-! ### POSS_TO and POSS_EXCEPT -/

section
variable {s : State} {args : List Word} {w : Word} (ha : argWord args 0 = w)
include ha

theorem possTo_refused (h : w.toNat = 0 ∨ 64 < w.toNat) : possTo s args = (s, .refused .argument []) := by
  simp [possTo, ha, gantryOk_eq_false h]

theorem possExcept_refused (h : w.toNat = 0 ∨ 64 < w.toNat) : possExcept s args = (s, .refused .argument []) := by
  simp [possExcept, ha, gantryOk_eq_false h]

section
variable (hlow : 1 ≤ w.toNat) (hhigh : w.toNat ≤ 64)
include hlow hhigh

theorem possTo_done {g : Nat} (hs : s.poss.seq.state = .fromSet) (hg : s.poss.seq.fromGantry = some g)
    (hle : g ≤ w.toNat) :
    possTo s args = (s.setSeq { s.poss.seq with state := .rangeSet, toGantry := some w.toNat }, .done []) := by
  simp [possTo, ha, (gantryOk_iff _).mpr ⟨hlow, hhigh⟩, hs, hg, hle]

theorem possTo_outOfPlace {g : Nat}
    (h : s.poss.seq.state ≠ .fromSet ∨ s.poss.seq.fromGantry = some g ∧ w.toNat < g) :
    possTo s args = s.sequenceError := by
  simp only [possTo, ha, (gantryOk_iff _).mpr ⟨hlow, hhigh⟩]
  rcases h with hs | ⟨hg, hlt⟩
  · simp [hs]
  · simp [hg, hlt]

theorem possExcept_listed (hs : s.poss.seq.state = .rangeSet) (hm : w.toNat ∈ s.poss.seq.exceptList) :
    possExcept s args = (s, .done []) := by
  simp [possExcept, ha, (gantryOk_iff _).mpr ⟨hlow, hhigh⟩, hs, hm]

theorem possExcept_appends (hs : s.poss.seq.state = .rangeSet) (hm : w.toNat ∉ s.poss.seq.exceptList)
    (hlen : s.poss.seq.exceptList.length < 8) : possExcept s args =
      (s.setSeq { s.poss.seq with exceptList := s.poss.seq.exceptList ++ [w.toNat] }, .done []) := by
  simp [possExcept, exceptLimit, ha, (gantryOk_iff _).mpr ⟨hlow, hhigh⟩, hs, hm, hlen]

theorem possExcept_outOfPlace (h : s.poss.seq.state ≠ .rangeSet ∨
    w.toNat ∉ s.poss.seq.exceptList ∧ 8 ≤ s.poss.seq.exceptList.length) : possExcept s args = s.sequenceError := by
  simp only [possExcept, exceptLimit, ha, (gantryOk_iff _).mpr ⟨hlow, hhigh⟩]
  rcases h with hs | ⟨hm, hlen⟩
  · simp [hs]
  · simp [hm, hlen]

end

/-- An apply step without a range set is out of place, R138. -/
theorem possApply_outOfPlace (hlow : 1 ≤ w.toNat) (hhigh : w.toNat ≤ 15) (hs : s.poss.seq.state ≠ .rangeSet) :
    possApply s args = s.sequenceError := by
  simp [possApply, ha, (lockIdOk_iff _).mpr ⟨hlow, hhigh⟩, hs]

end

/-- Settles O33: each step by its argument test, then by its cell of the table of R138. -/
theorem possessionStepsBuildTheRecord : Obligations.PossessionStepsBuildTheRecord := by
  unfold Obligations.PossessionStepsBuildTheRecord
  refine ⟨fun s x fs g0 => ⟨fun h => ?_, fun h => ?_, fun h => ?_⟩, fun s t x g0 ht => ?outOfPlace⟩
  · have ha : argWord (Cmd.possFrom.argsOf x.body) 0 = x.arg := argWord_argsOf x (by decide)
    have hb : argWord (Cmd.possFrom.argsOf x.body) 1 = x.body.getD 1 0 := argWord_argsOf_getD x (by decide)
    exact ⟨fun hbad => exec_possession rfl h rfl (possFrom_refused ha hb hbad) rfl,
      fun hf hlow hhigh hm hs => exec_possession rfl h rfl
        ((possFrom_judged ha hb hf hlow hhigh hm).trans (if_pos hs)) rfl⟩
  · have ha : argWord (Cmd.possTo.argsOf x.body) 0 = x.arg := argWord_argsOf x (by decide)
    exact ⟨fun hbad => exec_possession rfl h rfl (possTo_refused ha hbad) rfl,
      fun hlow hhigh hs hg hle => exec_possession rfl h rfl
        (possTo_done (s := s.received .a) ha hlow hhigh hs hg hle) rfl⟩
  · have ha : argWord (Cmd.possExcept.argsOf x.body) 0 = x.arg := argWord_argsOf x (by decide)
    exact ⟨fun hbad => exec_possession rfl h rfl (possExcept_refused ha hbad) rfl, fun hlow hhigh hs =>
      ⟨fun hm => exec_possession rfl h rfl (possExcept_listed (s := s.received .a) ha hlow hhigh hs hm) rfl,
        fun hm hlen => exec_possession rfl h rfl
          (possExcept_appends (s := s.received .a) ha hlow hhigh hs hm hlen) rfl⟩⟩
  case outOfPlace =>
    have herr : (s.received .a).sequenceError = (t, .refused .sequence []) := by
      rw [State.sequenceError_eq, ht]
      rfl
    have htp : t.phase = s.phase := by rw [ht]; rfl
    refine ⟨fun h hf hlow hhigh hm hs => ?_, fun h hlow hhigh hs => ?_, fun h hlow hhigh hs => ?_,
      fun h hlow hhigh hs => ?_⟩
    · have ha : argWord (Cmd.possFrom.argsOf x.body) 0 = x.arg := argWord_argsOf x (by decide)
      have hb : argWord (Cmd.possFrom.argsOf x.body) 1 = x.body.getD 1 0 := argWord_argsOf_getD x (by decide)
      obtain ⟨fs, hf⟩ := Option.ne_none_iff_exists'.mp hf
      exact exec_possession rfl h rfl
        (((possFrom_judged (s := s.received .a) ha hb hf hlow hhigh hm).trans (if_neg hs)).trans herr) htp
    · exact exec_possession rfl h rfl
        ((possTo_outOfPlace (s := s.received .a) (argWord_argsOf x (by decide)) hlow hhigh hs).trans herr) htp
    · exact exec_possession rfl h rfl
        ((possExcept_outOfPlace (s := s.received .a) (argWord_argsOf x (by decide)) hlow hhigh hs).trans herr) htp
    · exact exec_possession rfl h rfl
        ((possApply_outOfPlace (s := s.received .a) (argWord_argsOf x (by decide)) hlow hhigh hs).trans herr) htp

/-! ### POSS_LIFT, R144-R146 -/

theorem PossBlock.holds_iff (b : PossBlock) (id : Nat) : b.holds id = true ↔ ∃ l ∈ b.locks, l.id = id := by
  simp [PossBlock.holds]

theorem PossBlock.holds_eq_false_iff (b : PossBlock) (id : Nat) : b.holds id = false ↔ ∀ l ∈ b.locks, l.id ≠ id := by
  simp [PossBlock.holds]

/-- On a busy writer the dirty flag waits, R147. -/
theorem State.lockWriteBegin_busy {s : State} (h : s.store.writer ≠ .idle) : s.lockWriteBegin = s := by
  simp [State.lockWriteBegin, h]

/-- On an idle writer the write of a dirty table begins, R146. -/
theorem State.lockWriteBegin_idle {s : State} (hd : s.poss.dirty = true) (h : s.store.writer = .idle) :
    s.lockWriteBegin = { s with
      poss := { s.poss with locks := s.poss.locks.map fun l => ⟨l.id, l.faces, l.durable, true⟩, dirty := false }
      store := { s.store with
        writer := .lockWriting (s.poss.locks.map fun l => ⟨l.id, l.faces⟩)
        lockImage := ⟨.writing, none, false, false⟩ } } := by
  simp [State.lockWriteBegin, hd, h, State.setPoss, State.setStore, Image.begin, Lock.stored]

theorem State.liftLock_busy {s : State} (h : s.store.writer ≠ .idle) (id : Nat) : s.liftLock id = { s with
    poss := { s.poss with locks := s.poss.locks.filter (fun l => l.id != id), dirty := true } } :=
  State.lockWriteBegin_busy (s := s.setPoss _) h

theorem State.liftLock_idle {s : State} (h : s.store.writer = .idle) (id : Nat) : s.liftLock id = { s with
    poss := { s.poss with
      locks := (s.poss.locks.filter (fun l => l.id != id)).map fun l => ⟨l.id, l.faces, l.durable, true⟩
      dirty := false }
    store := { s.store with
      writer := .lockWriting ((s.poss.locks.filter (fun l => l.id != id)).map fun l => ⟨l.id, l.faces⟩)
      lockImage := ⟨.writing, none, false, false⟩ } } :=
  State.lockWriteBegin_idle (s := s.setPoss _) rfl h

section
variable {s : State} {args : List Word} {w : Word} {target : BitVec 8} (ha : argWord args 0 = w)
include ha

theorem possLift_refused (h : w.toNat = 0 ∨ 15 < w.toNat) :
    possLift target s args = (s, .refused .argument []) := by simp [possLift, ha, lockIdOk_eq_false h]

variable (hlow : 1 ≤ w.toNat) (hhigh : w.toNat ≤ 15)
include hlow hhigh

theorem possLift_absent (hl : ∀ l ∈ s.poss.locks, l.id ≠ w.toNat) : possLift target s args =
    (s, if target = 0 then .notConcerned else .refused .lockId []) := by
  simp only [possLift, ha, (lockIdOk_iff _).mpr ⟨hlow, hhigh⟩, (PossBlock.holds_eq_false_iff _ _).mpr hl]
  rw [apply_ite (Prod.mk s)]
  rfl

theorem possLift_present (hl : ∃ l ∈ s.poss.locks, l.id = w.toNat) :
    possLift target s args = (s.liftLock w.toNat, .done []) := by
  simp [possLift, ha, (lockIdOk_iff _).mpr ⟨hlow, hhigh⟩, (PossBlock.holds_iff _ _).mpr hl]

end

/-- Settles O35: the id's range, then the lock absent by the form of the command, or present by the writer. -/
theorem possLiftRemovesTheLock : Obligations.PossLiftRemovesTheLock := by
  unfold Obligations.PossLiftRemovesTheLock
  intro s x h
  have ha : argWord (Cmd.possLift.argsOf x.body) 0 = x.arg := argWord_argsOf x (by decide)
  refine ⟨fun hbad => exec_possession rfl h rfl (possLift_refused ha hbad) rfl, fun hlow hhigh hl => ?absent,
    fun hlow hhigh hl => ?present⟩
  case absent =>
    have habsent := exec_possession (i := .possLift x) rfl h rfl
      (possLift_absent (s := s.received .a) (target := x.target) ha hlow hhigh hl) rfl
    refine ⟨fun ht => by rwa [if_neg ht] at habsent, fun ht => ?_⟩
    rw [if_pos ht, State.sendReply_notConcerned] at habsent
    exact habsent
  case present =>
    have hlift := exec_possession (i := .possLift x) rfl h rfl
      (possLift_present (s := s.received .a) (target := x.target) ha hlow hhigh hl) (by simp)
    refine ⟨fun hw => ?_, fun hw => ?_⟩
    · rw [State.liftLock_busy (s := s.received .a) hw] at hlift
      exact hlift
    · rw [State.liftLock_idle (s := s.received .a) hw] at hlift
      exact hlift

end Sys2Proof.Machine
end

section
/-! POSS_APPLY (O34): the lock joins the table, each face it newly covers takes CLOSED at once, and the write of the table begins
or waits (R8, R107, R139, R142, R143, R146). -/

namespace Sys2Proof.Machine

/-! ### CLOSED taken at once, R143 -/

/-- A face stands CLOSED, or is on its way there. -/
def FaceRecord.reachesClosed (r : FaceRecord) : Bool :=
  match r.state with
  | .steady => r.shown == .closed
  | .changing => r.change.any fun c => c.dst == .closed
  | .returning => true

/-- What CLOSED waits for on a face that does not reach it, R107. -/
def FaceRecord.closedReason (r : FaceRecord) : Reason :=
  if r.state ≠ .steady then .inChange else if r.latch ≠ .none ∨ r.shown = .dark then .fault else .upstream

/-- A pending target beside which CLOSED comes to wait for a reason: one of CLOSED keeps its age and its reason, R8. -/
def FaceRecord.pendClosed (r : FaceRecord) (why : Reason) : PendingTarget :=
  match r.pending with
  | none => ⟨.closed, .possession, 0, why⟩
  | some p => if p.aspect = .closed then ⟨.closed, .possession, p.age, p.reason⟩ else ⟨.closed, .possession, 0, why⟩

/-- The record of a face that takes CLOSED for a possession in SERVICE or HELD. -/
def FaceRecord.takeClosed (r : FaceRecord) : FaceRecord :=
  { r with
    target := ⟨.closed, .possession⟩
    pending := if r.reachesClosed then none else some (r.pendClosed r.closedReason) }

theorem FaceRecord.takeClosed_pending (r : FaceRecord) : r.takeClosed.pending =
    if r.reachesClosed = true then none
    else match r.pending with
      | none => some ⟨.closed, .possession, 0, r.closedReason⟩
      | some p =>
        if p.aspect = .closed then some ⟨.closed, .possession, p.age, p.reason⟩
        else some ⟨.closed, .possession, 0, r.closedReason⟩ := by
  unfold FaceRecord.takeClosed FaceRecord.pendClosed
  dsimp only
  congr 1
  split
  · rfl
  · exact apply_ite some _ _ _

theorem FaceRecord.takeClosed_reached {r : FaceRecord} (h : r.reachesClosed = true) :
    r.takeClosed = { r with target := ⟨.closed, .possession⟩, pending := none } := by
  simp [FaceRecord.takeClosed, h]

/-- Beside no other pending target CLOSED waits from age 0. -/
theorem FaceRecord.takeClosed_fresh {r : FaceRecord} (h : r.reachesClosed = false) (hp : r.pending = none) :
    r.takeClosed = { r with
      target := ⟨.closed, .possession⟩, pending := some ⟨.closed, .possession, 0, r.closedReason⟩ } := by
  simp [FaceRecord.takeClosed, FaceRecord.pendClosed, h, hp]

/-- A pending target that CLOSED replaces or removes by R8's count: on a STEADY CLOSED face none is counted. -/
def FaceRecord.dropsPending (r : FaceRecord) : Bool :=
  r.pending.any fun p =>
    match r.state with
    | .steady => !(r.shown == .closed) && p.aspect != .closed
    | .changing => (r.change.any fun c => c.dst == .closed) || p.aspect != .closed
    | .returning => true

theorem FaceRecord.dropsPending_none {r : FaceRecord} (h : r.pending = none) : r.dropsPending = false := by
  simp [FaceRecord.dropsPending, h]

theorem FaceRecord.reachesClosed_steady {r : FaceRecord} (h : r.state = .steady) :
    r.reachesClosed = (r.shown == .closed) := by simp [FaceRecord.reachesClosed, h]

theorem FaceRecord.dropsPending_closed {r : FaceRecord} (hs : r.state = .steady) (hc : r.shown = .closed) :
    r.dropsPending = false := by
  simp [FaceRecord.dropsPending, hs, hc]

/-- The superseded counter grows where a pending target is counted. -/
def State.countIf (s : State) (b : Bool) : State := if b then s.countSuperseded else s

@[simp] theorem State.countIf_phase (s : State) (b : Bool) : (s.countIf b).phase = s.phase := by cases b <;> rfl
@[simp] theorem State.countIf_node (s : State) (b : Bool) : (s.countIf b).node = s.node := by cases b <;> rfl
@[simp] theorem State.countIf_poss (s : State) (b : Bool) : (s.countIf b).poss = s.poss := by cases b <;> rfl
@[simp] theorem State.countIf_elem (s : State) (b : Bool) : (s.countIf b).elem = s.elem := by cases b <;> rfl
@[simp] theorem State.countIf_faces (s : State) (b : Bool) : (s.countIf b).faces = s.faces := by cases b <;> rfl
@[simp] theorem State.countIf_face (s : State) (b : Bool) (f : Face) : (s.countIf b).face f = s.face f :=
  State.face_of_faces (by simp) f
@[simp] theorem State.countIf_latches (s : State) (b : Bool) : (s.countIf b).fault.latches = s.fault.latches := by
  cases b <;> rfl
@[simp] theorem State.countIf_masks (s : State) (b : Bool) : (s.countIf b).fault.masks = s.fault.masks := by
  cases b <;> rfl

/-- The counter saturates, R8. -/
theorem satInc_toNat (c : BitVec 16) : (satInc c).toNat = min 65535 (c.toNat + 1) := by
  have hc := c.isLt
  unfold satInc
  split
  · next h => rw [h]; rfl
  · next h =>
    have hne : c.toNat ≠ 65535 := fun he => h (BitVec.eq_of_toNat_eq he)
    rw [BitVec.toNat_add]
    show (c.toNat + 1) % 65536 = _
    omega

theorem State.countIf_superseded (s : State) (b : Bool) :
    (s.countIf b).fault.superseded.toNat = min 65535 (s.fault.superseded.toNat + b.toNat) := by
  have hc := s.fault.superseded.isLt
  cases b
  · show s.fault.superseded.toNat = min 65535 (s.fault.superseded.toNat + 0)
    omega
  · exact satInc_toNat _

section
variable (s : State) (f : Face)

/-- CLOSED comes to wait, R8. -/
theorem State.pend_closed (why : Reason) :
    (s.setFace f { s.face f with target := ⟨.closed, .possession⟩ }).pend f ⟨.closed, .possession⟩ why true =
      (s.setFace f { s.face f with
        target := ⟨.closed, .possession⟩, pending := some ((s.face f).pendClosed why) }).countIf
          ((s.face f).pending.any fun p => p.aspect != .closed) := by
  cases hp : (s.face f).pending with
  | none => rw [State.pend_fresh _ _ _ hp]; simp [FaceRecord.pendClosed, hp, State.countIf]
  | some p =>
    by_cases ha : p.aspect = .closed
    · rw [State.pend_same _ _ _ hp ha]
      simp [FaceRecord.pendClosed, hp, ha, State.countIf]
    · rw [State.pend_other _ _ _ hp ha]
      simp [FaceRecord.pendClosed, hp, ha, State.countIf]

/-- The change or the return in progress goes to CLOSED, R8. -/
theorem State.supersede_closed :
    (s.setFace f { s.face f with target := ⟨.closed, .possession⟩ }).supersede f =
      (s.setFace f { s.face f with target := ⟨.closed, .possession⟩, pending := none }).countIf
        (s.face f).pending.isSome := by
  cases hp : (s.face f).pending with
  | none => rw [State.supersede_none _ hp]; simp [State.countIf, ← hp]
  | some p => rw [State.supersede_some _ hp]; rfl

/-- A possession's CLOSED on a face in SERVICE or HELD, by the state of the face, R143. -/
theorem State.takeTarget_possession : s.takeTarget f ⟨.closed, .possession⟩ .notNow =
    (s.setFace f (s.face f).takeClosed).countIf (s.face f).dropsPending := by
  cases hs : (s.face f).state with
  | steady =>
    have hpend : (s.face f).shown ≠ .closed →
        (s.setFace f { s.face f with target := ⟨.closed, .possession⟩ }).pend f ⟨.closed, .possession⟩
          (s.face f).closedReason true = (s.setFace f (s.face f).takeClosed).countIf (s.face f).dropsPending :=
      fun hc => by
        have hb : ((s.face f).shown == .closed) = false := by simpa using hc
        rw [State.pend_closed]
        simp [FaceRecord.takeClosed, FaceRecord.dropsPending, FaceRecord.reachesClosed, hs, hb]
    by_cases hc : (s.face f).shown = .closed
    · rw [State.takeTarget_shown hs hc.symm]
      simp [FaceRecord.takeClosed, FaceRecord.reachesClosed, FaceRecord.dropsPending, hs, hc, State.countIf]
    · rw [← hpend hc]
      by_cases hl : (s.face f).latch ≠ .none ∨ (s.face f).shown = .dark
      · rw [State.takeTarget_held hs (Ne.symm hc) hl]
        simp [FaceRecord.closedReason, hs, hl]
      · obtain ⟨hlatch, hdark⟩ := not_or.mp hl
        have hwait : waitReason (s.face f).shown .closed = .upstream := by
          cases ha : (s.face f).shown with
          | closed => exact absurd ha hc
          | dark => exact absurd ha hdark
          | opened | mergeL | mergeR => rfl
        rw [State.takeTarget_notNow hs (Ne.symm hc) (not_not.mp hlatch) hdark, hwait]
        simp [FaceRecord.closedReason, hs, hl]
  | changing =>
    have hto : (s.face f).changingTo .closed = (s.face f).change.any fun c => c.dst == .closed := by
      cases hc : (s.face f).change <;> simp [FaceRecord.changingTo, hs, hc]
    rw [State.takeTarget_in_change hs, State.supersede_closed, State.pend_closed, hto]
    split
    · next hc =>
      simp [FaceRecord.takeClosed, FaceRecord.reachesClosed, FaceRecord.dropsPending, hs, hc]
    · next hc =>
      simp [FaceRecord.takeClosed, FaceRecord.reachesClosed, FaceRecord.dropsPending, FaceRecord.closedReason, hs, hc]
  | returning =>
    rw [State.takeTarget_returned hs rfl, State.supersede_closed]
    simp [FaceRecord.takeClosed, FaceRecord.reachesClosed, FaceRecord.dropsPending, hs]

/-! ### A face newly covered -/

/-- SERVICE and HELD are the states whose timer runs, R154. -/
theorem NodeState.timed_iff (x : NodeState) : x.timed = true ↔ x = .service ∨ x = .held := by
  cases x <;> decide

theorem NodeState.timed_eq (x : NodeState) : (x == .service || x == .held) = x.timed := by cases x <;> rfl

/-- The record of a face that a lock newly covers, R143. -/
def State.coverRecord : FaceRecord :=
  if s.node.state.timed then (s.face f).takeClosed else { s.face f with target := ⟨.closed, .possession⟩ }

theorem State.coverRecord_timed {s : State} (h : s.node.state = .service ∨ s.node.state = .held) (f : Face) :
    s.coverRecord f = (s.face f).takeClosed := if_pos ((NodeState.timed_iff _).mpr h)

theorem State.coverRecord_untimed {s : State} (hs : s.node.state ≠ .service) (hh : s.node.state ≠ .held) (f : Face) :
    s.coverRecord f = { s.face f with target := ⟨.closed, .possession⟩ } :=
  if_neg fun ht => ((NodeState.timed_iff _).mp ht).elim hs hh

theorem State.coverFace_eq : s.coverFace f =
    (s.setFace f (s.coverRecord f)).countIf (s.node.state.timed && (s.face f).dropsPending) := by
  unfold State.coverFace State.coverRecord
  cases s.node.state with
  | service | held => exact s.takeTarget_possession f
  | unnumbered | numbered | standby | failsafe | maintenance => rfl

end

theorem State.coverRecord_target (s : State) (f : Face) : (s.coverRecord f).target = ⟨.closed, .possession⟩ := by
  unfold State.coverRecord
  split <;> rfl

/-- A lock with these faces newly covers the face, R143. -/
def State.newlyCovers (s : State) (fs : LockFaces) (f : Face) : Bool := fs.covers f && !s.covered f

/-- The record of a face once a lock has joined the table. -/
def State.lockRecord (s : State) (fs : LockFaces) (f : Face) : FaceRecord :=
  if s.newlyCovers fs f then s.coverRecord f else s.face f

/-- A lock changes the target and the pending target of a face alone, and starts no change. -/
theorem State.lockRecord_frame (s : State) (fs : LockFaces) (f : Face) :
    ∃ t p, s.lockRecord fs f = { s.face f with target := t, pending := p } := by
  unfold State.lockRecord State.coverRecord FaceRecord.takeClosed
  (repeat' split)
  all_goals exact ⟨_, _, rfl⟩

theorem State.lockRecord_kept {s : State} {fs : LockFaces} {f : Face} (h : fs.covers f = false ∨ s.covered f = true) :
    s.lockRecord fs f = s.face f := by
  rcases h with h | h <;> simp [State.lockRecord, State.newlyCovers, h]

theorem State.lockRecord_newly {s : State} {fs : LockFaces} {f : Face} (hf : fs.covers f = true)
    (hc : s.covered f = false) : s.lockRecord fs f = s.coverRecord f := by
  simp [State.lockRecord, State.newlyCovers, hf, hc]

/-- A pending target of the face is counted as superseded when a lock joins the table. -/
def State.lockDrops (s : State) (fs : LockFaces) (f : Face) : Bool :=
  s.newlyCovers fs f && s.node.state.timed && (s.face f).dropsPending

/-- The node with a lock at the end of its table, the table marked dirty, R139. -/
def State.lockJoined (s : State) (id : Nat) (fs : LockFaces) : State :=
  s.setPoss { seq := .cleared, locks := s.poss.locks ++ [⟨id, fs, false, false⟩], dirty := true }

theorem State.lockJoined_covered (s : State) (id : Nat) (fs : LockFaces) (f : Face) :
    (s.lockJoined id fs).covered f = (s.covered f || fs.covers f) := by
  simp [State.covered, State.lockJoined]

/-- The node as a new lock leaves it before the node's tests and the table's write. -/
def State.lockTaken (s : State) (id : Nat) (fs : LockFaces) : State :=
  ((s.lockJoined id fs).coverNew .e (s.covered .e)).coverNew .w (s.covered .w)

theorem State.applyLock_eq (s : State) (id : Nat) (fs : LockFaces) :
    s.applyLock id fs = (s.lockTaken id fs).nodeTests.lockWriteBegin := rfl

/-- The lock's work on one face. -/
theorem State.coverNew_eq (s : State) (f : Face) (before : Bool) : s.coverNew f before =
    (s.setFace f (if s.covered f && !before then s.coverRecord f else s.face f)).countIf
      (s.covered f && !before && s.node.state.timed && (s.face f).dropsPending) := by
  unfold State.coverNew
  rw [State.coverFace_eq]
  cases s.covered f && !before
  · simp [State.countIf]
  · simp

/-- A face that another lock covers already is not dealt with again, R143. -/
theorem State.coverNew_covered (s : State) (f : Face) : s.coverNew f true = s := by
  simp [State.coverNew]

/-- A covered face in SERVICE or HELD takes CLOSED with no gate applied, R143. -/
theorem State.coverNew_taken {s : State} {f : Face} (hc : s.covered f = true)
    (hn : s.node.state = .service ∨ s.node.state = .held) (hd : (s.face f).dropsPending = false) :
    s.coverNew f false = s.setFace f (s.face f).takeClosed := by
  rw [State.coverNew_eq, State.coverRecord_timed hn]
  simp [hc, hd, State.countIf]

/-- The lock's work on both faces: each takes its record, and what is dropped is counted. -/
theorem State.lockTaken_eq (s : State) (id : Nat) (fs : LockFaces) : s.lockTaken id fs =
    (((((s.lockJoined id fs).setFace .e (s.lockRecord fs .e)).countIf (s.lockDrops fs .e)).setFace .w
      (s.lockRecord fs .w)).countIf (s.lockDrops fs .w)) := by
  have hnew (f : Face) : ((s.lockJoined id fs).covered f && !s.covered f) = s.newlyCovers fs f := by
    rw [State.lockJoined_covered, State.newlyCovers]
    cases s.covered f <;> simp
  have hcov (u : State) (b : Bool) (r : FaceRecord) :
      ((u.setFace .e r).countIf b).covered .w = u.covered .w := by simp [State.covered]
  have hrec (u : State) (b : Bool) (r : FaceRecord) :
      ((u.setFace .e r).countIf b).coverRecord .w = u.coverRecord .w := by
    have hw : (u.setFace .e r).face .w = u.face .w := u.setFace_face_other .e r
    simp [State.coverRecord, hw]
  have hw (u : State) (b : Bool) (r : FaceRecord) : ((u.setFace .e r).countIf b).face .w = u.face .w := by
    rw [State.countIf_face]
    exact u.setFace_face_other .e r
  rw [State.lockTaken, State.coverNew_eq, State.coverNew_eq, hcov, hrec, hw, hnew, hnew]
  simp only [State.countIf_node, State.setFace_node]
  rfl

theorem State.lockTaken_face (s : State) (id : Nat) (fs : LockFaces) (f : Face) :
    (s.lockTaken id fs).face f = s.lockRecord fs f := by
  rw [State.lockTaken_eq]
  cases f
  · rw [State.countIf_face]
    refine (State.setFace_face_other _ .w _).trans ?_
    show State.face _ .e = _
    rw [State.countIf_face, State.setFace_face]
  · rw [State.countIf_face, State.setFace_face]

theorem State.lockTaken_superseded (s : State) (id : Nat) (fs : LockFaces) :
    (s.lockTaken id fs).fault.superseded.toNat =
      min 65535 (s.fault.superseded.toNat + (s.lockDrops fs .e).toNat + (s.lockDrops fs .w).toNat) := by
  rw [State.lockTaken_eq, State.countIf_superseded, State.setFace_fault, State.countIf_superseded, State.setFace_fault]
  show min 65535 (min 65535 (s.fault.superseded.toNat + _) + _) = _
  omega

theorem State.lockTaken_node (s : State) (id : Nat) (fs : LockFaces) : (s.lockTaken id fs).node = s.node := by
  simp [State.lockTaken, State.lockJoined]
theorem State.lockTaken_poss (s : State) (id : Nat) (fs : LockFaces) :
    (s.lockTaken id fs).poss = ⟨.cleared, s.poss.locks ++ [⟨id, fs, false, false⟩], true⟩ := by
  simp [State.lockTaken, State.lockJoined]
theorem State.lockTaken_elem (s : State) (id : Nat) (fs : LockFaces) : (s.lockTaken id fs).elem = s.elem := by
  simp [State.lockTaken_eq, State.lockJoined]
theorem State.lockTaken_latches (s : State) (id : Nat) (fs : LockFaces) :
    (s.lockTaken id fs).fault.latches = s.fault.latches := by simp [State.lockTaken_eq, State.lockJoined]
theorem State.lockTaken_masks (s : State) (id : Nat) (fs : LockFaces) :
    (s.lockTaken id fs).fault.masks = s.fault.masks := by simp [State.lockTaken_eq, State.lockJoined]
theorem State.lockTaken_sup (s : State) (id : Nat) (fs : LockFaces) : (s.lockTaken id fs).sup = s.sup := by
  simp [State.lockTaken, State.lockJoined]
theorem State.lockTaken_store (s : State) (id : Nat) (fs : LockFaces) : (s.lockTaken id fs).store = s.store := by
  simp [State.lockTaken, State.lockJoined]

/-! ### The lock in the table -/

/-- The node's tests write the merge-lost latch of a face's record alone, R117. -/
theorem State.nodeTests_face (s : State) (f : Face) :
    ∃ m, (s.nodeTests).face f = { s.face f with mergeLost := m } := by
  have hstandby : ∃ m, s.enterStandby.face f = { s.face f with mergeLost := m } :=
    ⟨none, by rw [State.enterStandby_eq]; cases f <;> rfl⟩
  unfold State.nodeTests
  split
  · exact hstandby
  · split
    · exact hstandby
    · exact ⟨_, rfl⟩

theorem State.applyLock_face (s : State) (id : Nat) (fs : LockFaces) (f : Face) :
    ∃ m, (s.applyLock id fs).face f = { s.lockRecord fs f with mergeLost := m } := by
  obtain ⟨m, hm⟩ := (s.lockTaken id fs).nodeTests_face f
  refine ⟨m, ?_⟩
  rw [State.applyLock_eq, State.face_of_faces (State.lockWriteBegin_faces _), hm, State.lockTaken_face]

theorem State.applyLock_superseded (s : State) (id : Nat) (fs : LockFaces) :
    (s.applyLock id fs).fault.superseded.toNat =
      min 65535 (s.fault.superseded.toNat + (s.lockDrops fs .e).toNat + (s.lockDrops fs .w).toNat) := by
  rw [State.applyLock_eq, State.lockWriteBegin_fault, State.nodeTests_fault, State.lockTaken_superseded]

/-- The table and the writer once the lock has joined, R146. -/
theorem State.applyLock_table (s : State) (id : Nat) (fs : LockFaces) :
    (s.applyLock id fs).poss.seq = ⟨.none, none, none, none, none, []⟩ ∧
    (s.applyLock id fs).poss.locks.map (fun l => (l.id, l.faces, l.durable)) =
      s.poss.locks.map (fun l => (l.id, l.faces, l.durable)) ++ [(id, fs, false)] ∧
    (s.applyLock id fs).poss.dirty = (s.store.writer != .idle) ∧
    (s.applyLock id fs).store =
      if s.store.writer = .idle then { s.store with
        writer := .lockWriting ((s.applyLock id fs).poss.locks.map fun l => ⟨l.id, l.faces⟩)
        lockImage := ⟨.writing, none, false, false⟩ }
      else s.store := by
  have hposs : (s.lockTaken id fs).nodeTests.poss = ⟨.cleared, s.poss.locks ++ [⟨id, fs, false, false⟩], true⟩ := by
    rw [State.nodeTests_poss, State.lockTaken_poss]
  have hstore : (s.lockTaken id fs).nodeTests.store = s.store := by
    rw [State.nodeTests_store, State.lockTaken_store]
  rw [State.applyLock_eq]
  by_cases hw : s.store.writer = .idle
  · rw [State.lockWriteBegin_idle (by rw [hposs]) (by rw [hstore, hw])]
    simp [State.lockTaken_poss, State.lockTaken_store, hw, SeqRecord.cleared]
  · rw [State.lockWriteBegin_busy (by rwa [hstore])]
    simp [State.lockTaken_poss, State.lockTaken_store, hw, SeqRecord.cleared]

/-- The lock leaves the latches, the masks and the channels. -/
theorem State.applyLock_frame (s : State) (id : Nat) (fs : LockFaces) :
    (s.applyLock id fs).elem = s.elem ∧ (s.applyLock id fs).fault.latches = s.fault.latches ∧
      (s.applyLock id fs).fault.masks = s.fault.masks := by
  rw [State.applyLock_eq, State.lockWriteBegin_elem, State.lockWriteBegin_fault, State.nodeTests_elem,
    State.nodeTests_fault]
  exact ⟨s.lockTaken_elem id fs, s.lockTaken_latches id fs, s.lockTaken_masks id fs⟩

/-- On a node that is neither leaving nor ending maintenance no test follows, R75, R77. -/
theorem State.applyLock_node {s : State} (hl : s.node.leaving = false) (he : s.node.ending = false) (id : Nat)
    (fs : LockFaces) : (s.applyLock id fs).node = s.node ∧ (s.applyLock id fs).sup = s.sup := by
  have hkeep : (s.lockTaken id fs).nodeTests = s.lockTaken id fs :=
    State.nodeTests_keep (by simp [State.lockTaken_node, hl]) (by simp [State.lockTaken_node, he])
  rw [State.applyLock_eq, State.lockWriteBegin_node, State.lockWriteBegin_sup, hkeep]
  exact ⟨s.lockTaken_node id fs, s.lockTaken_sup id fs⟩

/-! ### POSS_APPLY -/

section
variable {s : State} {args : List Word} {w : Word} (ha : argWord args 0 = w)
include ha

theorem possApply_refused (h : w.toNat = 0 ∨ 15 < w.toNat) : possApply s args = (s, .refused .argument []) := by
  simp [possApply, ha, lockIdOk_eq_false h]

variable (hlow : 1 ≤ w.toNat) (hhigh : w.toNat ≤ 15) (hs : s.poss.seq.state = .rangeSet)
include hlow hhigh hs

theorem possApply_aside (hc : s.possConcerned = false) : possApply s args = (s.setSeq .cleared, .notConcerned) := by
  simp [possApply, ha, (lockIdOk_iff _).mpr ⟨hlow, hhigh⟩, hs, hc]

variable (hc : s.possConcerned = true)
include hc

theorem possApply_held (hl : ∃ l ∈ s.poss.locks, l.id = w.toNat) :
    possApply s args = (s.setSeq .cleared, .refused .lockId []) := by
  simp [possApply, ha, (lockIdOk_iff _).mpr ⟨hlow, hhigh⟩, hs, hc, (PossBlock.holds_iff _ _).mpr hl]

variable (hl : ∀ l ∈ s.poss.locks, l.id ≠ w.toNat)
include hl

theorem possApply_full (hlen : 4 ≤ s.poss.locks.length) :
    possApply s args = (s.setSeq .cleared, .refused .lockFull []) := by
  simp [possApply, lockLimit, ha, (lockIdOk_iff _).mpr ⟨hlow, hhigh⟩, hs, hc, (PossBlock.holds_eq_false_iff _ _).mpr hl,
    hlen]

theorem possApply_done (hlen : s.poss.locks.length < 4) :
    possApply s args = (s.applyLock w.toNat (s.poss.seq.faces.getD .both), .done []) := by
  simp [possApply, lockLimit, ha, (lockIdOk_iff _).mpr ⟨hlow, hhigh⟩, hs, hc, (PossBlock.holds_eq_false_iff _ _).mpr hl,
    Nat.not_le.mpr hlen]

end

/-- POSS_APPLY where the lock joins the table, R139. -/
theorem exec_possApply_done {s : State} {x : CommandPayload} (h : s.executes .possApply x = true)
    (hlow : 1 ≤ x.arg.toNat) (hhigh : x.arg.toNat ≤ 15) (hs : s.poss.seq.state = .rangeSet)
    (hc : s.possConcerned = true) (hl : ∀ l ∈ s.poss.locks, l.id ≠ x.arg.toNat) (hlen : s.poss.locks.length < 4) :
    exec (.possApply x) s = .next
      (((s.received .a).applyLock x.arg.toNat (s.poss.seq.faces.getD .both)).sendReply .possApply x (.done [])) :=
  exec_possession rfl h rfl
    (possApply_done (s := s.received .a) (argWord_argsOf x (by decide)) hlow hhigh hs hc hl hlen) (by simp)

/-- Settles O34: the outcomes by the checks of R137 and R139; the face's record and the count by what a lock newly covers; the
cover of one face by the node state and the face. -/
theorem possApplyAppendsALock : Obligations.PossApplyAppendsALock := by
  unfold Obligations.PossApplyAppendsALock
  refine ⟨fun s t x h ht => ?outcomes, fun s t x f why reached drop h hlow hhigh hs hc hl hlen hdrop hreached hwhy ht =>
    ?faces, fun s f => ⟨fun hserv hheld => ?aside, fun hn hcov => ⟨fun hsc => ?closed, fun hst hp hlat hpend => ?opened,
      fun hd hpend => ?dark⟩, State.coverNew_covered s f⟩⟩
  case outcomes =>
    have ha : argWord (Cmd.possApply.argsOf x.body) 0 = x.arg := argWord_argsOf x (by decide)
    refine ⟨fun hbad => exec_possession rfl h rfl (possApply_refused ha hbad) rfl, fun hlow hhigh hs =>
      ⟨fun hc => ?_, fun hc hl => exec_possession rfl h rfl
          (possApply_held (s := s.received .a) ha hlow hhigh hs hc hl) rfl,
        fun hc hl hlen => exec_possession rfl h rfl
          (possApply_full (s := s.received .a) ha hlow hhigh hs hc hl hlen) rfl,
        fun hc hl hlen => ?_⟩⟩
    · have haside := exec_possession (i := .possApply x) rfl h rfl
        (possApply_aside (s := s.received .a) ha hlow hhigh hs hc) rfl
      rw [State.sendReply_notConcerned] at haside
      exact haside
    · subst ht
      obtain ⟨hseq, hlocks, hdirty, hstore⟩ :=
        (s.received .a).applyLock_table x.arg.toNat (s.poss.seq.faces.getD .both)
      obtain ⟨helem, hlatches, hmasks⟩ :=
        (s.received .a).applyLock_frame x.arg.toNat (s.poss.seq.faces.getD .both)
      exact ⟨exec_possApply_done h hlow hhigh hs hc hl hlen, hseq, hlocks, hdirty, hstore, by simp, by simp, helem,
        by simp, by simp, hlatches, hmasks, fun hleave hend => State.applyLock_node (s := s.received .a) hleave hend _ _⟩
  case faces =>
    have hd (g : Face) : drop g = (s.received .a).lockDrops (s.poss.seq.faces.getD .both) g := by
      rw [hdrop g, NodeState.timed_eq]
      rfl
    obtain ⟨m, hface⟩ := (s.received .a).applyLock_face x.arg.toNat (s.poss.seq.faces.getD .both) f
    obtain ⟨q, p, hframe⟩ := (s.received .a).lockRecord_frame (s.poss.seq.faces.getD .both) f
    rw [← ht] at hface
    have hsuper := (s.received .a).applyLock_superseded x.arg.toNat (s.poss.seq.faces.getD .both)
    rw [← ht, ← hd, ← hd] at hsuper
    refine ⟨ht ▸ exec_possApply_done h hlow hhigh hs hc hl hlen, fun hout => ?_, fun hf hnc => ?_, hsuper,
      by rw [hface, hframe]; rfl, by rw [hface, hframe]; rfl, by rw [hface, hframe]; rfl, by rw [hface, hframe]; rfl,
      by rw [hface, hframe]; rfl, by rw [hface, hframe]; rfl, by rw [hface, hframe]; rfl⟩
    · rw [hface, State.lockRecord_kept (s := s.received .a) hout]
      exact ⟨rfl, rfl⟩
    · rw [hface, State.lockRecord_newly (s := s.received .a) hf hnc]
      refine ⟨(s.received .a).coverRecord_target f, fun hserv hheld => ?_, fun hn => ?_⟩
      · rw [State.coverRecord_untimed (s := s.received .a) hserv hheld]
        rfl
      · rw [State.coverRecord_timed (s := s.received .a) hn, hreached, hwhy]
        exact (s.face f).takeClosed_pending
  case aside =>
    rw [State.coverNew_eq, State.coverRecord_untimed hserv hheld]
    have ht : s.node.state.timed = false := by
      rw [← Bool.not_eq_true, NodeState.timed_iff, not_or]
      exact ⟨hserv, hheld⟩
    cases hc : s.covered f <;> simp [ht, State.countIf]
  case closed =>
    obtain ⟨hst, hclosed⟩ : (s.face f).state = .steady ∧ (s.face f).shown = .closed := by
      simpa [FaceRecord.steadyClosed] using hsc
    rw [State.coverNew_taken hcov hn (FaceRecord.dropsPending_closed hst hclosed),
      FaceRecord.takeClosed_reached (by rw [FaceRecord.reachesClosed_steady hst, hclosed]; rfl)]
  case opened =>
    have hshown : (s.face f).shown ≠ .closed ∧ (s.face f).shown ≠ .dark := by
      constructor <;> intro hshown <;> rw [hshown] at hp <;> cases hp
    rw [State.coverNew_taken hcov hn (FaceRecord.dropsPending_none hpend),
      FaceRecord.takeClosed_fresh (by simpa [FaceRecord.reachesClosed_steady hst] using hshown.1) hpend]
    simp [FaceRecord.closedReason, hst, hlat, hshown.2]
  case dark =>
    obtain ⟨hst, hdark⟩ := (FaceRecord.steadyDark_iff _).mp hd
    rw [State.coverNew_taken hcov hn (FaceRecord.dropsPending_none hpend),
      FaceRecord.takeClosed_fresh (by simp [FaceRecord.reachesClosed_steady hst, hdark]) hpend]
    simp [FaceRecord.closedReason, hst, hdark]

end Sys2Proof.Machine
end

section
/-! SUPPORT. The cover of the lock table (R114, R142): a face's pending target is found in SERVICE and HELD alone, and a covered
face has no target below CLOSED. What the face controller and the element block do keeps both: most of it gives a face no
target, and a target that a covered face takes is CLOSED. -/

namespace Sys2Proof.Machine

/-! ### A face's aim -/

/-- A face record changed by work that gives the face no target: the current target stays, and a pending one keeps its aspect. -/
structure FaceRecord.KeepsAim (r q : FaceRecord) : Prop where
  target  : q.target = r.target
  pending : ∀ p, q.pending = some p → ∃ o, r.pending = some o ∧ p.aspect = o.aspect

theorem FaceRecord.aimsClosed_iff (r : FaceRecord) : r.aimsClosed = true ↔
    r.target.aspect.permissive = false ∧ ∀ p, r.pending = some p → p.aspect.permissive = false := by
  cases hp : r.pending <;> simp [FaceRecord.aimsClosed, hp]

namespace FaceRecord.KeepsAim

variable {r q : FaceRecord}

theorem of_eq (ht : q.target = r.target) (hp : q.pending = r.pending) : r.KeepsAim q :=
  ⟨ht, fun p h => ⟨p, hp ▸ h, rfl⟩⟩

/-- Each pending target is changed into one of its aspect. -/
theorem of_map {g : PendingTarget → PendingTarget} (ht : q.target = r.target) (hp : q.pending = r.pending.map g)
    (hg : ∀ p, (g p).aspect = p.aspect) : r.KeepsAim q :=
  ⟨ht, fun p h => by
    obtain ⟨o, ho, rfl⟩ := Option.map_eq_some_iff.mp (hp ▸ h)
    exact ⟨o, ho, hg o⟩⟩

theorem aimsClosed (h : r.KeepsAim q) (hr : r.aimsClosed = true) : q.aimsClosed = true := by
  rw [FaceRecord.aimsClosed_iff] at hr ⊢
  refine ⟨by rw [h.target]; exact hr.1, fun p hp => ?_⟩
  obtain ⟨o, ho, ha⟩ := h.pending p hp
  rw [ha]
  exact hr.2 o ho

theorem unpending (h : r.KeepsAim q) (hr : r.pending = none) : q.pending = none := by
  cases hq : q.pending with
  | none => rfl
  | some p =>
    obtain ⟨o, ho, -⟩ := h.pending p hq
    rw [hr] at ho
    cases ho

theorem settleOn (r : FaceRecord) (a : Aspect) : r.KeepsAim (r.settleOn a) :=
  ⟨rfl, fun p hp => by
    cases ho : r.pending with
    | none => simp [FaceRecord.settleOn, ho] at hp
    | some o =>
      simp only [FaceRecord.settleOn, ho] at hp
      split at hp
      · cases hp
      · cases hp; exact ⟨o, rfl, rfl⟩⟩

theorem returnClosed (r : FaceRecord) : r.KeepsAim r.returnClosed := by
  unfold FaceRecord.returnClosed
  split
  · exact of_eq rfl rfl
  · exact of_map rfl rfl fun _ => rfl

theorem returnDark (r : FaceRecord) : r.KeepsAim r.returnDark := of_map rfl rfl fun _ => rfl

theorem toReturning (r : FaceRecord) (floor : Nat) : r.KeepsAim (r.toReturning floor) := of_map rfl rfl fun _ => rfl

theorem darken (r : FaceRecord) : r.KeepsAim r.darken := of_map rfl rfl fun _ => rfl

theorem ageOne (r : FaceRecord) : r.KeepsAim r.ageOne := of_map rfl rfl fun _ => rfl

theorem latchElement (r : FaceRecord) : r.KeepsAim r.latchElement := by
  unfold FaceRecord.latchElement
  split <;> exact of_eq rfl rfl

end FaceRecord.KeepsAim

/-! ### The law -/

/-- R114 and R142: outside SERVICE and HELD nothing is pending, and a covered face has no target below CLOSED. -/
structure State.CoverHeld (s : State) : Prop where
  waiting : s.node.state.timed = false → ∀ f, (s.face f).pending = none
  covered : ∀ f, s.covered f = true → (s.face f).aimsClosed = true

theorem State.coverHeld_iff (s : State) : s.CoverHeld ↔ s.pendingOk = true ∧ s.coverOk = true := by
  have hp : s.pendingOk = true ↔ (s.node.state.timed = false → ∀ f, (s.face f).pending = none) := by
    have hn : (∀ f, (s.face f).pending = none) ↔ s.nothingPending = true := by
      rw [State.nothingPending_iff]
      exact ⟨fun h => ⟨h .e, h .w⟩, fun h f => by cases f; exacts [h.1, h.2]⟩
    rw [hn, State.pendingOk, NodeState.timed_eq]
    cases s.node.state.timed <;> simp
  have hc : s.coverOk = true ↔ ∀ f, s.covered f = true → (s.face f).aimsClosed = true := by
    simp only [State.coverOk, Bool.and_eq_true, Bool.or_eq_true, Bool.not_eq_true', ← Bool.not_eq_true, ← imp_iff_not_or]
    exact ⟨fun h f => by cases f; exacts [h.1, h.2], fun h => ⟨h .e, h .w⟩⟩
  rw [hp, hc]
  exact ⟨fun h => ⟨h.waiting, h.covered⟩, fun h => ⟨h.1, h.2⟩⟩

theorem State.covered_of_locks {s t : State} (h : t.poss.locks = s.poss.locks) (f : Face) : t.covered f = s.covered f := by
  simp [State.covered, h]

/-- A covered face resolves to CLOSED, R104, R142. -/
theorem State.resolve_covered {s : State} {f : Face} (hc : s.covered f = true) (plan : Nat) :
    (s.resolve f plan).1.aspect = .closed := by
  cases hl : s.node.leaving <;> simp [State.resolve, hl, hc]

namespace State.CoverHeld

variable {s t : State}

/-- What uncovers no face and takes no node out of SERVICE and HELD, and leaves the face records. -/
theorem of_faces (h : s.CoverHeld) (hf : t.faces = s.faces)
    (hn : t.node.state.timed = false → s.node.state.timed = false) (hc : ∀ f, t.covered f = true → s.covered f = true) :
    t.CoverHeld where
  waiting ht f := by rw [State.face_of_faces hf]; exact h.waiting (hn ht) f
  covered f ht := by rw [State.face_of_faces hf]; exact h.covered f (hc f ht)

/-- What leaves the face records, the node state and the lock table. -/
theorem of_frame (h : s.CoverHeld)
    (ht : t.faces = s.faces ∧ t.node.state = s.node.state ∧ t.poss.locks = s.poss.locks) : t.CoverHeld := by
  obtain ⟨hf, hn, hp⟩ := ht
  exact h.of_faces hf (by rw [hn]; exact id) fun f => by rw [State.covered_of_locks hp]; exact id

/-- A face takes a record whose targets keep to the law. -/
theorem setRecord (h : s.CoverHeld) {f : Face} {r : FaceRecord} (hw : s.node.state.timed = false → r.pending = none)
    (hc : s.covered f = true → r.aimsClosed = true) : (s.setFace f r).CoverHeld where
  waiting ht g := by
    rw [State.setFace_node] at ht
    by_cases hg : g = f
    · subst hg
      rw [State.setFace_face]
      exact hw ht
    · rw [eq_otherFace_of_ne hg, State.setFace_face_other]
      exact h.waiting ht _
  covered g ht := by
    rw [State.covered_of_locks (s := s) (by simp)] at ht
    by_cases hg : g = f
    · subst hg
      rw [State.setFace_face]
      exact hc ht
    · rw [eq_otherFace_of_ne hg] at ht ⊢
      rw [State.setFace_face_other]
      exact h.covered _ ht

theorem setFace (h : s.CoverHeld) {f : Face} {r : FaceRecord} (hr : (s.face f).KeepsAim r) : (s.setFace f r).CoverHeld :=
  h.setRecord (fun ht => hr.unpending (h.waiting ht f)) fun hc => hr.aimsClosed (h.covered f hc)

/-- A face takes a current target, on a covered face none below CLOSED. -/
theorem retarget (h : s.CoverHeld) {f : Face} {t : Target} (ht : s.covered f = true → t.aspect.permissive = false) :
    (s.setFace f { s.face f with target := t }).CoverHeld :=
  h.setRecord (fun hn => h.waiting hn f) fun hc => by
    obtain ⟨-, hp⟩ := (FaceRecord.aimsClosed_iff _).mp (h.covered f hc)
    exact (FaceRecord.aimsClosed_iff _).mpr ⟨ht hc, hp⟩

/-! ### Returns and faults, R16-R19 -/

theorem lampOff (h : s.CoverHeld) (f : Face) : (s.lampOff f).CoverHeld := h.of_frame (by simp)
theorem releaseDriven (h : s.CoverHeld) (f : Face) : (s.releaseDriven f).CoverHeld := h.of_frame (by simp)
theorem releaseShutter (h : s.CoverHeld) (f : Face) (k : Shutter) : (s.releaseShutter f k).CoverHeld := h.of_frame (by simp)
theorem setShutter (h : s.CoverHeld) (f : Face) (k : Shutter) (c : ShutterChannel) : (s.setShutter f k c).CoverHeld :=
  h.of_frame (by simp)
theorem setLamp (h : s.CoverHeld) (f : Face) (c : LampChannel) : (s.setLamp f c).CoverHeld := h.of_frame (by simp)
theorem reportShutter (h : s.CoverHeld) (f : Face) (k : Shutter) (x : ChannelFault) :
    (s.reportShutter f k x).CoverHeld := h.of_frame (by simp)
theorem reportLamp (h : s.CoverHeld) (f : Face) (x : ChannelFault) : (s.reportLamp f x).CoverHeld := h.of_frame (by simp)

theorem returnTest (h : s.CoverHeld) (f : Face) : (s.returnTest f).CoverHeld := by
  unfold State.returnTest State.endReturn
  split
  · split
    · exact (h.lampOff f).setFace (by rw [State.lampOff_face]; exact .returnDark _)
    · exact h.setFace (.returnClosed _)
  · exact h

theorem startReturn (h : s.CoverHeld) (f : Face) (floor : Nat) : (s.startReturn f floor).CoverHeld :=
  ((h.setFace (.toReturning _ floor)).releaseDriven f).returnTest f

theorem elementFault (h : s.CoverHeld) (f : Face) : (s.elementFault f).CoverHeld := by
  have hl := h.setFace (.latchElement (s.face f))
  unfold State.elementFault
  split
  · exact h
  · split
    · exact h
    · exact hl.startReturn f _
  · split
    · exact hl.startReturn f _
    · exact hl

theorem lampFault (h : s.CoverHeld) (f : Face) : (s.lampFault f).CoverHeld :=
  (h.setFace (.darken _)).releaseDriven f

theorem requestPull (h : s.CoverHeld) (f : Face) (k : Shutter) : (s.requestPull f k).CoverHeld := by
  unfold State.requestPull
  split
  · exact (h.reportShutter f k _).elementFault f
  · exact h.of_frame (by simp)

/-! ### The relight and the changes, R9-R15 -/

theorem relight (h : s.CoverHeld) (f : Face) : (s.relight f).CoverHeld := by
  have hp := h.setFace (f := f) (r := { (s.face f).place .closed with relightAwaited := false, testedWait := false })
    (.of_eq rfl rfl)
  unfold State.relight
  dsimp only
  split
  · exact hp.setLamp f _
  · exact hp
  · exact hp.setFace (.settleOn _ _)
  · exact (hp.reportLamp f _).lampFault f

theorem relightTest (h : s.CoverHeld) (f : Face) : (s.relightTest f).CoverHeld := by
  unfold State.relightTest
  split
  · split
    · exact h.relight f
    · exact h.setFace (.of_eq rfl rfl)
  · exact h

theorem place (h : s.CoverHeld) (f : Face) (a : Aspect) : (s.setFace f ((s.face f).place a)).CoverHeld :=
  h.setFace (.of_eq rfl rfl)

theorem awaitRelight (h : s.CoverHeld) (f : Face) : (s.awaitRelight f).CoverHeld := by
  have hwait := h.setFace (f := f) (r := { s.face f with
    relightAwaited := true, testedWait := (s.face f).testedWait || s.anyDriven f }) (.of_eq rfl rfl)
  exact (hwait.releaseDriven f).relightTest f

theorem askClose (h : s.CoverHeld) (f : Face) : (s.askClose f).CoverHeld := by
  unfold State.askClose
  split
  · exact h
  · exact h.awaitRelight f
  all_goals exact (h.place f .closed).releaseShutter f .mask

theorem endingClose (h : s.CoverHeld) (f : Face) : (s.endingClose f).CoverHeld := by
  unfold State.endingClose
  split
  · exact h.askClose f
  · exact h

theorem completeChange (h : s.CoverHeld) (f : Face) (a : Aspect) : (s.completeChange f a).CoverHeld :=
  (h.setFace (.settleOn _ a)).endingClose f

theorem darkTest (h : s.CoverHeld) (f : Face) : (s.darkTest f).CoverHeld := by
  have hs := FaceRecord.KeepsAim.settleOn (s.face f) .dark
  unfold State.darkTest
  split
  · refine ((h.lampOff f).setFace ?_).endingClose f
    rw [State.lampOff_face]
    split
    · exact ⟨hs.target, hs.pending⟩
    · exact hs
  · exact h

theorem beginChange (h : s.CoverHeld) (f : Face) (a : Aspect) : (s.beginChange f a).CoverHeld := by
  unfold State.beginChange
  split
  · exact (h.place f a).requestPull f _
  · split
    · exact ((h.place f .dark).releaseDriven f).darkTest f
    · exact h.askClose f

/-! ### Reports, R15, R17, R29-R36 -/

theorem stepTwo (h : s.CoverHeld) (f : Face) : (s.setFace f (s.face f).stepTwo).CoverHeld := h.setFace (.of_eq rfl rfl)

theorem movedStep (h : s.CoverHeld) (f : Face) (k : Shutter) : (s.movedStep f k).CoverHeld := by
  unfold State.movedStep
  (repeat' split)
  · exact (h.stepTwo f).requestPull f _
  · exact (h.stepTwo f).releaseShutter f _
  · exact h
  · exact h.completeChange f _
  all_goals exact h

theorem droppedStep (h : s.CoverHeld) (f : Face) (k : Shutter) : (s.droppedStep f k).CoverHeld := by
  unfold State.droppedStep
  (repeat' split)
  · exact h
  · exact (h.stepTwo f).releaseShutter f _
  · exact h
  · exact h.completeChange f _
  all_goals exact h

theorem litStep (h : s.CoverHeld) (f : Face) : (s.litStep f).CoverHeld := by
  unfold State.litStep
  split
  · exact h.completeChange f .closed
  · exact h

theorem channelTests (h : s.CoverHeld) (f : Face) : (s.channelTests f).CoverHeld :=
  ((h.returnTest f).darkTest f).relightTest f

/-! ### The node's states, R63, R75, R77, R151 -/

/-- A node with nothing pending enters STANDBY, R77, R78. -/
theorem enterStandby (h : s.CoverHeld) (hp : ∀ f, (s.face f).pending = none) : s.enterStandby.CoverHeld := by
  have hn : (s.setNode { s.node with state := .standby, leaving := false, ending := false }).CoverHeld :=
    ⟨fun _ => hp, h.covered⟩
  have ht : ((s.setNode { s.node with state := .standby, leaving := false, ending := false }).setSup
      { s.sup with timer := .stopped, releaseAll := false }).CoverHeld := hn.of_frame (by simp)
  have hclear {u : State} (hu : u.CoverHeld) (f : Face) : (u.clearMergeLost f).CoverHeld := hu.setFace (.of_eq rfl rfl)
  exact hclear (hclear ht .e) .w

theorem nodeTests (h : s.CoverHeld) : s.nodeTests.CoverHeld := by
  unfold State.nodeTests
  split
  · next hc =>
    have hnone : s.nothingPending = true := by simp_all
    obtain ⟨he, hw⟩ := s.nothingPending_iff.mp hnone
    exact h.enterStandby fun f => by cases f; exacts [he, hw]
  · split
    · next hc =>
      have hm : s.node.state = .maintenance := by simp_all
      exact h.enterStandby (h.waiting (by rw [hm]; rfl))
    · exact h

/-- The table of R18 discards the pending targets and leaves the current ones. -/
theorem enterFailsafe (h : s.CoverHeld) (c : Cause) : (s.enterFailsafe c).CoverHeld where
  waiting _ f := by rw [State.enterFailsafe_face]; exact State.releaseAllFace_unpending _ f
  covered f hc := by
    rw [State.covered_of_locks (s := s) (by simp)] at hc
    obtain ⟨ht, -⟩ := (FaceRecord.aimsClosed_iff _).mp (h.covered f hc)
    have hkeep := (State.KeepsTarget.releaseAllFace (f := f) (s.closing c f)).record.target
    rw [State.closing_face] at hkeep
    rw [State.enterFailsafe_face, FaceRecord.aimsClosed_iff, hkeep, State.releaseAllFace_unpending]
    exact ⟨ht, nofun⟩

theorem arise (h : s.CoverHeld) (c : Cause) : (s.arise c).CoverHeld := by
  unfold State.arise
  split
  case h_1 | h_2 | h_3 => exact h.of_frame ⟨by simp, rfl, by simp⟩
  all_goals exact h.enterFailsafe c

theorem countSuperseded (h : s.CoverHeld) : s.countSuperseded.CoverHeld := h.of_frame (by simp)

theorem latch (h : s.CoverHeld) (c : FaultClass) : (s.latch c).CoverHeld := h.of_frame (by simp)

theorem latchIf (h : s.CoverHeld) (b : Bool) (c : FaultClass) : (s.latchIf b c).CoverHeld := h.of_frame (by simp)

/-! ### Targets, R8, R103 -/

section
variable {f : Face} {x : Target} (hn : s.node.state.timed = true)
include hn

/-- A face in SERVICE or HELD takes a pending target or none, on a covered face none below CLOSED. -/
theorem setPending (h : s.CoverHeld) {p : Option PendingTarget}
    (hp : s.covered f = true → ∀ q, p = some q → q.aspect.permissive = false) :
    (s.setFace f { s.face f with pending := p }).CoverHeld :=
  h.setRecord (fun hf => absurd hn (by simp [hf])) fun hc => by
    obtain ⟨ht, -⟩ := (FaceRecord.aimsClosed_iff _).mp (h.covered f hc)
    exact (FaceRecord.aimsClosed_iff _).mpr ⟨ht, hp hc⟩

theorem unpend (h : s.CoverHeld) : (s.unpend f).CoverHeld := h.setPending hn fun _ _ hq => by cases hq

theorem supersede (h : s.CoverHeld) : (s.supersede f).CoverHeld := by
  unfold State.supersede
  split
  · exact h
  · exact (h.unpend hn).countSuperseded

theorem pend (h : s.CoverHeld) (hx : s.covered f = true → x.aspect.permissive = false) (why : Reason) (keep : Bool) :
    (s.pend f x why keep).CoverHeld := by
  unfold State.pend
  dsimp only
  split
  · exact h.setPending hn fun hc q hq => by cases hq; exact hx hc
  · split
    · next p _ hp => exact h.setPending hn fun hc q hq => by cases hq; rw [hp]; exact hx hc
    · exact (h.setPending hn fun hc q hq => by cases hq; exact hx hc).countSuperseded

/-- A resolved target is taken, R8. -/
theorem takeTarget (h : s.CoverHeld) (hx : s.covered f = true → x.aspect.permissive = false) (g : GateOutcome) :
    (s.takeTarget f x g).CoverHeld := by
  have hu := h.retarget hx
  have hnu : (s.setFace f { s.face f with target := x }).node.state.timed = true := by rwa [State.setFace_node]
  have hxu : (s.setFace f { s.face f with target := x }).covered f = true → x.aspect.permissive = false := by
    rwa [State.covered_of_locks (s := s) (by simp)]
  unfold State.takeTarget
  dsimp only
  (repeat' split)
  · exact hu.unpend hnu
  · exact hu.pend hnu hxu _ _
  · exact hu.pend hnu hxu _ _
  · exact hu.pend hnu hxu _ _
  · exact hu
  · exact (hu.unpend hnu).beginChange f _
  · exact hu.supersede hnu
  · exact hu.pend hnu hxu _ _
  · exact hu.supersede hnu
  · exact hu.pend hnu hxu _ _

theorem decideTarget (h : s.CoverHeld) (v : PassView) : (s.decide f v).CoverHeld :=
  (h.latchIf _ _).takeTarget (by rwa [State.latchIf_node]) (fun hc => by
    rw [State.covered_of_locks (s := s) (by simp)] at hc
    rw [State.resolve_covered hc]
    rfl) _

end

theorem mergeCheck (h : s.CoverHeld) (f : Face) : (s.mergeCheck f).CoverHeld := by
  have hf : (s.mergeFound f).CoverHeld := by
    unfold State.mergeFound State.clearMergeLost
    (repeat' split)
    · exact h
    · exact h.setFace (.of_eq rfl rfl)
    · exact h
  unfold State.mergeCheck State.mergeTest
  split
  · exact hf
  · split
    · exact hf
    · exact State.CoverHeld.latch (hf.setFace (f := f) (by exact .of_eq rfl rfl)) .merge

/-- An acting pass is one of a node in SERVICE, R93. -/
theorem faceWork (h : s.CoverHeld) (f : Face) (v : PassView) {acting : Bool}
    (ha : acting = true → s.node.state = .service) : (s.faceWork f v acting).CoverHeld := by
  obtain ⟨hage, hnode⟩ : (if v.pass = .ret then s.advanceAge f else s).CoverHeld ∧
      (if v.pass = .ret then s.advanceAge f else s).node = s.node := by
    split
    · exact ⟨State.CoverHeld.latchIf (h.setFace (.ageOne _)) _ _, by simp⟩
    · exact ⟨h, rfl⟩
  unfold State.faceWork
  split
  · next hact =>
    refine State.CoverHeld.decideTarget ?_ (hage.mergeCheck f) v
    rw [State.mergeCheck_node, hnode, ha hact]
    rfl
  · exact h.mergeCheck f

/-! ### Commands, R20, R21, R39, R77 -/

theorem endFace (h : s.CoverHeld) (f : Face) : (s.endFace f).CoverHeld := by
  have ht := h.retarget (f := f) (t := ⟨.closed, .maint⟩) fun _ => rfl
  unfold State.endFace
  dsimp only
  (repeat' split)
  · exact h
  · exact ht.askClose f
  · exact ht

/-- FACE_SET opens no covered face, R21, R142. -/
theorem not_permissive_of_faceSetAnswer {f : Face} {a : Aspect} (h : s.faceSetAnswer f a = none)
    (hc : s.covered f = true) : a.permissive = false := by
  by_contra ha
  unfold State.faceSetAnswer at h
  grind

theorem faceSet (h : s.CoverHeld) (f : Face) (a : Aspect) : (s.faceSet f a).1.CoverHeld := by
  unfold State.faceSet
  split
  · exact h
  · next hnone => exact (h.retarget (t := ⟨a, .maint⟩) (not_permissive_of_faceSetAnswer hnone)).beginChange f a

theorem testPull (h : s.CoverHeld) (c : Channel) : (s.testPull c).1.CoverHeld := by
  unfold State.testPull
  split
  · split
    · exact (h.reportLamp _ _).lampFault _
    · exact h.setLamp _ _
    all_goals exact h
  · exact h.requestPull _ _

theorem testRelease (h : s.CoverHeld) (c : Channel) : (s.testRelease c).1.CoverHeld := by
  cases c with
  | lamp f => exact h.lampOff f
  | shutter f k => exact h.releaseShutter f k

theorem elementTest (h : s.CoverHeld) (c : Channel) (a : TestAction) : (s.elementTest c a).1.CoverHeld := by
  unfold State.elementTest
  (repeat' split)
  · exact h
  · exact h
  · exact h
  · exact (h.testPull c).channelTests _
  · exact (h.testRelease c).channelTests _

theorem clearNamedFace (h : s.CoverHeld) (f : Face) (set : BitVec 12) : (s.clearNamedFace f set).CoverHeld := by
  have hu : (s.setFace f (s.face f).unlatch).CoverHeld := h.setFace (.of_eq rfl rfl)
  unfold State.clearNamedFace State.clearFace
  split
  · (repeat' split)
    · exact (h.lampOff f).setFace (by rw [State.lampOff_face]; exact .of_eq rfl rfl)
    · exact h.setFace (.of_eq rfl rfl)
    · exact hu.relight f
    · exact h.setFace (.of_eq rfl rfl)
    · exact hu
  · exact h

theorem clearFaults (h : s.CoverHeld) (set : BitVec 12) (x : Sensed) : (s.clearFaults set x).CoverHeld := by
  have hc : (s.clearChannels set x).CoverHeld := h.of_frame (by simp)
  have hl := (hc.clearNamedFace .e set).clearNamedFace .w set
  exact State.CoverHeld.nodeTests (hl.of_frame (by simp))

/-! ### The lock table, R139-R146 -/

/-- The lock table changes, and covers no further face. -/
theorem setPoss (h : s.CoverHeld) {x : PossBlock} (hx : ∀ f, (x.locks.any fun l => l.faces.covers f) = true →
    s.covered f = true) : (s.setPoss x).CoverHeld := h.of_faces rfl id hx

theorem lockWriteBegin (h : s.CoverHeld) : s.lockWriteBegin.CoverHeld := by
  refine h.of_faces (by simp) (by simp) fun f => ?_
  unfold State.lockWriteBegin
  split
  · simp [State.covered, Function.comp_def]
  · exact id

theorem liftLock (h : s.CoverHeld) (id : Nat) : (s.liftLock id).CoverHeld :=
  State.CoverHeld.lockWriteBegin (h.setPoss fun f hf => by
    obtain ⟨l, hl, hc⟩ := List.any_eq_true.mp hf
    exact List.any_eq_true.mpr ⟨l, List.mem_of_mem_filter hl, hc⟩)

/-- CLOSED taken for a possession is no target below CLOSED. -/
theorem coverRecord_aimsClosed (h : s.CoverHeld) (f : Face) : (s.coverRecord f).aimsClosed = true := by
  rw [FaceRecord.aimsClosed_iff, s.coverRecord_target f]
  refine ⟨rfl, fun p hp => ?_⟩
  cases hn : s.node.state.timed with
  | false =>
    rw [State.coverRecord, if_neg (by simp [hn])] at hp
    rw [h.waiting hn f] at hp
    cases hp
  | true =>
    rw [State.coverRecord, if_pos hn, FaceRecord.takeClosed_pending] at hp
    grind [Aspect.permissive]

/-- A new lock closes the faces it newly covers at once, R143; the others keep their targets. -/
theorem applyLock (h : s.CoverHeld) (id : Nat) (fs : LockFaces) : (s.applyLock id fs).CoverHeld := by
  refine State.CoverHeld.lockWriteBegin (State.CoverHeld.nodeTests (s := s.lockTaken id fs) ⟨fun hn f => ?_, fun f hc => ?_⟩)
  · rw [State.lockTaken_node] at hn
    have hrec : (s.coverRecord f).pending = none := by
      rw [State.coverRecord, if_neg (by simp [hn])]
      exact h.waiting hn f
    rw [State.lockTaken_face, State.lockRecord]
    split
    · exact hrec
    · exact h.waiting hn f
  · have hcov : s.covered f = true ∨ fs.covers f = true := by
      rw [State.covered_of_locks (s := s.lockJoined id fs) (by rw [State.lockTaken_poss]; rfl),
        State.lockJoined_covered] at hc
      simpa using hc
    rw [State.lockTaken_face]
    cases hs : s.covered f with
    | true =>
      rw [State.lockRecord_kept (.inr hs)]
      exact h.covered f hs
    | false =>
      rw [State.lockRecord_newly (hcov.resolve_left (by simp [hs])) hs]
      exact h.coverRecord_aimsClosed f

end State.CoverHeld

end Sys2Proof.Machine
end

section
/-! The invariant of the cover (O59): every command keeps start-up as the spec gives it, pending targets in SERVICE and HELD alone,
and no target below CLOSED on a covered face (R58, R104, R114, R142, R186). -/

namespace Sys2Proof.Machine

/-! ### Start-up -/

theorem PlanEffect.startUpOk {effect : Effect} (he : PlanEffect effect) (c : Cmd) :
    EffectHolds (fun s => s.startUpOk = true) c effect := fun s args _ hrun _ _ => by
  obtain ⟨b, hb⟩ := he s args
  show (effect s args).1.startUpOk = true
  rw [hb]
  exact State.startUpOk_running hrun

theorem EffectHolds.of_running {effect : Effect} {c : Cmd} (h : ∀ s args, (effect s args).1.phase = s.phase) :
    EffectHolds (fun s => s.startUpOk = true) c effect := fun s args _ hrun _ _ =>
  State.startUpOk_running ((h s args).trans hrun)

/-- Start-up as the spec gives it is kept by what leaves the blocks it reads. -/
theorem State.startUpOk_of_frame {s t : State} (h : s.startUpOk = true) (hp : t.phase = s.phase := by rfl)
    (hf : t.faces = s.faces := by rfl) (he : t.elem = s.elem := by rfl) (hu : t.unserved = s.unserved := by rfl) :
    t.startUpOk = true :=
  State.startUpOk_of_blocks h hp (fun _ => ⟨hf, he⟩) (by rw [hu]; exact id)

theorem startUpOk_invariant : Invariant fun s => s.startUpOk = true where
  line {s l} h hl := by
    rcases hl with hr | ⟨hrole, hw⟩
    · exact State.startUpOk_running hr
    · refine State.startUpOk_of_blocks h rfl (fun _ => ⟨rfl, rfl⟩) fun hu => ?_
      obtain ⟨hn, hr, hwait⟩ := (State.unserved_iff _).mp hu
      exact (State.unserved_iff _).mpr ⟨hn, hrole.trans hr, hw hwait⟩
  fault h := State.startUpOk_of_frame h
  sweep h := State.startUpOk_of_frame h
  poss h := State.startUpOk_of_frame h
  store h _ := State.startUpOk_of_frame h
  sup h _ _ := State.startUpOk_of_frame h
  faces {s _} h ha hf := State.startUpOk_of_awake h ha hf.phase fun hu => by
    rwa [State.unserved_congr (s := s) (by rw [hf.node]) (by rw [hf.line]) (by rw [hf.line])]
  nodeTests h := State.nodeTests_startUpOk h
  arise h := State.arise_startUpOk h _
  phase h hph := State.setPhase_startUpOk h hph
  reset {s c ph} := (State.doReset_facesInv s c ph).2
  heard _ hr := State.startUpOk_running (by simpa using hr)
  enumerated _ hr := State.startUpOk_running (by simpa using hr)
  tHold {s x n} h hs _ := by
    have hr : s.phase = .running := by
      by_contra hp
      have hu := ((State.unserved_iff _).mp (State.unserved_of_startUpOk h hp)).1
      rw [hs] at hu
      cases hu
    exact State.startUpOk_running hr
  resetCause h := State.startUpOk_of_frame h
  settled {s} h hp := by
    have hu := State.unserved_of_startUpOk h (by simp [hp])
    rw [State.startUpOk_relighting (e := false) (w := false) (by simp)]
    rwa [State.unserved_congr (s := s) (by simp) (by simp) (by simp)]
  site _ hr := State.startUpOk_running hr
  loadBegin := loadBegin_plan.startUpOk _
  loadBlock := loadBlock_plan.startUpOk _
  loadEnd := loadEnd_plan.startUpOk _
  swap := swap_plan.startUpOk _
  commission := .of_running commission_phase
  enterService := .of_running enterService_phase
  leaveService := .of_running leaveService_phase
  release := .of_running fun s args => by unfold release; dsimp only; (repeat' split) <;> simp
  maintain := .of_running fun _ _ => rfl
  ending _ hr _ := State.startUpOk_running hr

namespace State.CoverHeld

variable {s t : State} {p : Port}

/-! ### Resets, receipt and the queues, R44-R58, R80 -/

theorem setLine (h : s.CoverHeld) (l : LineBlock) : (s.setLine l).CoverHeld := h.of_frame (by simp)
theorem setStore (h : s.CoverHeld) (x : StorageBlock) : (s.setStore x).CoverHeld := h.of_frame (by simp)
theorem setSweep (h : s.CoverHeld) (x : SweepBlock) : (s.setSweep x).CoverHeld := h.of_frame (by simp)
theorem setSup (h : s.CoverHeld) (x : SupBlock) : (s.setSup x).CoverHeld := h.of_frame (by simp)
theorem setPhase (h : s.CoverHeld) (x : Phase) : (s.setPhase x).CoverHeld := h.of_frame (by simp)

/-- The node record changes, and the node stays in SERVICE and HELD or out of them. -/
theorem setNode (h : s.CoverHeld) {x : NodeRecord} (hx : x.state.timed = false → s.node.state.timed = false) :
    (s.setNode x).CoverHeld := h.of_faces rfl hx fun _ => id

/-- Faces at their records after a reset meet the law with whatever locks. -/
theorem of_reset (h : t.faces = ⟨.reset, .reset⟩) : t.CoverHeld where
  waiting _ f := by cases f <;> simp [State.face, h] <;> rfl
  covered f _ := by cases f <;> simp [State.face, h] <;> rfl

theorem doReset (s : State) (c : ResetCause) (ph : Phase) : (s.doReset c ph).CoverHeld := of_reset rfl

theorem received (h : s.CoverHeld) (p : Port) : (s.received p).CoverHeld := h.of_frame (by simp)

theorem countUnknown (h : s.CoverHeld) (p : Port) : (s.countUnknown p).CoverHeld := h.of_frame (by simp)

theorem join (h : s.CoverHeld) (q p : Port) (f : Frame) : (s.join q p f).CoverHeld := by
  unfold State.join
  split
  · split
    · exact doReset _ _ _
    · exact h.of_frame (by simp)
  · exact h.setLine _

theorem forwardInStartUp (h : s.CoverHeld) (p : Port) (f : Frame) : (s.forwardInStartUp p f).CoverHeld := by
  unfold State.forwardInStartUp
  split
  · exact (h.countUnknown p).join _ p f
  · exact h.join _ p f

theorem receiveA {f : Frame} {out ret : State → Frame → State × Frame} (h : s.CoverHeld)
    (ho : PassHolds State.CoverHeld out) (hr : PassHolds State.CoverHeld ret) : (s.receiveA f out ret).CoverHeld := by
  have hrec := h.received .a
  unfold State.receiveA
  split
  · split
    case h_4 hrun =>
      have hout := ho _ f hrec (by simpa using hrun)
      unfold State.processA
      dsimp only
      split
      · exact hout
      · next hn =>
        split
        · exact (hr _ _ hout (not_not.mp hn)).join .a .a _
        · exact hout.join .b .a _
    all_goals exact hrec.forwardInStartUp .a f
  · exact h

theorem receiveB {f : Frame} {ret : State → Frame → State × Frame} (h : s.CoverHeld)
    (hr : PassHolds State.CoverHeld ret) : (s.receiveB f ret).CoverHeld := by
  have hrec := h.received .b
  unfold State.receiveB
  split
  · split
    case h_4 hrun => exact (hr _ f hrec (by simpa using hrun)).join .a .b _
    all_goals exact hrec.forwardInStartUp .b f
  · exact h

/-! ### The line role, R51-R54 -/

theorem wrap (h : s.CoverHeld) : s.wrap.CoverHeld := by
  unfold State.wrap
  dsimp only
  split
  · exact doReset _ _ _
  · exact h.of_frame (by simp)

theorem writeRole (h : s.CoverHeld) (b c : Bool) : (s.writeRole b c).CoverHeld := by
  unfold State.writeRole
  (repeat' split)
  · exact h.of_frame (by simp)
  · exact h.of_frame (by simp)
  · exact h
  · exact h
  · exact h
  · exact h.of_frame (by simp)
  · exact h.wrap

theorem lampReported (h : s.CoverHeld) (f : Face) : (s.lampReported f).CoverHeld := by
  have hend : s.startUpEnd.CoverHeld := by
    have hrun := h.setPhase .running
    unfold State.startUpEnd
    dsimp only
    (repeat' split)
    · exact hrun.of_frame (by simp)
    · exact hrun.wrap
    · exact hrun.of_frame (by simp)
  unfold State.lampReported
  (repeat' split)
  · exact hend
  · exact h.setPhase _
  · exact hend
  · exact h.setPhase _
  all_goals exact h

end State.CoverHeld

/-! ### Passes of frames -/

/-- A pass that leaves the face records, the node state and the lock table. -/
theorem PassHolds.of_beside {pass : State → Frame → State × Frame}
    (h : ∀ s f, (pass s f).1.faces = s.faces ∧ (pass s f).1.node = s.node ∧ (pass s f).1.poss = s.poss) :
    PassHolds State.CoverHeld pass := fun s f hs _ => by
  obtain ⟨hf, hn, hp⟩ := h s f
  exact hs.of_frame ⟨hf, by rw [hn], by rw [hp]⟩

theorem unknownPass_coverHeld (p : Port) : PassHolds State.CoverHeld (unknownPass p) := fun _ _ h _ => h.countUnknown p

theorem closeAll_coverHeld : PassHolds State.CoverHeld State.closeAll := fun _ _ h _ => h.arise .closeAll

namespace State.CoverHeld

variable {s t : State} {p : Port}

/-- A valid pass ends HELD, R153: the node stays among the states whose timer runs. -/
theorem heard (h : s.CoverHeld) : s.heard.CoverHeld := by
  unfold State.heard
  split
  case h_2 => exact State.CoverHeld.setSup (h.setNode (fun hn => by cases hn)) _
  all_goals exact h.setSup _

theorem validPass (h : s.CoverHeld) (f : Frame) (b : SweepBody) : (s.validPass f b).1.CoverHeld := by
  have hkept : ((s.latchIf (!adjacent f.pass s.gantry b) .position).setSweep
      (s.sweep.keep f.pass s.gantry s.lane s.width b)).CoverHeld := (h.latchIf _ _).setSweep _
  have ha : (s.arrive f.pass b).CoverHeld := hkept.heard
  have hs : (s.arrive f.pass b).acts f.pass b.seq (holdFlag f.flags) = true →
      (s.arrive f.pass b).node.state = .service := by
    intro hacts
    simp only [State.acts, Bool.and_eq_true, beq_iff_eq] at hacts
    obtain ⟨⟨-, hservice⟩, -⟩ := hacts
    exact hservice
  have ht : ((s.arrive f.pass b).takePass f.pass b.seq
      ((s.arrive f.pass b).acts f.pass b.seq (holdFlag f.flags))).CoverHeld := ha.of_frame (by simp)
  have he := ht.faceWork .e ⟨f.pass, b.seq, b.plan, prevEntry f.pass s.gantry s.lane b⟩ hs
  exact he.faceWork .w _ fun hacts => by rw [State.faceWork_node]; exact hs hacts

/-- ENUMERATE numbers no node of SERVICE or HELD, R70. -/
theorem enumerated (h : s.CoverHeld) (c : Nat) : (s.enumerated c).CoverHeld := by
  have htake (b : Bool) : (s.setNode { s.node.takeAddress c with positionAgrees := b }).CoverHeld :=
    h.setNode fun hx => by cases hs : s.node.state <;> simp_all [NodeRecord.takeAddress, NodeState.timed]
  have hlose : (s.setNode { s.node.loseAddress with positionAgrees := false }).CoverHeld :=
    h.setNode fun hx => by cases hs : s.node.state <;> simp_all [NodeRecord.loseAddress, NodeState.timed]
  have hmis {u : State} (hu : u.CoverHeld) : u.misplaced.CoverHeld := by
    unfold State.misplaced
    dsimp only
    split
    · exact (hu.latch .position).arise .position
    · exact (hu.latch .position).arise .position
    all_goals exact hu.latch .position
  unfold State.enumerated
  (repeat' split)
  · exact htake true
  · exact hmis (htake false)
  · exact hmis hlose
  · exact htake false
  · exact hlose.latch .position

end State.CoverHeld

theorem sweepPass_coverHeld : PassHolds State.CoverHeld State.sweepPass := by
  intro s f h _
  unfold State.sweepPass
  split
  · exact (h.latch .line).nodeTests
  · next b _ =>
    refine State.CoverHeld.nodeTests ?_
    (repeat' split)
    · exact State.CoverHeld.of_frame h (by simp)
    · exact h.validPass f _
    · exact h.validPass f b
    · exact State.CoverHeld.of_frame h (by simp)

theorem sweepReturn_coverHeld : PassHolds State.CoverHeld State.sweepReturn := fun s f h hrun =>
  sweepPass_coverHeld s (s.seed f) h hrun

theorem enumerate_coverHeld : PassHolds State.CoverHeld State.enumerate := fun _ _ h _ => h.enumerated _

/-! ### The effects of the commands -/

/-- An effect that leaves the face records, the node state and the lock table. -/
theorem EffectHolds.of_beside {effect : Effect} {c : Cmd} (h : ∀ s args, (effect s args).1.faces = s.faces ∧
    (effect s args).1.node = s.node ∧ (effect s args).1.poss = s.poss) : EffectHolds State.CoverHeld c effect :=
  fun s args hs _ _ _ => by
    obtain ⟨hf, hn, hp⟩ := h s args
    exact hs.of_frame ⟨hf, by rw [hn], by rw [hp]⟩

theorem PlanEffect.coverHeld {effect : Effect} (he : PlanEffect effect) (c : Cmd) :
    EffectHolds State.CoverHeld c effect :=
  .of_beside fun s args => by
    obtain ⟨b, hb⟩ := he s args
    rw [hb]
    exact ⟨rfl, rfl, rfl⟩

theorem writeSite_coverHeld (arriving : Bool) : EffectHolds State.CoverHeld .writeSite (writeSite arriving) := by
  intro s args h _ _ _
  unfold writeSite
  (repeat' split)
  · exact h
  · exact h
  · exact State.CoverHeld.writeRole (h.of_frame (by simp [NodeRecord.agree])) _ _
  · exact h

theorem clearFaults_coverHeld (x : Sensed) : EffectHolds State.CoverHeld .clearFaults (clearFaults x) := by
  intro s args h _ _ _
  unfold clearFaults
  (repeat' split)
  · exact h
  · exact h
  · exact h.clearFaults _ x

/-- COMMISSION and RELEASE take a node to STANDBY from a state in which nothing is pending, R73, R78. -/
theorem commission_coverHeld : EffectHolds State.CoverHeld .commission commission := by
  intro s args h _ hs _
  unfold commission
  split
  · exact h
  · refine h.enterStandby (h.waiting ?_)
    revert hs
    cases s.node.state <;> decide

theorem release_coverHeld (ms : Nat) : EffectHolds State.CoverHeld .release (release ms) := by
  intro s args h _ _ _
  have hc : ((s.setSup (s.sup.aged ms)).setNode (s.setSup (s.sup.aged ms)).node.noCauses).CoverHeld :=
    (h.setSup _).setNode id
  unfold release
  dsimp only
  (repeat' split)
  · next hf => exact hc.enterStandby (hc.waiting (by rw [State.setNode_node]; exact congrArg NodeState.timed hf))
  · exact hc
  · exact h.setSup _

theorem enterService_coverHeld : EffectHolds State.CoverHeld .enterService enterService := by
  intro s args h _ _ _
  unfold enterService
  (repeat' split)
  · exact h
  · exact h
  · exact State.CoverHeld.setSup (h.setNode fun hn => by cases hn) _

theorem leaveService_coverHeld : EffectHolds State.CoverHeld .leaveService leaveService := fun _ _ h _ _ _ =>
  State.CoverHeld.nodeTests (h.setNode id)

theorem maintain_coverHeld : EffectHolds State.CoverHeld .maintain maintain := by
  intro s args h _ hs _
  have hs : s.node.state = .standby := States.standbyOnly_has.mp hs
  exact h.setNode fun _ => by rw [hs]; rfl

theorem endMaintain_coverHeld : EffectHolds State.CoverHeld .endMaintain endMaintain := by
  intro s args h _ _ _
  have hset : (s.setNode { s.node with ending := true }).CoverHeld := h.setNode id
  unfold endMaintain
  split
  · exact h
  · exact ((hset.endFace .e).endFace .w).nodeTests

theorem faceSetCommand_coverHeld : EffectHolds State.CoverHeld .faceSet faceSetCommand := by
  intro s args h _ _ _
  unfold faceSetCommand
  (repeat' split)
  · exact h
  · exact (h.faceSet _ _).nodeTests
  · exact h
  · exact h

theorem elementTestCommand_coverHeld : EffectHolds State.CoverHeld .elementTest elementTestCommand := by
  intro s args h _ _ _
  unfold elementTestCommand
  (repeat' split)
  · exact h
  · exact h
  · exact h
  · exact h.elementTest _ _

/-! Possessions, R137-R146. -/

theorem State.CoverHeld.setSeq {s : State} (h : s.CoverHeld) (x : SeqRecord) : (s.setSeq x).CoverHeld :=
  h.of_frame ⟨rfl, rfl, rfl⟩

theorem State.CoverHeld.sequenceError {s : State} (h : s.CoverHeld) : s.sequenceError.1.CoverHeld :=
  h.of_frame ⟨rfl, rfl, rfl⟩

theorem possFrom_coverHeld : EffectHolds State.CoverHeld .possFrom possFrom := by
  intro s args h _ _ _
  unfold possFrom
  dsimp only
  (repeat' split)
  · exact h
  · exact h
  · exact h.setSeq _
  · exact h.sequenceError

theorem possTo_coverHeld : EffectHolds State.CoverHeld .possTo possTo := by
  intro s args h _ _ _
  unfold possTo
  dsimp only
  (repeat' split)
  · exact h
  · exact h.setSeq _
  · exact h.sequenceError

theorem possExcept_coverHeld : EffectHolds State.CoverHeld .possExcept possExcept := by
  intro s args h _ _ _
  unfold possExcept
  dsimp only
  (repeat' split)
  · exact h
  · exact h.sequenceError
  · exact h
  · exact h.setSeq _
  · exact h.sequenceError

theorem possApply_coverHeld : EffectHolds State.CoverHeld .possApply possApply := by
  intro s args h _ _ _
  unfold possApply
  dsimp only
  (repeat' split)
  · exact h
  · exact h.sequenceError
  · exact h.setSeq _
  · exact h.setSeq _
  · exact h.setSeq _
  · exact h.applyLock _ _

theorem possLift_coverHeld (target : BitVec 8) : EffectHolds State.CoverHeld .possLift (possLift target) := by
  intro s args h _ _ _
  unfold possLift
  dsimp only
  (repeat' split)
  · exact h
  · exact h.liftLock _
  · exact h
  · exact h

/-! Each command's effect, and the judgement before it, R67. -/

theorem effectOf_coverHeld {i : Instr} {c : Cmd} {x : CommandPayload} (hi : commandOf i = some (c, x)) :
    EffectHolds State.CoverHeld c (effectOf i) := by
  cases i <;> cases hi
  case readIdentity | readSite | readStatus | readLocks | readCounters | reset => exact .of_still fun _ _ => rfl
  case readFace => exact .of_still fun s args => by rw [effectOf, readFace_eq]
  case readChannel => exact .of_still fun s args => by rw [effectOf, readChannel_eq]
  case readPlan => exact .of_still fun s args => by rw [effectOf, readPlan_eq]
  case writeSite => exact writeSite_coverHeld _
  case writeFace => exact .of_beside fun s args => by rw [effectOf]; unfold writeFace; (repeat' split) <;> simp
  case setMasks => exact .of_beside fun s args => by rw [effectOf]; unfold setMasks; split <;> simp
  case clearFaults => exact clearFaults_coverHeld _
  case loadBegin => exact loadBegin_plan.coverHeld _
  case loadBlock => exact loadBlock_plan.coverHeld _
  case loadEnd => exact loadEnd_plan.coverHeld _
  case swap => exact swap_plan.coverHeld _
  case store => exact .of_beside fun s args => by rw [effectOf]; unfold store; split <;> simp
  case eraseStore => exact .of_beside fun s args => by rw [effectOf]; unfold eraseStore; split <;> simp
  case commission => exact commission_coverHeld
  case enterService => exact enterService_coverHeld
  case leaveService => exact leaveService_coverHeld
  case release => exact release_coverHeld _
  case maintain => exact maintain_coverHeld
  case endMaintain => exact endMaintain_coverHeld
  case faceSet => exact faceSetCommand_coverHeld
  case elementTest => exact elementTestCommand_coverHeld
  case possFrom => exact possFrom_coverHeld
  case possTo => exact possTo_coverHeld
  case possExcept => exact possExcept_coverHeld
  case possApply => exact possApply_coverHeld
  case possLift => exact possLift_coverHeld _

theorem State.CoverHeld.abandonSequence {s : State} (h : s.CoverHeld) (c : Cmd) : (s.abandonSequence c).CoverHeld := by
  unfold State.abandonSequence
  split
  · exact h
  · exact h.of_frame ⟨rfl, rfl, rfl⟩

theorem judge_coverHeld {c : Cmd} {target : BitVec 8} {effect : Effect} (he : EffectHolds State.CoverHeld c effect) :
    PassHolds State.CoverHeld fun t f => t.judge c target effect f := by
  intro s f h hrun
  show (s.judge c target effect f).1.CoverHeld
  unfold State.judge
  split
  case h_6 hv =>
    obtain ⟨hs, hroom⟩ := State.verdict_execute hv
    exact he _ _ (h.abandonSequence c) (by simpa using hrun) (by simpa using hs) (argsOf_length hroom)
  case h_2 | h_3 => exact h.latch _
  all_goals exact h

theorem State.CoverHeld.command {s t : State} {i : Instr} {c : Cmd} {x : CommandPayload}
    (hi : commandOf i = some (c, x)) (h : s.CoverHeld) (ht : exec i s = .next t) : t.CoverHeld := by
  rw [exec_command hi] at ht
  cases ht
  exact h.receiveA (judge_coverHeld (effectOf_coverHeld hi)) unchanged_holds

/-! ### The rows -/

namespace State.CoverHeld

variable {s t : State} {p : Port}

theorem sweep {x : Payload} (h : s.CoverHeld) (ht : execSweep p x s = .next t) : t.CoverHeld := by
  cases p <;> cases ht
  · exact h.receiveA sweepPass_coverHeld sweepReturn_coverHeld
  · exact h.receiveB sweepPass_coverHeld

theorem closeall {x : Payload} (h : s.CoverHeld) (ht : execCloseall p x s = .next t) : t.CoverHeld := by
  cases p <;> cases ht
  · exact h.receiveA closeAll_coverHeld closeAll_coverHeld
  · exact h.receiveB closeAll_coverHeld

theorem unknownFrame {k : BitVec 4} {x : Payload} (h : s.CoverHeld) (ht : execUnknownFrame p k x s = .next t) :
    t.CoverHeld := by
  unfold execUnknownFrame at ht
  split at ht
  · cases p <;> cases ht
    · exact h.receiveA (unknownPass_coverHeld .a) unchanged_holds
    · exact h.receiveB (unknownPass_coverHeld .b)
  · cases ht; exact h

theorem forwardUnchanged {k : BitVec 4} {x : Payload} (h : s.CoverHeld) (ht : execForwardUnchanged p k x s = .next t) :
    t.CoverHeld := by
  unfold execForwardUnchanged at ht
  cases p <;> dsimp only at ht <;> split at ht <;> cases ht
  · exact h.receiveA (fun _ _ hu _ => hu.latchIf _ _) unchanged_holds
  · exact h
  · exact h.receiveB unchanged_holds
  · exact h

theorem startUpForward {k : BitVec 4} {x : Payload} (h : s.CoverHeld) (ht : execStartUpForward p k x s = .next t) :
    t.CoverHeld := by
  unfold execStartUpForward at ht
  (repeat' split at ht) <;> cases ht
  · exact (h.received p).forwardInStartUp p _
  · exact (h.received p).forwardInStartUp p _
  · exact (h.received p).forwardInStartUp p _
  · exact h
  · exact h

theorem frameCheckFailed {ws : List Word} (h : s.CoverHeld) (ht : execFrameCheckFailed p ws s = .next t) :
    t.CoverHeld := by
  unfold execFrameCheckFailed at ht
  (repeat' split at ht) <;> cases ht
  · exact h
  · exact h
  · exact h.of_frame (by simp)

theorem undefinedCommand {c : BitVec 8} {x : CommandPayload} (h : s.CoverHeld)
    (ht : execUndefinedCommand c x s = .next t) : t.CoverHeld := by
  have hr : (s.receiveA (commandFrame c x) (fun t f => t.judgeSilent x.target f) unchanged).CoverHeld :=
    h.receiveA (.of_beside fun s f => by simp) unchanged_holds
  unfold execUndefinedCommand at ht
  (repeat' split at ht) <;> cases ht
  · exact hr
  · exact h
  · exact hr

/-! The line's events, R43, R44, R50. -/

theorem frameSent (h : s.CoverHeld) (ht : execFrameSent p s = .next t) : t.CoverHeld := by
  unfold execFrameSent at ht
  split at ht
  · cases ht; exact h
  · dsimp only at ht
    split at ht <;> cases ht
    · exact doReset _ _ _
    · exact h.setLine _

theorem portDown {xs : List Symbol} (h : s.CoverHeld) (ht : execPortDown p xs s = .next t) : t.CoverHeld := by
  have hlost : (s.portLost p xs).CoverHeld := h.of_frame (by simp)
  unfold execPortDown at ht
  split at ht
  · cases ht; exact h
  · split at ht
    · cases ht; exact hlost
    · split at ht <;> cases ht
      · exact hlost.wrap
      · exact hlost

theorem portUp {xs : List Symbol} (h : s.CoverHeld) (ht : execPortUp p xs s = .next t) : t.CoverHeld := by
  have hback : (s.portBack p xs).CoverHeld := h.of_frame (by simp)
  unfold execPortUp at ht
  split at ht
  · cases ht; exact h
  · split at ht
    · cases ht; exact hback
    · split at ht <;> cases ht
      · exact hback.of_frame (by simp)
      · exact hback

/-! Channel events, R29-R36. -/

theorem afterReport (h : s.CoverHeld) (f : Face) : (s.afterReport f).CoverHeld := (h.channelTests f).nodeTests

theorem shutterFault (h : s.CoverHeld) (f : Face) (k : Shutter) (c : ShutterChannel) (x : ChannelFault) :
    ((((s.setShutter f k c).reportShutter f k x).elementFault f).afterReport f).CoverHeld :=
  (((h.setShutter f k c).reportShutter f k x).elementFault f).afterReport f

theorem lampFails (h : s.CoverHeld) (f : Face) (c : LampChannel) (x : ChannelFault) : (s.lampFails f c x).CoverHeld :=
  ((((h.setLamp f _).reportLamp f x).lampFault f).afterReport f).lampReported f

/-- A row that acts under a condition. -/
theorem of_guarded {c : Prop} [Decidable c] {u : State} (h : s.CoverHeld) (hu : u.CoverHeld)
    (ht : (if c then .next u else .next s : Host.Outcome State Fault Refusal) = .next t) : t.CoverHeld := by
  split at ht <;> cases ht
  · exact hu
  · exact h

theorem hitTimeEnd {f : Face} {k : Shutter} (h : s.CoverHeld) (ht : execHitTimeEnd f k s = .next t) : t.CoverHeld := by
  unfold execHitTimeEnd at ht
  dsimp only at ht
  (repeat' split at ht) <;> cases ht
  · exact (h.setShutter f k _).afterReport f
  · exact h.shutterFault f k _ _
  · exact h

/-! Supervision and power, R154-R159. -/

theorem tHoldExpiry (h : s.CoverHeld) (ht : execTHoldExpiry s = .next t) : t.CoverHeld := by
  unfold execTHoldExpiry at ht
  split at ht
  · split at ht <;> cases ht
    · exact State.CoverHeld.setSup (h.setNode fun hn => by cases hn) _
    · exact h
  all_goals cases ht; exact h

theorem tCloseExpiry (h : s.CoverHeld) (ht : execTCloseExpiry s = .next t) : t.CoverHeld := by
  unfold execTCloseExpiry at ht
  split at ht
  · split at ht <;> cases ht
    · exact (h.setSup _).arise .silence
    · exact h
  all_goals cases ht; exact h

theorem supplyDipReset {mv : Nat} (h : s.CoverHeld) (ht : execSupplyDipReset mv s = .next t) : t.CoverHeld := by
  unfold execSupplyDipReset at ht
  (repeat' split at ht) <;> cases ht
  · exact doReset _ _ _
  · exact h.setNode id
  · exact h
  · exact h

/-! Start-up and the storage writer, R146, R149, R183-R187. -/

/-- The loads of start-up find the faces as a reset leaves them, R186: the loaded locks cover them closed. -/
theorem settled (h : s.CoverHeld) (hs : s.startUpOk = true) (ht : execStartUpSettleEnd s = .next t) : t.CoverHeld := by
  unfold execStartUpSettleEnd at ht
  split at ht <;> cases ht
  · next hp =>
    obtain ⟨hf, -, -⟩ := (State.startUpOk_early (s := s) (by rw [hp]; rfl)).mp hs
    have hload : (s.loadAll.setPhase (.relighting false false)).CoverHeld := of_reset (by simp [hf])
    exact (hload.relight .e).relight .w
  · exact h

theorem writerIdle (h : s.CoverHeld) : s.writerIdle.CoverHeld := State.CoverHeld.lockWriteBegin (h.setStore _)

theorem storeImageDone (h : s.CoverHeld) (ht : execStoreImageDone s = .next t) : t.CoverHeld := by
  unfold execStoreImageDone at ht
  split at ht <;> cases ht
  · exact h.of_frame (by simp)
  · exact h.setStore _
  · exact State.CoverHeld.writerIdle (h.setStore _)
  all_goals exact h

theorem eraseImageDone (h : s.CoverHeld) (ht : execEraseImageDone s = .next t) : t.CoverHeld := by
  unfold execEraseImageDone at ht
  split at ht <;> cases ht
  · exact h.setStore _
  · exact h.writerIdle
  all_goals exact h

theorem lockWriteDone (h : s.CoverHeld) (ht : execLockWriteDone s = .next t) : t.CoverHeld := by
  unfold execLockWriteDone at ht
  split at ht <;> cases ht
  · have hw : (s.setPoss { s.poss with locks := s.poss.locks.map Lock.written }).CoverHeld :=
      h.setPoss fun f => by simp [State.covered, Lock.written, Function.comp_def]
    exact State.CoverHeld.writerIdle (hw.setStore _)
  all_goals exact h

/-! ### Every command, every step -/

theorem exec {i : Instr} (h : s.CoverHeld) (hs : s.startUpOk = true) (ht : Machine.exec i s = .next t) :
    t.CoverHeld := by
  cases i
  case readIdentity | readSite | readStatus | readFace | readChannel | readPlan | readLocks | readCounters | writeSite |
      writeFace | setMasks | clearFaults | loadBegin | loadBlock | loadEnd | swap | store | eraseStore | commission |
      enterService | leaveService | release | maintain | endMaintain | reset | faceSet | elementTest | possFrom | possTo |
      possExcept | possApply | possLift => exact h.command rfl ht
  case sweep => exact h.sweep ht
  case rollcall => cases ht; exact h.receiveA (.of_beside fun s f => by simp) unchanged_holds
  case enumerate => cases ht; exact h.receiveA enumerate_coverHeld unchanged_holds
  case closeall => exact h.closeall ht
  case unknownFrame => exact h.unknownFrame ht
  case forwardUnchanged => exact h.forwardUnchanged ht
  case startUpForward => exact h.startUpForward ht
  case frameCheckFailed => exact h.frameCheckFailed ht
  case framingError => cases ht; exact h.of_frame (by simp)
  case frameSent => exact h.frameSent ht
  case portDown => exact h.portDown ht
  case portUp => exact h.portUp ht
  case undefinedCommand => exact h.undefinedCommand ht
  case moved f k _ _ => exact h.of_guarded (((h.setShutter f k _).movedStep f k).afterReport f) ht
  case hitTimeEnd => exact h.hitTimeEnd ht
  case holdLost f k _ => exact h.of_guarded (h.shutterFault f k _ _) ht
  case dropped f k _ => exact h.of_guarded (((h.setShutter f k _).droppedStep f k).afterReport f) ht
  case notDropped f k _ => exact h.of_guarded (h.shutterFault f k _ _) ht
  case overcurrent f k _ => exact h.of_guarded (h.shutterFault f k _ _) ht
  case lit f _ => exact h.of_guarded ((((h.setLamp f _).litStep f).afterReport f).lampReported f) ht
  case notLit f => exact h.of_guarded (h.lampFails f _ _) ht
  case lampOpen f _ => exact h.of_guarded (h.lampFails f _ _) ht
  case lampOvercurrent f _ => exact h.of_guarded (h.lampFails f _ _) ht
  case lampCurrentMoveEnd => cases ht; exact h.setLamp _ _
  case tHoldExpiry => exact h.tHoldExpiry ht
  case tCloseExpiry => exact h.tCloseExpiry ht
  case loopOpen => exact h.of_guarded ((h.setSup _).arise .loop) ht
  case loopRestored => exact h.of_guarded (h.setSup _) ht
  case supplyLow => exact h.of_guarded (((h.setSup _).latch .supply).arise .supply) ht
  case supplyNormal => exact h.of_guarded (h.setSup _) ht
  case supplyDipReset => exact h.supplyDipReset ht
  case powerOn => cases ht; exact doReset _ _ _
  case resetEnd => exact h.of_guarded (h.setPhase _) ht
  case startUpSettleEnd => exact h.settled hs ht
  case storeImageDone => exact h.storeImageDone ht
  case eraseImageDone => exact h.eraseImageDone ht
  case lockWriteDone => exact h.lockWriteDone ht
  case discardingEnd => exact h.of_guarded (h.setLine _) ht

theorem step (h : s.CoverHeld) (hs : s.startUpOk = true) (ht : Machine.step s = .next t) : t.CoverHeld := by
  cases hp : s.pending with
  | nil => simp only [Machine.step, hp, Host.Outcome.next.injEq] at ht; exact ht ▸ h
  | cons i rest =>
    rw [step_cons hp] at ht
    exact State.CoverHeld.exec (h.of_frame (t := s.setPending rest) (by simp)) (State.startUpOk_of_frame hs) ht

end State.CoverHeld

/-- Settles O59: start-up is kept by what every command keeps; the law of the cover by following every operation that gives a face
a target, changes the lock table or takes the node out of SERVICE and HELD. -/
theorem noTargetBelowClosedUnderALock : Obligations.NoTargetBelowClosedUnderALock := by
  unfold Obligations.NoTargetBelowClosedUnderALock
  intro s t ht hs hp hc
  obtain ⟨hp', hc'⟩ := t.coverHeld_iff.mp ((s.coverHeld_iff.mpr ⟨hp, hc⟩).step hs ht)
  exact ⟨startUpOk_invariant.step (fun _ h => State.startUpOk_of_frame h) hs ht, hp', hc'⟩

end Sys2Proof.Machine
end

section
/-! The RELEASE command (O28), the silence timer (O42) and the loop and supply monitors (O43): R78, R153, R154, R156-R158, R160. -/

namespace Sys2Proof.Machine

/-! ### RELEASE, R78, R160 -/

theorem SupBlock.aged_some {x : SupBlock} {age : Nat} (h : x.recency = some age) (ms : Nat) :
    x.aged ms = { x with recency := some (age + ms) } := by
  simp [SupBlock.aged, h]

theorem SupBlock.aged_none {x : SupBlock} (h : x.recency = none) (ms : Nat) : x.aged ms = x := by
  cases x
  simp_all [SupBlock.aged]

/-- T_HOLD is read from the site record alone, R156. -/
theorem State.tHold_congr {s t : State} (h : t.store = s.store) : t.tHold = s.tHold := by simp [State.tHold, h]

/-- The sweep condition of R160. -/
theorem State.recentSweep_iff (s : State) : s.recentSweep = true ↔ ∃ a, s.sup.recency = some a ∧ a ≤ s.tHold := by
  cases h : s.sup.recency <;> simp [State.recentSweep, h]

/-- The four conditions of R160. -/
theorem State.releasable_iff (s : State) : s.releasable = true ↔ s.sup.loop = .restored ∧ s.sup.supply = .normal ∧
    s.node.positionAgrees = true ∧ ∃ a, s.sup.recency = some a ∧ a ≤ s.tHold := by
  simp [State.releasable, State.recentSweep_iff, and_assoc]

section
variable {s : State} (elapsed : Nat)

/-- The four conditions with the recency counted up to the command, R153, R160. -/
theorem State.aged_releasable_iff {age : Nat} (h : s.sup.recency = some age) :
    (s.setSup (s.sup.aged elapsed)).releasable = true ↔ s.sup.loop = .restored ∧ s.sup.supply = .normal ∧
      s.node.positionAgrees = true ∧ age + elapsed ≤ s.tHold := by
  have ht : (s.setSup (s.sup.aged elapsed)).tHold = s.tHold := State.tHold_congr rfl
  rw [State.releasable_iff, ht]
  simp [SupBlock.aged, h]

/-- Without a valid pass since the reset nothing is released, R153, R160. -/
theorem State.not_releasable_of_no_pass (h : s.sup.recency = none) :
    ¬ (s.setSup (s.sup.aged elapsed)).releasable = true := by
  rw [SupBlock.aged_none h, State.releasable_iff]
  rintro ⟨-, -, -, a, ha, -⟩
  cases h.symm.trans ha

variable {elapsed} (args : List Word)

theorem release_to_standby (h : (s.setSup (s.sup.aged elapsed)).releasable = true) (hf : s.node.state = .failsafe) :
    release elapsed s args =
      (((s.setSup (s.sup.aged elapsed)).setNode s.node.noCauses).enterStandby, .done []) := by
  simp [release, h, hf]

theorem release_in_place (h : (s.setSup (s.sup.aged elapsed)).releasable = true) (hf : s.node.state ≠ .failsafe) :
    release elapsed s args = ((s.setSup (s.sup.aged elapsed)).setNode s.node.noCauses, .done []) := by
  simp [release, h, hf]

theorem release_refused (h : ¬ (s.setSup (s.sup.aged elapsed)).releasable = true) :
    release elapsed s args = (s.setSup (s.sup.aged elapsed), .refused .stateCause []) := by
  simp [release, h]

theorem release_phase : (release elapsed s args).1.phase = s.phase := by
  unfold release
  dsimp only
  (repeat' split) <;> rfl

theorem exec_release {x : CommandPayload} {t : State} {r : Reply} (h : s.executes .release x = true)
    (he : release elapsed (s.handed .release) (Cmd.release.argsOf x.body) = (t, r)) :
    exec (.release x elapsed) s = .next (t.sendReply .release x r) := by
  have hrun := State.running_of_executes h
  show Host.Outcome.next (s.command .release x (release elapsed)) = _
  rw [State.command_executes h (by decide) (release elapsed) (by rw [release_phase]; simpa using hrun), he]

end

/-- Settles O28: the conditions of R160 are read on the node as handed to the executing block; with a recency they are the four of
the sentence, without one they fail. -/
theorem releaseNeedsAllFourConditions : Obligations.ReleaseNeedsAllFourConditions := by
  unfold Obligations.ReleaseNeedsAllFourConditions
  refine ⟨fun s x elapsed age h hage => ?_, fun s x elapsed h hnone => ?_⟩
  · have hsup := s.handed_sup .release
    have hnode := s.handed_node .release
    have hfour := State.aged_releasable_iff (s := s.handed .release) elapsed (by rwa [hsup])
    rw [hsup, hnode, State.tHold_congr (s.handed_store .release)] at hfour
    rw [← hfour]
    refine ⟨fun hall => ⟨fun hf => ?_, fun hf => ?_⟩, fun hfail => ?_⟩
    · rw [exec_release h (release_to_standby _ (by rwa [hsup]) (by rwa [hnode])), State.enterStandby_eq, hsup, hnode,
        SupBlock.aged_some hage]
      simp [NodeRecord.noCauses, CauseSet.empty, State.setNode, State.setSup]
    · rw [exec_release h (release_in_place _ (by rwa [hsup]) (by rwa [hnode])), hsup, hnode, SupBlock.aged_some hage]
      rfl
    · rw [exec_release h (release_refused _ (by rwa [hsup])), hsup, SupBlock.aged_some hage]
      rfl
  · have hpass : (s.handed .release).sup.recency = none := by rwa [s.handed_sup .release]
    rw [exec_release h (release_refused _ (State.not_releasable_of_no_pass elapsed hpass)), SupBlock.aged_none hpass]
    rfl

/-! ### The silence timer, R154, R156 -/

section
variable {s : State} {interval : Nat}

theorem execTHoldExpiry_service (ht : s.sup.timer = .holdStage interval) (hs : s.node.state = .service) :
    execTHoldExpiry s = .next ((s.setNode { s.node with state := .held }).setSup
      { s.sup.later interval with timer := .closeStage s.tClose }) := by
  simp [execTHoldExpiry, ht, hs]

theorem execTHoldExpiry_stopped (ht : s.sup.timer = .stopped) : execTHoldExpiry s = .next s := by
  simp [execTHoldExpiry, ht]

theorem execTCloseExpiry_held (ht : s.sup.timer = .closeStage interval) (hs : s.node.state = .held) :
    execTCloseExpiry s = .next ((s.setSup (s.sup.later interval)).arise .silence) := by
  simp [execTCloseExpiry, ht, hs]

theorem execTCloseExpiry_stopped (ht : s.sup.timer = .stopped) : execTCloseExpiry s = .next s := by
  simp [execTCloseExpiry, ht]

end

/-- Settles O42: each expiry by the stage of the timer and the node state; HELD is a state in which a cause is the entry to
FAILSAFE. -/
theorem silenceHoldsThenCloses : Obligations.SilenceHoldsThenCloses := by
  unfold Obligations.SilenceHoldsThenCloses
  intro s interval
  refine ⟨execTHoldExpiry_service, fun ht hs => ?_,
    fun ht => ⟨execTHoldExpiry_stopped ht, execTCloseExpiry_stopped ht⟩⟩
  have harise : (s.setSup (s.sup.later interval)).arise .silence = (s.setSup (s.sup.later interval)).enterFailsafe .silence :=
    State.arise_enterFailsafe (.inr (.inr (.inl hs)))
  exact (execTCloseExpiry_held ht hs).trans (by rw [harise]; rfl)

/-! ### The loop monitor, R157 -/

/-- The monitors of a part that is not held in reset run, R159. -/
theorem State.runs_iff (s : State) : s.runs = true ↔ s.phase ≠ .held := by simp [State.runs]

section
variable {s : State} (hp : s.phase ≠ .held)
include hp

theorem execLoopOpen_opens {ua : Nat} (hu : ua < 4000) (ho : s.sup.loop ≠ .opened) :
    execLoopOpen ua s = .next ((s.setSup { s.sup with loop := .opened }).arise .loop) := by
  simp [execLoopOpen, s.runs_iff.mpr hp, loopPresent, hu, ho]

theorem execLoopRestored_present {ua : Nat} (hu : 4000 ≤ ua) :
    execLoopRestored ua s = .next (s.setSup { s.sup with loop := .restored }) := by
  simp [execLoopRestored, s.runs_iff.mpr hp, loopPresent, hu]

/-! ### The supply monitor, R158 -/

theorem execSupplyLow_falls {mv : Nat} (hmv : mv < 21000) (hl : s.sup.supply ≠ .low) :
    execSupplyLow mv s = .next (((s.setSup { s.sup with supply := .low }).latch .supply).arise .supply) := by
  simp [execSupplyLow, s.runs_iff.mpr hp, supplyLowThreshold, hmv, hl]

theorem execSupplyNormal_returns {mv ms : Nat} (h : supplyReturns s.sup.supply mv ms = true) :
    execSupplyNormal mv ms s = .next (s.setSup { s.sup with supply := .normal }) := by
  simp [execSupplyNormal, s.runs_iff.mpr hp, h]

end

/-- An open loop raises its cause once, R157. -/
theorem execLoopOpen_opened {s : State} (ua : Nat) (ho : s.sup.loop = .opened) : execLoopOpen ua s = .next s := by
  simp [execLoopOpen, ho]

/-- A low supply raises its cause once, R158. -/
theorem execSupplyLow_low {s : State} (mv : Nat) (hl : s.sup.supply = .low) : execSupplyLow mv s = .next s := by
  simp [execSupplyLow, hl]

/-- The two ways to NORMAL, R158. -/
theorem supplyReturns_iff (x : SupplyState) (mv ms : Nat) : supplyReturns x mv ms = true ↔
    (x = .evaluating ∧ 21000 ≤ mv ∧ 50 ≤ ms) ∨ (x = .low ∧ 21500 ≤ mv ∧ 500 ≤ ms) := by
  cases x with
  | evaluating =>
    show (decide (21000 ≤ mv) && decide (50 ≤ ms)) = true ↔ _
    simp
  | normal => simp [supplyReturns]
  | low =>
    show (decide (21500 ≤ mv) && decide (500 ≤ ms)) = true ↔ _
    simp

theorem execSupplyNormal_stays {s : State} {mv ms : Nat} (h : ¬ supplyReturns s.sup.supply mv ms = true) :
    execSupplyNormal mv ms s = .next s := by
  simp [execSupplyNormal, h]

/-- Settles O43: each monitor by its threshold and its state; the supply's return by the level and the time of the state it leaves. -/
theorem monitorsRaiseTheirCausesOnce : Obligations.MonitorsRaiseTheirCausesOnce := by
  unfold Obligations.MonitorsRaiseTheirCausesOnce
  refine ⟨fun s ua hp => ⟨execLoopOpen_opens hp, fun _ ho => execLoopOpen_opened ua ho,
      execLoopRestored_present hp⟩,
    fun s mv ms hp => ⟨execSupplyLow_falls hp, fun _ hl => execSupplyLow_low mv hl,
      fun h => execSupplyNormal_returns hp ((supplyReturns_iff _ mv ms).mpr h), fun hl hlow => ?_⟩⟩
  refine execSupplyNormal_stays fun h => ?_
  rcases (supplyReturns_iff _ mv ms).mp h with ⟨he, -⟩ | ⟨-, hmv, hms⟩
  · rw [hl] at he
    cases he
  · omega

end Sys2Proof.Machine
end

section
/-! The outbound pass of a ROLLCALL (O13): R172-R174, R194. One rule per outcome of the pass, on a body of a start address, an
entry count and the entries. -/

namespace Sys2Proof.Machine

/-! ### The body, R172, R173 -/

section
variable (start count : Word) (entries : List Word)

theorem rollcallMalformed_iff : rollcallMalformed ([start, count] ++ entries) = true ↔
    entries.length ≠ 2 * count.toNat ∨ 61 < count.toNat := by
  simp [rollcallMalformed, rollcallCount, rollcallLimit]
  omega

/-- The address of the last entry stands in its first word, two words before the end. -/
theorem rollcallInOrder_iff (a : Nat) : rollcallInOrder ([start, count] ++ entries) a = true ↔
    count = 0 ∨ (entries.getD (2 * count.toNat - 2) 0).toNat / 256 < a := by
  have hcount : count.toNat = 0 ↔ count = 0 := by rw [← BitVec.toNat_inj]; rfl
  by_cases hc : count = 0
  · simp [rollcallInOrder, rollcallLast, rollcallCount, hc]
  · obtain ⟨n, hn⟩ : ∃ n, count.toNat = n + 1 := Nat.exists_eq_succ_of_ne_zero (mt hcount.mp hc)
    have hlast : ([start, count] ++ entries).getD (2 * count.toNat) 0 = entries.getD (2 * count.toNat - 2) 0 := by
      rw [hn]
      rfl
    have hcnt : rollcallCount ([start, count] ++ entries) = count.toNat := rfl
    simp only [rollcallInOrder, rollcallLast, hcnt, if_neg (mt hcount.mp hc), hlast, hiByte_eq, decide_eq_true_eq, hc,
      false_or]

end

/-! ### The outcomes of the pass, R172, R173 -/

section
variable {s : State} {f : Frame} {start count : Word} {entries : List Word}

theorem State.rollcall_malformed (h : rollcallMalformed f.body = true) : s.rollcall f = (s.latch .line, f) := by
  rw [State.rollcall, if_pos h]

variable (hb : f.body = [start, count] ++ entries) (hm : entries.length = 2 * count.toNat) (hc : count.toNat ≤ 61)
include hb hm hc

theorem rollcall_wellFormed : ¬ rollcallMalformed f.body = true := by
  rw [hb, rollcallMalformed_iff]
  omega

theorem State.rollcall_aside (ha : s.node.address = 0 ∨ s.node.address.toNat < start.toNat % 256) :
    s.rollcall f = (s, f) := by
  have hstart : loByte (f.body.getD 0 0) = start.toNat % 256 := by rw [hb, ← loByte_eq]; rfl
  rw [State.rollcall, if_neg (rollcall_wellFormed hb hm hc), hstart, if_pos (by simpa using ha)]

variable (hn : s.node.address ≠ 0) (ha : start.toNat % 256 ≤ s.node.address.toNat)
include hn ha

/-- An addressed node at or above the start address goes by its place in the order, then by the room. -/
theorem State.rollcall_addressed : s.rollcall f =
    if !rollcallInOrder f.body s.node.address.toNat then (s.latch .position, f)
    else if maxFrameWords < f.length + 2 then (s, { f with flags := setOverflowFlag f.flags })
    else (s, { f with body := rollcallAppend f.body s.rollcallEntry }) := by
  have hstart : loByte (f.body.getD 0 0) = start.toNat % 256 := by rw [hb, ← loByte_eq]; rfl
  rw [State.rollcall, if_neg (rollcall_wellFormed hb hm hc), hstart,
    if_neg (by simpa using And.intro hn ha)]

theorem State.rollcall_outOfOrder (hz : count ≠ 0)
    (hl : s.node.address.toNat ≤ (entries.getD (2 * count.toNat - 2) 0).toNat / 256) :
    s.rollcall f = (s.latch .position, f) := by
  have horder : ¬ rollcallInOrder f.body s.node.address.toNat = true := by
    rw [hb, rollcallInOrder_iff]
    exact not_or_intro hz (Nat.not_lt.mpr hl)
  rw [State.rollcall_addressed hb hm hc hn ha, if_pos (by simpa using horder)]

variable (ho : count = 0 ∨ (entries.getD (2 * count.toNat - 2) 0).toNat / 256 < s.node.address.toNat)
include ho

/-- A node in order appends where LENGTH plus 2 is at most 127, and else sets OVERFLOW. -/
theorem State.rollcall_inOrder : s.rollcall f =
    if count.toNat = 61 then (s, { f with flags := f.flags ||| 1 })
    else (s, { f with body := [start, count + 1] ++ entries ++ s.rollcallEntry }) := by
  have horder : rollcallInOrder f.body s.node.address.toNat = true := by rwa [hb, rollcallInOrder_iff]
  have hroom : maxFrameWords < f.length + 2 ↔ count.toNat = 61 := by
    have hlen : f.length = 2 * count.toNat + 5 := by simp [Frame.length, hb, hm]
    rw [hlen, maxFrameWords]
    omega
  have happend : rollcallAppend f.body s.rollcallEntry = [start, count + 1] ++ entries ++ s.rollcallEntry := by
    rw [hb]; rfl
  rw [State.rollcall_addressed hb hm hc hn ha, if_neg (by simp [horder]), happend]
  simp only [hroom, setOverflowFlag]
  rfl

end

/-! ### The frame received, R48, R52 -/

/-- ROLLCALL received past start-up: the outbound pass, then out by the role. -/
theorem exec_rollcall {s : State} {x : Payload} (hp : s.phase = .running) (hx : x.wf = true) {u : State} {g : Frame}
    (h : (s.received .a).rollcall (payloadFrame x kindRollcall .a) = (u, g)) :
    exec (.rollcall x) s = .next (u.sendA g) := by
  show Host.Outcome.next _ = _
  rw [State.receiveA_unchanged hp (by simpa using hx) (by simpa using hp), h]

/-! ### The entry, R174, R194 -/

theorem State.received_rollcallEntry (s : State) (p : Port) : (s.received p).rollcallEntry = s.rollcallEntry := by
  simp [State.rollcallEntry, State.alarm, State.latched]

/-- The two words of an entry. -/
theorem State.rollcallEntry_toNat (s : State) : s.rollcallEntry.map BitVec.toNat =
    [256 * s.node.address.toNat + 32 * s.node.state.code + 16 * s.alarm.toNat + 8 * (!s.node.causes.isEmpty).toNat +
        4 * (s.line.role == .endWrapped).toNat + 2 * (!s.poss.locks.isEmpty).toNat + s.plan.stagingValid.toNat,
      8192 * s.faces.e.shown.code + 2048 * s.faces.e.state.code + 256 * s.faces.w.shown.code +
        64 * s.faces.w.state.code + 32 * s.faces.e.pending.isSome.toNat + 16 * s.faces.w.pending.isSome.toNat +
        8 * (s.faces.e.latch != .none).toNat + 4 * (s.faces.w.latch != .none).toNat +
        2 * (s.fault.latches.getLsbD 0).toNat + (s.fault.latches.getLsbD 6).toNat] := by
  have := s.node.address.isLt
  have hline : s.latched .line = s.fault.latches.getLsbD 0 := rfl
  have hposition : s.latched .position = s.fault.latches.getLsbD 6 := rfl
  simp [-BitVec.toNat_or, State.rollcallEntry, fld_toNat, Nat.mod_eq_of_lt, *]
  omega

/-- The alarm flag: a latch is set whose mask is clear, R166. -/
theorem State.alarm_iff (s : State) : s.alarm = true ↔ s.fault.latches &&& ~~~s.fault.masks ≠ 0 := by
  rw [State.alarm, bne_iff_ne]

/-- Settles O13: a well-formed pass goes by the address, the order and the room, in that turn; the entry's words are sums of
their fields. -/
theorem rollcallCollectsEntriesInOrder : Obligations.RollcallCollectsEntriesInOrder := by
  unfold Obligations.RollcallCollectsEntriesInOrder
  refine ⟨fun s x start count entries hp hb hlen => ?_, fun s x hp hone => ?_,
    fun s => ⟨s.rollcallEntry_toNat, s.alarm_iff, CauseSet.isEmpty_iff _⟩⟩
  · have hx : x.wf = true := by
      simp [Payload.wf, bodyOk, hb]
      omega
    have hbody : (payloadFrame x kindRollcall .a).body = [start, count] ++ entries := hb
    have hnode := s.received_node .a
    refine ⟨fun hbad => ?_, fun hm => ?_⟩
    · refine exec_rollcall hp hx (State.rollcall_malformed ?_)
      rwa [hbody, rollcallMalformed_iff]
    · have hc : count.toNat ≤ 61 := by omega
      refine ⟨fun ha => exec_rollcall hp hx (State.rollcall_aside hbody hm hc (by rwa [hnode])),
        fun hn ha => ⟨fun hz hl => ?_, fun ho => ⟨fun hroom => ?_, fun hfull => ?_⟩⟩⟩
      · exact exec_rollcall hp hx
          (State.rollcall_outOfOrder hbody hm hc (by rwa [hnode]) (by rwa [hnode]) hz (by rwa [hnode]))
      · refine exec_rollcall hp hx ?_
        rw [State.rollcall_inOrder hbody hm hc (by rwa [hnode]) (by rwa [hnode]) (by rwa [hnode]),
          if_neg (by omega), s.received_rollcallEntry]
      · refine exec_rollcall hp hx ?_
        rw [State.rollcall_inOrder hbody hm hc (by rwa [hnode]) (by rwa [hnode]) (by rwa [hnode]), if_pos hfull]
        rfl
  · have hx : x.wf = true := by simp [Payload.wf, bodyOk, hone]
    refine exec_rollcall hp hx (State.rollcall_malformed ?_)
    have hcount : rollcallCount x.body = 0 := by
      obtain ⟨w, hw⟩ := List.length_eq_one_iff.mp hone
      rw [hw]; rfl
    show rollcallMalformed x.body = true
    simp [rollcallMalformed, hcount, hone]

end Sys2Proof.Machine
end

section
/-! SET_MASKS and CLEAR_FAULTS (O21): R20, R34, R37, R166-R169. CLEAR_FAULTS is taken apart by its steps: the channels, the face
latches by the rows of R20, the class latches and the details; the node's tests that follow write no more than the merge-lost
latch of a face. -/

namespace Sys2Proof.Machine

/-! ### The commands executed, R167, R168 -/

/-- A command other than RESET whose effect leaves the part running, R64-R69. -/
theorem exec_effect {i : Instr} {s u : State} {c : Cmd} {x : CommandPayload} {r : Reply}
    (hi : commandOf i = some (c, x)) (h : s.executes c x = true) (hc : c ≠ .reset)
    (he : effectOf i (s.handed c) (c.argsOf x.body) = (u, r)) (hu : u.phase = s.phase) :
    exec i s = .next (u.sendReply c x r) := by
  rw [exec_command hi, State.command_executes h hc _ (by rw [he]; exact hu.trans (State.running_of_executes h)), he]

theorem hasClass_setWidth (w : Word) (c : FaultClass) : hasClass (w.setWidth 12) c = w.getLsbD c.index := by
  cases c <;> simp [hasClass, FaultClass.index]

theorem setWidth_eq_zero_iff {w : Word} (h : w.toNat < 4096) : w.setWidth 12 = 0 ↔ w = 0 := by
  rw [← BitVec.toNat_inj, ← BitVec.toNat_inj, BitVec.toNat_setWidth]
  simp
  omega

section
variable {s : State} {args : List Word} {w : Word} (ha : argWord args 0 = w)
include ha

theorem setMasks_refused (h : 4096 ≤ w.toNat) : setMasks s args = (s, .refused .argument []) := by
  simp [setMasks, classSet, ha, Nat.not_lt.mpr h]

theorem setMasks_done {b : StorageBlock} (hb : s.store = b) (h : w.toNat < 4096) : setMasks s args = ({ s with
    fault := { s.fault with masks := w.setWidth 12 }
    store :=
      if b.site.valid then { b with site := { b.site with fields := { b.site.fields with masks := w.setWidth 12 } } }
      else b }, .done []) := by
  subst hb
  have hset : classSet w = some (w.setWidth 12) := if_pos h
  rw [setMasks, ha, hset]
  simp only [WorkingSite.withMasks]
  split <;> rfl

variable (sense : Sensed)

theorem clearFaults_refused (h : 4096 ≤ w.toNat) : clearFaults sense s args = (s, .refused .argument []) := by
  simp [clearFaults, classSet, ha, Nat.not_lt.mpr h]

theorem clearFaults_nothing (h : w = 0) : clearFaults sense s args = (s, .done []) := by
  subst h
  simp [clearFaults, classSet, ha]

theorem clearFaults_done (hz : w ≠ 0) (h : w.toNat < 4096) :
    clearFaults sense s args = (s.clearFaults (w.setWidth 12) sense, .done []) := by
  have hset : classSet w = some (w.setWidth 12) := if_pos h
  rw [clearFaults, ha, hset]
  simp only [if_neg (mt (setWidth_eq_zero_iff h).mp hz)]

end

/-! ### The channels, R34, R37 -/

theorem ShutterChannel.clear_current {c : ShutterChannel} {now : Nat} (hc : c.state = .blocked) (hn : now ≠ 0) :
    c.clear now = { c with measured := now } := by
  simp [ShutterChannel.clear, hc, hn]

theorem ShutterChannel.clear_rests {c : ShutterChannel} {now : Nat} (h : c.state ≠ .blocked ∨ now = 0) :
    (c.clear now).state = (if c.state = .blocked then .off else c.state) ∧ (c.clear now).lastFault = .none := by
  cases hc : c.state with
  | blocked =>
    have hn : now = 0 := h.resolve_left (not_not_intro hc)
    simp [ShutterChannel.clear, hc, hn]
  | off | pulling | holding | releasing => simp [ShutterChannel.clear, hc]

theorem LampChannel.clear_current {c : LampChannel} {now : Nat} (hc : c.state = .blocked) (hn : now ≠ 0) :
    c.clear now = { c with measured := now } := by
  simp [LampChannel.clear, hc, hn]

theorem LampChannel.clear_rests {c : LampChannel} {now : Nat} (h : c.state ≠ .blocked ∨ now = 0) :
    (c.clear now).state ≠ .blocked ∧ (c.clear now).lastFault = .none := by
  cases hc : c.state with
  | blocked =>
    have hn : now = 0 := h.resolve_left (not_not_intro hc)
    simp [LampChannel.clear, hc, hn]
  | off | ramping | lit => simp [LampChannel.clear, hc]

/-- The clear neither lights a lamp nor turns off one that is LIT. -/
theorem LampChannel.clear_lit_iff (c : LampChannel) (now : Nat) : (c.clear now).state = .lit ↔ c.state = .lit := by
  cases hc : c.state with
  | blocked => by_cases hn : now = 0 <;> simp [LampChannel.clear, hc, hn]
  | off | ramping | lit => simp [LampChannel.clear, hc]

theorem State.shutter_of_channels {s t : State} {f : Face} (h : t.channels f = s.channels f) (k : Shutter) :
    t.shutter f k = s.shutter f k := by rw [State.shutter, State.shutter, h]

theorem State.lamp_of_channels {s t : State} {f : Face} (h : t.channels f = s.channels f) : t.lamp f = s.lamp f := by
  rw [State.lamp, State.lamp, h]

section
variable (s : State) (set : BitVec 12) (x : Sensed)

/-- Step 1 of R168 on the shutters: the samples are measured with the trims the node had. -/
theorem State.clearChannels_shutter (f : Face) (k : Shutter) : (s.clearChannels set x).shutter f k =
    if hasClass set .element then (s.shutter f k).clear (s.measureShutter f k (shutterSense (faceSense x f) k))
    else s.shutter f k := by
  have hlamps (t : State) : (if hasClass set .lamp then (t.clearLamp .e x.e).clearLamp .w x.w else t).shutter f k =
      t.shutter f k := by
    split
    · exact (State.setLamp_shutter _ .w f k _).trans (State.setLamp_shutter _ .e f k _)
    · rfl
  unfold State.clearChannels
  dsimp only
  rw [hlamps]
  split
  · cases f <;> cases k <;> rfl
  · rfl

/-- Step 1 of R168 on the lamps. -/
theorem State.clearChannels_lamp (f : Face) : (s.clearChannels set x).lamp f =
    if hasClass set .lamp then (s.lamp f).clear (s.measureLamp f (faceSense x f).lamp) else s.lamp f := by
  unfold State.clearChannels
  dsimp only
  split <;> split <;> cases f <;> rfl

end

/-! ### A face whose latch is cleared, R20 -/

section
variable {s : State} {f : Face}

theorem State.clearFace_not_dark (hd : (s.face f).steadyDark = false) :
    s.clearFace f = s.setFace f { s.face f with latch := .none } := by
  simp [State.clearFace, hd, FaceRecord.unlatch]

variable (hd : (s.face f).steadyDark = true)
include hd

/-- A BLOCKED shutter comes before a BLOCKED lamp (log 20). -/
theorem State.clearFace_shutterBlocked (hb : s.anyBlocked f = true) :
    s.clearFace f = (s.lampOff f).setFace f { s.face f with latch := .element } := by
  simp [State.clearFace, hd, hb]

theorem State.clearFace_lampBlocked (hb : s.anyBlocked f = false) (hl : (s.lamp f).state = .blocked) :
    s.clearFace f = s.setFace f { s.face f with latch := .lamp } := by
  simp [State.clearFace, hd, hb, hl]

/-- With a shutter active the face awaits the relight; in MAINTENANCE where one was asked for (log 20). -/
theorem State.clearFace_active (hb : s.anyBlocked f = false) (ho : s.allOff f = false) (hl : (s.lamp f).state ≠ .blocked) :
    s.clearFace f = s.setFace f { s.face f with
      latch := .none
      relightAwaited := (s.face f).relightAwaited || s.node.state != .maintenance || s.node.ending } := by
  simp [State.clearFace, hd, hb, ho, hl, FaceRecord.unlatch]

variable (ho : s.allOff f = true)
include ho

theorem State.clearFace_off (hl : (s.lamp f).state ≠ .blocked) :
    s.clearFace f = (s.setFace f { s.face f with latch := .none }).relight f := by
  have hb : s.anyBlocked f = false := by
    rw [← Bool.not_eq_true]
    exact fun hb => Bool.noConfusion (ho.symm.trans (State.allOff_of_anyBlocked hb))
  simp [State.clearFace, hd, hb, ho, hl, FaceRecord.unlatch]

/-- Under a LIT lamp the relight completes at once, R35; a pending target goes by R15. -/
theorem State.clearFace_lit (hl : (s.lamp f).state = .lit) : ∃ p, s.clearFace f = s.setFace f { s.face f with
    shown := .closed, state := .steady, env := steadyEnv .closed, change := none, latch := .none
    relightAwaited := false, testedWait := false, pending := p } := by
  rw [State.clearFace_off hd ho (by simp [hl]), State.relight]
  simp only [State.setFace_lamp, hl, State.setFace_face, State.setFace_setFace, FaceRecord.settleOn, FaceRecord.place]
  exact ⟨_, rfl⟩

/-- Under any other lamp the relight is under way, R14. -/
theorem State.clearFace_ramps (hl : (s.lamp f).state = .off ∨ (s.lamp f).state = .ramping) :
    ∃ c : LampChannel, c.state = .ramping ∧ c.lastFault = (s.lamp f).lastFault ∧
      s.clearFace f = (s.setLamp f c).setFace f { s.face f with
        state := .changing, env := ⟨0, 2⟩, change := some ⟨.dark, .closed, .one⟩, latch := .none
        relightAwaited := false, testedWait := false } := by
  obtain ⟨-, hdark⟩ := (FaceRecord.steadyDark_iff _).mp hd
  have hshown : ((s.setFace f { s.face f with latch := .none }).face f).shown = .dark := by simpa using hdark
  rcases hl with hl | hl
  · refine ⟨{ s.lamp f with state := .ramping, timer := some (s.config f).rampTime }, rfl, rfl, ?_⟩
    rw [State.clearFace_off hd ho (by simp [hl]), State.relight_off hshown (by simpa using hl)]
    simp
  · refine ⟨s.lamp f, hl, rfl, ?_⟩
    rw [State.clearFace_off hd ho (by simp [hl]), State.relight_ramping hshown (by simpa using hl)]
    simp

end

section
variable (s : State) (f : Face) (set : BitVec 12)

theorem FaceLatch.named_iff (l : FaceLatch) : l.named set = true ↔
    (l = .element ∧ hasClass set .element = true) ∨ (l = .lamp ∧ hasClass set .lamp = true) := by
  cases l <;> simp [FaceLatch.named]

theorem LampChannel.turnOff_lastFault (c : LampChannel) : c.turnOff.2.lastFault = c.lastFault := by
  cases hc : c.state <;> simp [LampChannel.turnOff, hc]

/-- What the clear of a face's latch can write: the lamp, which it neither blocks nor frees, and the face's record less the
merge-lost latch. A BLOCKED lamp is asked for no relight, so no fault is reported. -/
def State.UnlatchWrites (s : State) (f : Face) (t : State) : Prop :=
  ∃ r c, t = (s.setLamp f c).setFace f r ∧ c.lastFault = (s.lamp f).lastFault ∧
    (c.state = .blocked ↔ (s.lamp f).state = .blocked) ∧ r.mergeLost = (s.face f).mergeLost

theorem State.UnlatchWrites.of_setFace {s t : State} {f : Face} {r : FaceRecord} (h : t = s.setFace f r)
    (hr : r.mergeLost = (s.face f).mergeLost) : s.UnlatchWrites f t :=
  ⟨r, s.lamp f, by rw [h, State.setLamp_self], rfl, Iff.rfl, hr⟩

theorem State.clearFace_writes : s.UnlatchWrites f (s.clearFace f) := by
  cases hd : (s.face f).steadyDark with
  | false => exact .of_setFace (State.clearFace_not_dark hd) rfl
  | true =>
    cases hb : s.anyBlocked f with
    | true =>
      refine ⟨_, (s.lamp f).turnOff.2, State.clearFace_shutterBlocked hd hb, LampChannel.turnOff_lastFault _, ?_, rfl⟩
      rw [LampChannel.turnOff_state]
      split <;> simp [*]
    | false =>
      by_cases hl : (s.lamp f).state = .blocked
      · exact .of_setFace (State.clearFace_lampBlocked hd hb hl) rfl
      cases ho : s.allOff f with
      | false => exact .of_setFace (State.clearFace_active hd hb ho hl) rfl
      | true =>
        by_cases hlit : (s.lamp f).state = .lit
        · obtain ⟨p, hp⟩ := State.clearFace_lit hd ho hlit
          exact .of_setFace hp rfl
        · have hramp : (s.lamp f).state = .off ∨ (s.lamp f).state = .ramping := by
            cases hs : (s.lamp f).state <;> simp_all
          obtain ⟨c, hc, hfault, heq⟩ := State.clearFace_ramps hd ho hramp
          exact ⟨_, c, heq, hfault, by simp [hc, hl], rfl⟩

theorem State.clearNamedFace_named (h : (s.face f).latch.named set = true) : s.clearNamedFace f set = s.clearFace f :=
  if_pos h

theorem State.clearNamedFace_unnamed (h : ¬ (s.face f).latch.named set = true) : s.clearNamedFace f set = s :=
  if_neg h

theorem State.clearNamedFace_writes : s.UnlatchWrites f (s.clearNamedFace f set) := by
  by_cases h : (s.face f).latch.named set = true
  · rw [State.clearNamedFace_named s f set h]
    exact s.clearFace_writes f
  · exact .of_setFace (r := s.face f) (by rw [State.clearNamedFace_unnamed s f set h, State.setFace_self]) rfl

@[simp] theorem State.clearNamedFace_fault : (s.clearNamedFace f set).fault = s.fault := by
  obtain ⟨r, c, h, -⟩ := s.clearNamedFace_writes f set
  simp [h]

@[simp] theorem State.clearNamedFace_face_other :
    (s.clearNamedFace f set).face (otherFace f) = s.face (otherFace f) := by
  obtain ⟨r, c, h, -⟩ := s.clearNamedFace_writes f set
  simp [h]

@[simp] theorem State.clearNamedFace_channels_other :
    (s.clearNamedFace f set).channels (otherFace f) = s.channels (otherFace f) := by
  obtain ⟨r, c, h, -⟩ := s.clearNamedFace_writes f set
  simp [h]

@[simp] theorem State.clearNamedFace_shutter (g : Face) (k : Shutter) :
    (s.clearNamedFace f set).shutter g k = s.shutter g k := by
  obtain ⟨r, c, h, -⟩ := s.clearNamedFace_writes f set
  simp [h]

theorem State.clearNamedFace_lamp : ((s.clearNamedFace f set).lamp f).lastFault = (s.lamp f).lastFault ∧
    (((s.clearNamedFace f set).lamp f).state = .blocked ↔ (s.lamp f).state = .blocked) := by
  obtain ⟨r, c, h, hfault, hblocked, -⟩ := s.clearNamedFace_writes f set
  simpa [h] using ⟨hfault, hblocked⟩

theorem State.clearNamedFace_mergeLost : ((s.clearNamedFace f set).face f).mergeLost = (s.face f).mergeLost := by
  obtain ⟨r, c, h, -, -, hm⟩ := s.clearNamedFace_writes f set
  simpa [h] using hm

end

/-! ### Steps 1 and 2 of R168 -/

/-- The node after steps 1 and 2 of R168. -/
def State.facesCleared (s : State) (set : BitVec 12) (x : Sensed) : State :=
  ((s.clearChannels set x).clearNamedFace .e set).clearNamedFace .w set

theorem State.clearFaults_eq (s : State) (set : BitVec 12) (x : Sensed) : s.clearFaults set x =
    (((s.facesCleared set x).clearLatches set).relatchAll set s.faces.e.latch s.faces.w.latch).nodeTests := rfl

section
variable (s : State) (set : BitVec 12) (x : Sensed)

@[simp] theorem State.facesCleared_fault : (s.facesCleared set x).fault = s.fault := by simp [State.facesCleared]
@[simp] theorem State.facesCleared_store : (s.facesCleared set x).store = s.store := by simp [State.facesCleared]
@[simp] theorem State.facesCleared_sup : (s.facesCleared set x).sup = s.sup := by simp [State.facesCleared]
@[simp] theorem State.facesCleared_line : (s.facesCleared set x).line = s.line := by simp [State.facesCleared]

/-- Each face's record and channels go by the clear of its own latch alone: on a node that holds the face's record as it was
before the command, and its channels as step 1 leaves them. -/
theorem State.facesCleared_local (f : Face) : ∃ v : State, v.node = s.node ∧ v.face f = s.face f ∧
    v.channels f = (s.clearChannels set x).channels f ∧
    (s.facesCleared set x).channels f = (v.clearNamedFace f set).channels f ∧
    (s.facesCleared set x).face f = (v.clearNamedFace f set).face f := by
  have hface (g : Face) : (s.clearChannels set x).face g = s.face g := State.face_of_faces (by simp) g
  cases f with
  | e => exact ⟨s.clearChannels set x, by simp, hface .e, rfl, State.clearNamedFace_channels_other _ .w set,
      State.clearNamedFace_face_other _ .w set⟩
  | w => exact ⟨(s.clearChannels set x).clearNamedFace .e set, by simp,
      (State.clearNamedFace_face_other _ .e set).trans (hface .w), State.clearNamedFace_channels_other _ .e set, rfl, rfl⟩

theorem State.facesCleared_shutter (f : Face) (k : Shutter) :
    (s.facesCleared set x).shutter f k = (s.clearChannels set x).shutter f k := by simp [State.facesCleared]

theorem State.facesCleared_mergeLost (f : Face) : ((s.facesCleared set x).face f).mergeLost = (s.face f).mergeLost := by
  obtain ⟨v, -, hface, -, -, h⟩ := s.facesCleared_local set x f
  rw [h, State.clearNamedFace_mergeLost, hface]

end

/-! ### Steps 3 and 4 of R168 -/

section
variable (s : State) (set : BitVec 12) (be bw : FaceLatch)

theorem State.clearLatches_latched (c : FaultClass) :
    (s.clearLatches set).latched c = (s.latched c && !hasClass set c) := by
  have hc : c.index < 12 := by cases c <;> decide
  simp [State.latched, State.clearLatches, hasClass, hc]

theorem State.latchIf_latched (b : Bool) (c d : FaultClass) :
    (s.latchIf b c).latched d = (s.latched d || (d == c && b)) := by
  cases b with
  | false => simp [State.latchIf]
  | true =>
    by_cases h : d = c
    · subst h
      simp [State.latchIf, State.latch_latched]
    · simp [State.latchIf, State.latch_latched_other s c d (Ne.symm h), h]

/-- The conditions of R169 read no latch. -/
theorem State.condition_congr {s t : State} (hf : t.faces = s.faces) (he : t.elem = s.elem) (hs : t.store = s.store)
    (hp : t.sup = s.sup) (hr : t.line = s.line) (c : FaultClass) : t.condition be bw c = s.condition be bw c := by
  have hblocked (f : Face) : t.anyBlocked f = s.anyBlocked f := State.anyBlocked_congr (State.channels_of_elem he f)
  have hlamp (f : Face) : t.lamp f = s.lamp f := State.lamp_of_channels (State.channels_of_elem he f)
  have hstalled (f : Face) : t.stalled f = s.stalled f := by
    rw [State.stalled, State.stalled, State.face_of_faces hf, hs]
  cases c <;> simp only [State.condition, hblocked, hlamp, hstalled, hf, hp, hr]

/-- A class of the list is set again where it is named and its condition holds. -/
theorem State.foldl_relatch_latched (l : List FaultClass) (d : FaultClass) :
    (l.foldl (fun t c => t.relatch set be bw c) s).latched d =
      (s.latched d || (l.contains d && (hasClass set d && s.condition be bw d))) := by
  induction l generalizing s with
  | nil => simp
  | cons c l ih =>
    have hcond : (s.relatch set be bw c).condition be bw d = s.condition be bw d :=
      State.condition_congr be bw (by simp) (by simp) (by simp) (by simp) (by simp) d
    rw [List.foldl_cons, ih, hcond, State.relatch, State.latchIf_latched]
    by_cases h : d = c
    · subst h
      cases hasClass set d && s.condition be bw d <;> simp
    · simp [h, beq_eq_false_iff_ne.mpr h]

/-- The six condition classes alone have a condition, R169. -/
theorem State.relatchAll_latched (c : FaultClass) :
    (s.relatchAll set be bw).latched c = (s.latched c || (hasClass set c && s.condition be bw c)) := by
  rw [State.relatchAll, State.foldl_relatch_latched]
  cases c <;> simp [State.condition]

theorem State.latchIf_details (b : Bool) (c : FaultClass) (f : Face) : (s.latchIf b c).details f = s.details f := by
  cases b <;> simp [State.latchIf]

@[simp] theorem State.relatchAll_details (f : Face) : (s.relatchAll set be bw).details f = s.details f := by
  simp [State.relatchAll, State.relatch, State.latchIf_details]

theorem State.latchIf_masks (b : Bool) (c : FaultClass) : (s.latchIf b c).fault.masks = s.fault.masks := by
  cases b <;> rfl
theorem State.latchIf_superseded (b : Bool) (c : FaultClass) :
    (s.latchIf b c).fault.superseded = s.fault.superseded := by cases b <;> rfl

@[simp] theorem State.relatchAll_masks : (s.relatchAll set be bw).fault.masks = s.fault.masks := by
  simp [State.relatchAll, State.relatch, State.latchIf_masks]
@[simp] theorem State.relatchAll_superseded :
    (s.relatchAll set be bw).fault.superseded = s.fault.superseded := by
  simp [State.relatchAll, State.relatch, State.latchIf_superseded]

theorem State.clearLatches_details (f : Face) :
    (s.clearLatches set).details f = detailsAfter (s.details f) (s.channels f) set := by
  cases f <;> rfl

theorem detailsAfter_shutter (d : FaceDetails) (c : FaceChannels) (k : Shutter) : (detailsAfter d c set).shutter k =
    if hasClass set .element then shutterDetailAfter (c.shutter k) else d.shutter k := by cases k <;> rfl

end

/-! ### CLEAR_FAULTS whole, R168, R169 -/

section
variable (s : State) (set : BitVec 12) (x : Sensed)

@[simp] theorem State.clearFaults_elem : (s.clearFaults set x).elem = (s.facesCleared set x).elem := by
  simp [State.clearFaults_eq]

theorem State.clearFaults_channels (f : Face) : (s.clearFaults set x).channels f = (s.facesCleared set x).channels f :=
  State.channels_of_elem (s.clearFaults_elem set x) f

/-- The node's tests, which follow the four steps, clear at most the merge-lost latch of a face, R117. -/
theorem State.clearFaults_face (f : Face) :
    ∃ m, (s.clearFaults set x).face f = { (s.facesCleared set x).face f with mergeLost := m } := by
  obtain ⟨m, hm⟩ :=
    (((s.facesCleared set x).clearLatches set).relatchAll set s.faces.e.latch s.faces.w.latch).nodeTests_face f
  have hface : (((s.facesCleared set x).clearLatches set).relatchAll set s.faces.e.latch s.faces.w.latch).face f =
      (s.facesCleared set x).face f := State.face_of_faces (by simp) f
  exact ⟨m, by rw [State.clearFaults_eq, hm, hface]⟩

/-- An unnamed class keeps its latch; a named one is left standing where its condition holds. -/
theorem State.clearFaults_latched (c : FaultClass) : (s.clearFaults set x).latched c =
    if hasClass set c then (s.facesCleared set x).condition s.faces.e.latch s.faces.w.latch c else s.latched c := by
  have hcond : ((s.facesCleared set x).clearLatches set).condition s.faces.e.latch s.faces.w.latch c =
      (s.facesCleared set x).condition s.faces.e.latch s.faces.w.latch c :=
    State.condition_congr _ _ (by simp) (by simp) (by simp) (by simp) (by simp) c
  rw [State.clearFaults_eq, State.latched_congr (State.nodeTests_fault _), State.relatchAll_latched,
    State.clearLatches_latched, hcond, State.latched_congr (s.facesCleared_fault set x)]
  cases hasClass set c <;> simp

@[simp] theorem State.clearFaults_masks : (s.clearFaults set x).fault.masks = s.fault.masks := by
  simp [State.clearFaults_eq, State.clearLatches]

@[simp] theorem State.clearFaults_superseded : (s.clearFaults set x).fault.superseded = s.fault.superseded := by
  simp [State.clearFaults_eq, State.clearLatches]

theorem State.clearFaults_details (f : Face) : (s.clearFaults set x).details f =
    detailsAfter (s.details f) ((s.clearFaults set x).channels f) set := by
  have hnode (t : State) : t.nodeTests.details f = t.details f := by cases f <;> simp [State.details]
  have hfirst : (s.facesCleared set x).details f = s.details f := by cases f <;> simp [State.details]
  rw [s.clearFaults_channels set x f, State.clearFaults_eq, hnode, State.relatchAll_details, State.clearLatches_details,
    hfirst]

theorem State.clearFaults_shutter (f : Face) (k : Shutter) : (s.clearFaults set x).shutter f k =
    if hasClass set .element then (s.shutter f k).clear (s.measureShutter f k (shutterSense (faceSense x f) k))
    else s.shutter f k := by
  rw [State.shutter_of_channels (s.clearFaults_channels set x f), State.facesCleared_shutter, State.clearChannels_shutter]

theorem State.clearFaults_shutterDetail (f : Face) (k : Shutter) : ((s.clearFaults set x).details f).shutter k =
    if hasClass set .element then shutterDetailAfter ((s.clearFaults set x).shutter f k)
    else (s.details f).shutter k := by
  rw [State.clearFaults_details, detailsAfter_shutter]
  rfl

theorem State.clearFaults_lampDetail (f : Face) : ((s.clearFaults set x).details f).lamp =
    if hasClass set .lamp then lampDetailAfter ((s.clearFaults set x).lamp f) else (s.details f).lamp := by
  rw [State.clearFaults_details]
  rfl

/-- The relight leaves a lamp's last fault, and whether it is BLOCKED, as step 1 left them. -/
theorem State.clearFaults_lamp (f : Face) :
    ((s.clearFaults set x).lamp f).lastFault = ((s.clearChannels set x).lamp f).lastFault ∧
      (((s.clearFaults set x).lamp f).state = .blocked ↔ ((s.clearChannels set x).lamp f).state = .blocked) := by
  obtain ⟨v, -, -, hchannels, hafter, -⟩ := s.facesCleared_local set x f
  obtain ⟨hfault, hblocked⟩ := v.clearNamedFace_lamp f set
  rw [State.lamp_of_channels ((s.clearFaults_channels set x f).trans hafter), hfault, hblocked,
    State.lamp_of_channels hchannels]
  exact ⟨rfl, Iff.rfl⟩

end

/-! ### A face after CLEAR_FAULTS, R20 -/

/-- `t` is a node after a CLEAR_FAULTS on `s` that names the latch of face `f`, and `v` the node on which that latch is cleared by
R20: it holds the face's record as it was before the command. -/
structure State.ClearsFace (s t : State) (f : Face) (v : State) : Prop where
  node : v.node = s.node
  face : v.face f = s.face f
  lit : (v.lamp f).state = .lit ↔ (s.lamp f).state = .lit
  anyBlocked : t.anyBlocked f = v.anyBlocked f
  allOff : t.allOff f = v.allOff f
  lampBlocked : (t.lamp f).state = .blocked ↔ (v.lamp f).state = .blocked
  lamp : t.lamp f = (v.clearFace f).lamp f
  record : ∃ m, t.face f = { (v.clearFace f).face f with mergeLost := m }

namespace State.ClearsFace

variable {s t v : State} {f : Face} (h : s.ClearsFace t f v)
include h

theorem not_dark (hd : (s.face f).steadyDark = false) :
    t.face f = { s.face f with latch := .none, mergeLost := (t.face f).mergeLost } := by
  obtain ⟨m, hm⟩ := h.record
  rw [State.clearFace_not_dark (by rwa [h.face]), State.setFace_face, h.face] at hm
  rw [hm]

variable (hd : (s.face f).steadyDark = true)
include hd

theorem shutter_blocked (hb : t.anyBlocked f = true) : (t.face f).steadyDark = true ∧ (t.face f).latch = .element ∧
    ((t.lamp f).state = .off ∨ (t.lamp f).state = .blocked) := by
  obtain ⟨m, hm⟩ := h.record
  have heq := State.clearFace_shutterBlocked (by rwa [h.face]) (h.anyBlocked.symm.trans hb)
  rw [heq, State.setFace_face, h.face] at hm
  have hlamp : (t.lamp f).state = if (v.lamp f).state = .blocked then .blocked else .off := by
    rw [h.lamp, heq, State.setFace_lamp, State.lampOff_lamp, LampChannel.turnOff_state]
  refine ⟨by rw [hm]; exact hd, by rw [hm], ?_⟩
  rw [hlamp]
  split <;> simp

theorem lamp_blocked (hb : t.anyBlocked f = false) (hl : (t.lamp f).state = .blocked) :
    (t.face f).steadyDark = true ∧ (t.face f).latch = .lamp := by
  obtain ⟨m, hm⟩ := h.record
  rw [State.clearFace_lampBlocked (by rwa [h.face]) (h.anyBlocked.symm.trans hb) (h.lampBlocked.mp hl),
    State.setFace_face, h.face] at hm
  exact ⟨by rw [hm]; exact hd, by rw [hm]⟩

theorem waits (hb : t.anyBlocked f = false) (ho : t.allOff f = false) (hl : (t.lamp f).state ≠ .blocked) :
    (t.face f).steadyDark = true ∧ (t.face f).latch = .none ∧ (t.face f).relightAwaited =
      ((s.face f).relightAwaited || s.node.state != .maintenance || s.node.ending) := by
  obtain ⟨m, hm⟩ := h.record
  rw [State.clearFace_active (by rwa [h.face]) (h.anyBlocked.symm.trans hb) (h.allOff.symm.trans ho)
    (mt h.lampBlocked.mpr hl), State.setFace_face, h.face, h.node] at hm
  exact ⟨by rw [hm]; exact hd, by rw [hm], by rw [hm]⟩

variable (ho : t.allOff f = true)
include ho

theorem relit (hl : (s.lamp f).state = .lit) :
    (t.face f).latch = .none ∧ (t.face f).steadyClosed = true ∧ (t.lamp f).state = .lit := by
  obtain ⟨m, hm⟩ := h.record
  have hlit : (v.lamp f).state = .lit := h.lit.mpr hl
  obtain ⟨p, hp⟩ := State.clearFace_lit (by rwa [h.face]) (h.allOff.symm.trans ho) hlit
  rw [hp, State.setFace_face] at hm
  refine ⟨by rw [hm], by rw [hm]; rfl, ?_⟩
  rw [h.lamp, hp, State.setFace_lamp, hlit]

theorem relights (hb : (t.lamp f).state ≠ .blocked) (hl : (s.lamp f).state ≠ .lit) :
    (t.face f).latch = .none ∧ (t.lamp f).state = .ramping ∧ (t.face f).state = .changing ∧
      (t.face f).change = some ⟨.dark, .closed, .one⟩ ∧ (t.face f).env = ⟨0, 2⟩ := by
  obtain ⟨m, hm⟩ := h.record
  have hv : (v.lamp f).state = .off ∨ (v.lamp f).state = .ramping := by
    have hblocked := mt h.lampBlocked.mpr hb
    have hlit := mt h.lit.mp hl
    cases hs : (v.lamp f).state <;> simp_all
  obtain ⟨c, hc, -, heq⟩ := State.clearFace_ramps (by rwa [h.face]) (h.allOff.symm.trans ho) hv
  rw [heq, State.setFace_face] at hm
  refine ⟨by rw [hm], ?_, by rw [hm], by rw [hm], by rw [hm]⟩
  rw [h.lamp, heq, State.setFace_lamp, State.setLamp_lamp, hc]

end State.ClearsFace

section
variable (s : State) (set : BitVec 12) (x : Sensed) (f : Face)

/-- A face whose latch is not named keeps its record, less the merge-lost latch. -/
theorem State.clearFaults_unnamed (hn : ¬ (s.face f).latch.named set = true) :
    (s.clearFaults set x).face f = { s.face f with mergeLost := ((s.clearFaults set x).face f).mergeLost } := by
  obtain ⟨v, -, hface, -, -, hafter⟩ := s.facesCleared_local set x f
  obtain ⟨m, hm⟩ := s.clearFaults_face set x f
  rw [hafter, State.clearNamedFace_unnamed _ _ _ (by rwa [hface]), hface] at hm
  rw [hm]

/-- A face whose latch is named goes by the table of R20. -/
theorem State.clearFaults_named (hn : (s.face f).latch.named set = true) :
    ∃ v, s.ClearsFace (s.clearFaults set x) f v := by
  obtain ⟨v, hnode, hface, hchannels, hafter, hrecord⟩ := s.facesCleared_local set x f
  have hch := (s.clearFaults_channels set x f).trans hafter
  have hshutter (k : Shutter) : (s.clearFaults set x).shutter f k = v.shutter f k := by
    rw [State.shutter_of_channels hch, State.clearNamedFace_shutter]
  obtain ⟨-, hblocked⟩ := v.clearNamedFace_lamp f set
  obtain ⟨m, hm⟩ := s.clearFaults_face set x f
  have hclear := v.clearNamedFace_named f set (by rwa [hface])
  refine ⟨v, { node := hnode, face := hface, lit := ?_, anyBlocked := ?_, allOff := ?_, lampBlocked := ?_, lamp := ?_,
               record := ⟨m, ?_⟩ }⟩
  · rw [State.lamp_of_channels hchannels, State.clearChannels_lamp]
    split
    · exact LampChannel.clear_lit_iff _ _
    · exact Iff.rfl
  · rw [Bool.eq_iff_iff, State.anyBlocked_iff, State.anyBlocked_iff]
    simp [hshutter]
  · rw [Bool.eq_iff_iff, State.allOff_iff, State.allOff_iff]
    simp [hshutter]
  · rw [State.lamp_of_channels hch, hblocked]
  · rw [State.lamp_of_channels hch, hclear]
  · rw [hm, hrecord, hclear]

/-- The face's record and channels by R20's table, as the statement lists them. -/
theorem State.clearFaults_dark (hn : (s.face f).latch.named set = true) (hd : (s.face f).steadyDark = true) {t : State}
    (ht : t = s.clearFaults set x) :
    (t.anyBlocked f = true → (t.face f).steadyDark = true ∧ (t.face f).latch = .element ∧
      ((t.lamp f).state = .off ∨ (t.lamp f).state = .blocked)) ∧
    (t.anyBlocked f = false → (t.lamp f).state = .blocked → (t.face f).steadyDark = true ∧ (t.face f).latch = .lamp) ∧
    (t.allOff f = true → (t.lamp f).state ≠ .blocked → (t.face f).latch = .none ∧
      ((s.lamp f).state = .lit → (t.face f).steadyClosed = true ∧ (t.lamp f).state = .lit) ∧
      ((s.lamp f).state ≠ .lit → (t.lamp f).state = .ramping ∧ (t.face f).state = .changing ∧
        (t.face f).change = some ⟨.dark, .closed, .one⟩ ∧ (t.face f).env = ⟨0, 2⟩)) ∧
    (t.anyBlocked f = false → t.allOff f = false → (t.lamp f).state ≠ .blocked →
      (t.face f).steadyDark = true ∧ (t.face f).latch = .none ∧ (t.face f).relightAwaited =
        ((s.face f).relightAwaited || s.node.state != .maintenance || s.node.ending)) := by
  obtain ⟨v, h⟩ := s.clearFaults_named set x f hn
  rw [← ht] at h
  refine ⟨h.shutter_blocked hd, h.lamp_blocked hd, fun ho hb => ?_, h.waits hd⟩
  by_cases hl : (s.lamp f).state = .lit
  · obtain ⟨hlatch, hclosed, hlamp⟩ := h.relit hd ho hl
    exact ⟨hlatch, fun _ => ⟨hclosed, hlamp⟩, fun hdark => absurd hl hdark⟩
  · obtain ⟨hlatch, hrest⟩ := h.relights hd ho hb hl
    exact ⟨hlatch, fun hlit => absurd hlit hl, fun _ => hrest⟩

end

/-! ### The conditions of R169 as CLEAR_FAULTS leaves the node -/

section
variable (s : State) (set : BitVec 12) (x : Sensed)

theorem State.nodeTests_supply (s : State) : s.nodeTests.sup.supply = s.sup.supply := by
  unfold State.nodeTests
  (repeat' split) <;> rfl

theorem State.clearFaults_supply : (s.clearFaults set x).sup.supply = s.sup.supply := by
  rw [State.clearFaults_eq, State.nodeTests_supply]
  simp

/-- The node's tests change what one condition reads alone: the merge-lost latches. -/
theorem State.clearFaults_condition (be bw : FaceLatch) {c : FaultClass} (hc : c ≠ .merge) :
    (s.facesCleared set x).condition be bw c = (s.clearFaults set x).condition be bw c := by
  have hblocked (f : Face) : (s.clearFaults set x).anyBlocked f = (s.facesCleared set x).anyBlocked f :=
    State.anyBlocked_congr (s.clearFaults_channels set x f)
  have hlamp (f : Face) := State.lamp_of_channels (s.clearFaults_channels set x f)
  have hclosed (f : Face) : ((s.clearFaults set x).face f).steadyClosed = ((s.facesCleared set x).face f).steadyClosed := by
    obtain ⟨m, hm⟩ := s.clearFaults_face set x f
    rw [hm]
    rfl
  have hstalled (f : Face) : (s.clearFaults set x).stalled f = (s.facesCleared set x).stalled f := by
    obtain ⟨m, hm⟩ := s.clearFaults_face set x f
    simp [State.stalled, hm]
  have hback (b l : FaceLatch) (f : Face) :
      notBack b l ((s.clearFaults set x).face f) = notBack b l ((s.facesCleared set x).face f) := by
    rw [notBack, notBack, hclosed]
  cases c with
  | element =>
    simp only [State.condition, hblocked]
    exact congrArg₂ _ (congrArg₂ _ rfl (hback be .element .e).symm) (hback bw .element .w).symm
  | lamp =>
    simp only [State.condition, hlamp]
    exact congrArg₂ _ (congrArg₂ _ rfl (hback be .lamp .e).symm) (hback bw .lamp .w).symm
  | stall => simp only [State.condition, hstalled]
  | supply => simp [State.condition, State.clearFaults_supply]
  | wrap => simp [State.condition]
  | merge => exact absurd rfl hc
  | line | illegal | position | sequence | plan | store => rfl

/-- A named class other than MERGE stands exactly where its condition holds on the node as the command leaves it. -/
theorem State.clearFaults_stands {c : FaultClass} (hset : hasClass set c = true) (hc : c ≠ .merge) :
    (s.clearFaults set x).latched c = (s.clearFaults set x).condition s.faces.e.latch s.faces.w.latch c := by
  rw [State.clearFaults_latched, if_pos hset, State.clearFaults_condition s set x _ _ hc]

/-- MERGE goes by the merge-lost latches before the command (log 45). -/
theorem State.clearFaults_merge (hset : hasClass set .merge = true) : (s.clearFaults set x).latched .merge =
    (s.faces.e.mergeLost.isSome || s.faces.w.mergeLost.isSome) := by
  have he : (s.facesCleared set x).faces.e.mergeLost = s.faces.e.mergeLost := s.facesCleared_mergeLost set x .e
  have hw : (s.facesCleared set x).faces.w.mergeLost = s.faces.w.mergeLost := s.facesCleared_mergeLost set x .w
  rw [State.clearFaults_latched, if_pos hset, State.condition, he, hw]

end

/-! ### The node as handed to the command, R67, R140 -/

section
variable (s : State) (c : Cmd)

/-- Abandoning a sequence sets a latch and leaves the rest of the fault block. -/
theorem State.handed_faultRest : (s.handed c).fault = { s.fault with latches := (s.handed c).fault.latches } := by
  unfold State.handed State.abandonSequence
  split <;> rfl

@[simp] theorem State.handed_masks : (s.handed c).fault.masks = s.fault.masks := by rw [State.handed_faultRest]
@[simp] theorem State.handed_superseded : (s.handed c).fault.superseded = s.fault.superseded := by
  rw [State.handed_faultRest]

theorem State.handed_details (f : Face) : (s.handed c).details f = s.details f := by
  cases f <;> rw [State.details, State.details, s.handed_faultRest c]

theorem State.handed_measureShutter (f : Face) (k : Shutter) (raw : Nat) :
    (s.handed c).measureShutter f k raw = s.measureShutter f k raw := by
  simp [State.measureShutter, State.trims]

theorem State.handed_measureLamp (f : Face) (raw : Nat) : (s.handed c).measureLamp f raw = s.measureLamp f raw := by
  simp [State.measureLamp, State.trims]

end

/-! ### The statement -/

/-- SET_MASKS whole, R167. -/
theorem exec_setMasks {s : State} {x : CommandPayload} (h : s.executes .setMasks x = true) :
    (x.arg.toNat < 4096 → exec (.setMasks x) s = .next (({ s.handed .setMasks with
      fault := { (s.handed .setMasks).fault with masks := x.arg.setWidth 12 }
      store :=
        if s.store.site.valid then
          { s.store with site := { s.store.site with
            fields := { s.store.site.fields with masks := x.arg.setWidth 12 } } }
        else s.store } : State).sendReply .setMasks x (.done []))) ∧
    (4096 ≤ x.arg.toNat →
      exec (.setMasks x) s = .next ((s.handed .setMasks).sendReply .setMasks x (.refused .argument []))) := by
  have harg : argWord (Cmd.setMasks.argsOf x.body) 0 = x.arg := argWord_argsOf x (by decide)
  exact ⟨fun hset => exec_effect rfl h (by decide) (setMasks_done harg (s.handed_store .setMasks) hset)
      (s.handed_phase .setMasks),
    fun hset => exec_answers rfl h (by decide) (setMasks_refused harg hset)⟩

/-- The reply of CLEAR_FAULTS and the latches it leaves, R168, R169. -/
theorem exec_clearFaults {s t : State} {x : CommandPayload} {sense : Sensed} (h : s.executes .clearFaults x = true)
    (ht : t = (s.handed .clearFaults).clearFaults (x.arg.setWidth 12) sense) :
    (4096 ≤ x.arg.toNat → exec (.clearFaults x sense) s =
      .next ((s.handed .clearFaults).sendReply .clearFaults x (.refused .argument []))) ∧
    (x.arg = 0 →
      exec (.clearFaults x sense) s = .next ((s.handed .clearFaults).sendReply .clearFaults x (.done []))) ∧
    (x.arg ≠ 0 → x.arg.toNat < 4096 →
      exec (.clearFaults x sense) s = .next (t.sendReply .clearFaults x (.done []))) := by
  have harg : argWord (Cmd.clearFaults.argsOf x.body) 0 = x.arg := argWord_argsOf x (by decide)
  refine ⟨fun hset => exec_answers rfl h (by decide) (clearFaults_refused harg sense hset),
    fun hz => exec_answers rfl h (by decide) (clearFaults_nothing harg sense hz), fun hz hset => ?_⟩
  refine exec_effect rfl h (by decide) ((clearFaults_done harg sense hz hset).trans (by rw [← ht])) ?_
  rw [ht, State.clearFaults_phase, State.handed_phase]

section
variable {s t : State} {set : BitVec 12} {x : Sensed} (ht : t = s.clearFaults set x) (f : Face)
include ht

/-- A shutter named or not, R34, R165, R169. -/
theorem State.clearFaults_shutter_outcome (k : Shutter) {now : Nat}
    (hnow : now = s.measureShutter f k (shutterSense (faceSense x f) k)) :
    (hasClass set .element = false →
      t.shutter f k = s.shutter f k ∧ (t.details f).shutter k = (s.details f).shutter k) ∧
    (hasClass set .element = true →
      ((s.shutter f k).state = .blocked → now ≠ 0 →
        (t.shutter f k).state = .blocked ∧ (t.shutter f k).lastFault = (s.shutter f k).lastFault ∧
        (t.details f).shutter k = ⟨(s.shutter f k).lastFault.kindBit, (s.shutter f k).lastFault, 1⟩) ∧
      ((s.shutter f k).state ≠ .blocked ∨ now = 0 →
        (t.shutter f k).state = (if (s.shutter f k).state = .blocked then .off else (s.shutter f k).state) ∧
        (t.shutter f k).lastFault = .none ∧ (t.details f).shutter k = ⟨0, .none, 0⟩)) := by
  have hdetail := s.clearFaults_shutterDetail set x f k
  have hshutter := s.clearFaults_shutter set x f k
  rw [← ht] at hdetail hshutter
  rw [← hnow] at hshutter
  refine ⟨fun hn => ?_, fun hn => ⟨fun hb hc => ?_, fun hc => ?_⟩⟩
  · simp [hdetail, hshutter, hn]
  · rw [if_pos hn, ShutterChannel.clear_current hb hc] at hshutter
    rw [if_pos hn, hshutter, shutterDetailAfter, if_pos hb] at hdetail
    rw [hshutter]
    exact ⟨hb, rfl, hdetail⟩
  · obtain ⟨hstate, hfault⟩ := ShutterChannel.clear_rests hc
    rw [if_pos hn] at hshutter hdetail
    have hfree : ¬ (t.shutter f k).state = .blocked := by
      rw [hshutter, hstate]
      split <;> simp [*]
    rw [shutterDetailAfter, if_neg hfree] at hdetail
    rw [hshutter]
    exact ⟨hstate, hfault, hdetail⟩

/-- A lamp named or not, R37, R165, R169. -/
theorem State.clearFaults_lamp_outcome {lit : Nat} (hlit : lit = s.measureLamp f (faceSense x f).lamp) :
    (hasClass set .lamp = false → (t.details f).lamp = (s.details f).lamp ∧
      (t.lamp f).lastFault = (s.lamp f).lastFault) ∧
    (hasClass set .lamp = true →
      ((s.lamp f).state = .blocked → lit ≠ 0 →
        (t.lamp f).state = .blocked ∧ (t.lamp f).lastFault = (s.lamp f).lastFault ∧
        (t.details f).lamp = ⟨(s.lamp f).lastFault.kindBit, (s.lamp f).lastFault, 1⟩) ∧
      ((s.lamp f).state ≠ .blocked ∨ lit = 0 →
        (t.lamp f).state ≠ .blocked ∧ (t.lamp f).lastFault = .none ∧ (t.details f).lamp = ⟨0, .none, 0⟩)) := by
  have hdetail := s.clearFaults_lampDetail set x f
  obtain ⟨hfault, hblocked⟩ := s.clearFaults_lamp set x f
  rw [State.clearChannels_lamp] at hfault hblocked
  rw [← ht] at hdetail hfault hblocked
  rw [← hlit] at hfault hblocked
  refine ⟨fun hn => ?_, fun hn => ⟨fun hb hc => ?_, fun hc => ?_⟩⟩
  · simp [hdetail, hfault, hn]
  · rw [if_pos hn, LampChannel.clear_current hb hc] at hfault hblocked
    have hstays : (t.lamp f).state = .blocked := hblocked.mpr hb
    rw [if_pos hn, lampDetailAfter, if_pos hstays, hfault] at hdetail
    exact ⟨hstays, hfault, hdetail⟩
  · obtain ⟨hfree, hnone⟩ := LampChannel.clear_rests hc
    rw [if_pos hn] at hfault hblocked hdetail
    have hstate := mt hblocked.mp hfree
    rw [lampDetailAfter, if_neg hstate] at hdetail
    exact ⟨hstate, hfault.trans hnone, hdetail⟩

end

/-- Settles O21: SET_MASKS by its argument; CLEAR_FAULTS by its steps: the latches by the conditions as the command leaves the
node, each channel by its own clear, each face by the table of R20. -/
theorem masksAndClearsTakeTwelveClasses : Obligations.MasksAndClearsTakeTwelveClasses := by
  unfold Obligations.MasksAndClearsTakeTwelveClasses
  refine ⟨fun s x h => exec_setMasks h, fun s t x sense c h ht => ?_, fun s t x sense f k now lit h hz hset ht hnow hlit => ?_⟩
  · obtain ⟨hrefused, hnothing, hdone⟩ := exec_clearFaults h ht
    refine ⟨hrefused, hnothing, fun hz hset => ⟨hdone hz hset, fun hn => ?_, fun hn => ?_, ?_⟩⟩
    · rw [← hasClass_setWidth] at hn
      rw [ht, State.clearFaults_latched, if_neg (by simp [hn])]
    · rw [← hasClass_setWidth] at hn
      have hstands (hc : c ≠ .merge) : t.latched c = t.condition s.faces.e.latch s.faces.w.latch c := by
        rw [ht, State.clearFaults_stands _ _ _ hn hc, State.handed_faces]
      have hsupply : t.sup.supply = s.sup.supply := by rw [ht, State.clearFaults_supply, State.handed_sup]
      have hrole : t.line.role = s.line.role := by
        rw [ht, State.clearFaults_line, State.handed_line, State.received_role]
      refine ⟨?_, ?_, ?_, ?_, ?_, ?_, ?_⟩
      · rintro (rfl | rfl | rfl | rfl | rfl | rfl) <;> exact hstands (by decide)
      · rintro rfl
        exact hstands (by decide)
      · rintro rfl
        rw [← hsupply]
        exact hstands (by decide)
      · rintro rfl
        rw [← hrole]
        exact hstands (by decide)
      · rintro rfl
        rw [ht, State.clearFaults_merge _ _ _ hn, State.handed_faces]
      · rintro rfl
        exact hstands (by decide)
      · rintro rfl
        exact hstands (by decide)
    · rw [ht]
      simp
  · have hclasses := hasClass_setWidth x.arg
    have hshutter := State.clearFaults_shutter_outcome ht f k (now := now) (by rw [hnow, State.handed_measureShutter])
    have hlamp := State.clearFaults_lamp_outcome ht f (lit := lit) (by rw [hlit, State.handed_measureLamp])
    have hnamed := FaceLatch.named_iff (x.arg.setWidth 12) (s.face f).latch
    simp only [State.handed_shutter, State.handed_lamp, State.handed_details, hclasses] at hshutter hlamp
    simp only [hclasses] at hnamed
    refine ⟨hshutter.1, hshutter.2, hlamp.1, hlamp.2, fun hn => ⟨fun hd => ?_, fun hd => ?_⟩, fun hn => ?_⟩
    · obtain ⟨v, hv⟩ := (s.handed .clearFaults).clearFaults_named (x.arg.setWidth 12) sense f
        (by rw [State.handed_face]; exact hnamed.mpr hn)
      have hface := hv.not_dark (by rwa [State.handed_face])
      rwa [← ht, State.handed_face] at hface
    · have hdark := State.clearFaults_dark _ _ _ f (by rw [State.handed_face]; exact hnamed.mpr hn)
        (by rwa [State.handed_face]) ht
      rwa [State.handed_face, State.handed_lamp, State.handed_node] at hdark
    · have hface := (s.handed .clearFaults).clearFaults_unnamed (x.arg.setWidth 12) sense f
        (by rw [State.handed_face]; exact mt hnamed.mp hn)
      rwa [← ht, State.handed_face] at hface

end Sys2Proof.Machine
end

section
/-! The lane-type vote (O5), what start-up loads and how it ends its settle (O4): R24, R177, R181, R186-R189. -/

namespace Sys2Proof.Machine

/-! ### The lane-type vote, R188 -/

/-- Every code but 0 names a lane type, R194. -/
theorem LaneType.ofCode_of_ne_zero {v : BitVec 2} (h : v ≠ 0#2) :
    LaneType.ofCode v = some ((LaneType.ofCode v).getD .none) := by
  revert v
  decide

theorem laneVote_allEqual {v : BitVec 2} (h : v ≠ 0#2) :
    laneVote v v v = ⟨(LaneType.ofCode v).getD .none, none, .allEqual⟩ := by
  simp [laneVote, h]

/-- Two copies agree on a valid code and the third differs. -/
theorem laneVote_majority {a b c v : BitVec 2} (hv : v ≠ 0#2)
    (h : (a = v ∧ b = v ∧ c ≠ v) ∨ (a = v ∧ c = v ∧ b ≠ v) ∨ (b = v ∧ c = v ∧ a ≠ v)) :
    laneVote a b c = ⟨(LaneType.ofCode v).getD .none, some v, .majority⟩ := by
  obtain ⟨rfl, rfl, hc⟩ | ⟨rfl, rfl, hb⟩ | ⟨rfl, rfl, ha⟩ := h
  · simp [laneVote, hv, Ne.symm hc]
  · simp [laneVote, hv, Ne.symm hb]
  · simp [laneVote, hv, ha]

/-- No two copies agree on a valid code. -/
theorem laneVote_failed {a b c : BitVec 2} (ha : ¬(a ≠ 0 ∧ (a = b ∨ a = c))) (hb : ¬(b ≠ 0 ∧ b = c)) :
    laneVote a b c = ⟨.none, none, .failed⟩ := by
  have hab : ¬(a = b ∧ a ≠ 0) := fun h => ha ⟨h.2, .inl h.1⟩
  have hac : ¬(a = c ∧ a ≠ 0) := fun h => ha ⟨h.2, .inr h.1⟩
  have hbc : ¬(b = c ∧ b ≠ 0) := fun h => hb h.symm
  have hall : ¬((a = b ∧ b = c) ∧ a ≠ 0) := fun h => hab ⟨h.1.1, h.2⟩
  simp only [laneVote, Bool.and_eq_true, decide_eq_true_eq, if_neg hall, if_neg hab, if_neg hac, if_neg hbc]

/-- Settles O5: the three cases of R188 by how many valid copies agree. -/
theorem laneVoteTakesTheMajority : Obligations.LaneVoteTakesTheMajority := by
  unfold Obligations.LaneVoteTakesTheMajority
  intro a b c v
  refine ⟨?_, fun hv hmajority => ?_, fun ha hb => ?_⟩
  · rintro hv ⟨rfl, rfl, rfl⟩
    rw [laneVote_allEqual hv]
    exact ⟨rfl, LaneType.ofCode_of_ne_zero hv, rfl⟩
  · rw [laneVote_majority hv hmajority]
    exact ⟨rfl, LaneType.ofCode_of_ne_zero hv, rfl⟩
  · rw [laneVote_failed ha hb]
    exact ⟨rfl, rfl, rfl⟩

/-! ### Each load, R186, R187 -/

/-- An image as start-up judges it, R181, R187. -/
def Image.judged {α : Type} (x : Image α) (test : α → Bool) : Image α :=
  { x with state := if (x.sound test).isSome then .valid else .invalid }

theorem Image.judged_valid {α : Type} {x : Image α} {test : α → Bool} {c : α} (h : x.sound test = some c) :
    (x.judged test).state = .valid := by simp [Image.judged, h]

theorem Image.judged_invalid {α : Type} {x : Image α} {test : α → Bool} (h : x.sound test = none) :
    (x.judged test).state = .invalid := by simp [Image.judged, h]

/-- The working site record from the content that start-up found valid, R187, R188. -/
def WorkingSite.loaded : Option SiteRecord → WorkingSite
  | none => .notValid
  | some x =>
    let v := laneVote x.lane1 x.lane2 x.lane3
    ⟨true, x.voted v, v.laneType, v.outcome⟩

/-- The load of the site image sets STORE: no valid image, or a vote that is not ALL_EQUAL, R187, R188. -/
def siteLatches (found : Option SiteRecord) : Bool :=
  found.all fun x => decide ((laneVote x.lane1 x.lane2 x.lane3).outcome ≠ .allEqual)

/-- The load of the face-configuration image sets STORE: no valid image, or a fitted flag that the face build does not support,
R187. -/
def StorageBlock.configsLatch (b : StorageBlock) (found : Option StoredConfigs) : Bool :=
  found.all fun c => b.supported .e c.e ≠ c.e || b.supported .w c.w ≠ c.w

section
variable (s : State)

theorem State.loadIdentity_store :
    s.loadIdentity.store = { s.store with identityOk := s.store.identity.checkOk } := by simp [State.loadIdentity]

theorem State.loadCalibration_store :
    s.loadCalibration.store = { s.store with trimsInUse := s.store.calibration.checkOk } := by
  simp [State.loadCalibration]

theorem State.loadSite_store : s.loadSite.store = { s.store with
    site := .loaded (s.store.siteImage.sound s.store.siteTest)
    siteImage := s.store.siteImage.judged s.store.siteTest } := by
  cases h : s.store.siteImage.sound s.store.siteTest <;>
    simp [State.loadSite, h, Image.judged, WorkingSite.loaded, State.setMasks]

theorem State.loadConfigs_store :
    s.loadConfigs.store = { s.store with faceImage := s.store.faceImage.judged configTest } := by
  cases h : s.store.faceImage.sound configTest <;> simp [State.loadConfigs, h, Image.judged]

theorem State.loadPlan_store :
    s.loadPlan.store = { s.store with planImage := s.store.planImage.judged planTest } := by
  cases h : s.store.planImage.sound planTest <;> simp [State.loadPlan, h, Image.judged]

theorem State.loadLocks_store :
    s.loadLocks.store = { s.store with lockImage := s.store.lockImage.judged lockTest } := by
  cases h : s.store.lockImage.sound lockTest <;> simp [State.loadLocks, h, Image.judged]

/-! What the loads bring into the other blocks. -/

theorem State.loadConfigs_elem : s.loadConfigs.elem = { s.elem with
    cfgE := (s.store.faceImage.sound configTest).elim .default fun c => s.store.supported .e c.e
    cfgW := (s.store.faceImage.sound configTest).elim .default fun c => s.store.supported .w c.w } := by
  cases h : s.store.faceImage.sound configTest <;> simp [State.loadConfigs, h]

theorem State.loadPlan_plan : s.loadPlan.plan = { s.plan with
    active := (s.store.planImage.sound planTest).elim .empty .ofEntries } := by
  cases h : s.store.planImage.sound planTest <;> simp [State.loadPlan, h]

theorem State.loadLocks_poss : s.loadLocks.poss = { s.poss with
    locks := (s.store.lockImage.sound lockTest).elim [] fun ls => ls.map StoredLock.load } := by
  cases h : s.store.lockImage.sound lockTest <;> simp [State.loadLocks, h]

/-! The fault block: the masks of a valid site image, and the STORE latch. -/

theorem State.loadIdentity_masks : s.loadIdentity.fault.masks = s.fault.masks := State.latchIf_masks _ _ _
theorem State.loadCalibration_masks : s.loadCalibration.fault.masks = s.fault.masks := State.latchIf_masks _ _ _

theorem State.loadSite_masks : s.loadSite.fault.masks =
    (s.store.siteImage.sound s.store.siteTest).elim s.fault.masks SiteRecord.masks := by
  cases h : s.store.siteImage.sound s.store.siteTest with
  | none => simp [State.loadSite, h]
  | some x =>
    simp only [State.loadSite, h]
    exact State.latchIf_masks _ _ _

theorem State.loadConfigs_masks : s.loadConfigs.fault.masks = s.fault.masks := by
  unfold State.loadConfigs; split <;> simp [State.latchIf_masks]
theorem State.loadPlan_masks : s.loadPlan.fault.masks = s.fault.masks := by
  unfold State.loadPlan; split <;> simp
theorem State.loadLocks_masks : s.loadLocks.fault.masks = s.fault.masks := by
  unfold State.loadLocks; split <;> simp

theorem State.loadIdentity_latched :
    s.loadIdentity.latched .store = (s.latched .store || !s.store.identity.checkOk) :=
  State.latchIf_latched _ _ _ .store

theorem State.loadCalibration_latched :
    s.loadCalibration.latched .store = (s.latched .store || !s.store.calibration.checkOk) :=
  State.latchIf_latched _ _ _ .store

theorem State.loadSite_latched : s.loadSite.latched .store =
    (s.latched .store || siteLatches (s.store.siteImage.sound s.store.siteTest)) := by
  cases h : s.store.siteImage.sound s.store.siteTest with
  | none => simp [State.loadSite, h, siteLatches, State.latch_latched]
  | some x =>
    simp only [State.loadSite, h]
    exact State.latchIf_latched _ _ _ .store

theorem State.loadConfigs_latched : s.loadConfigs.latched .store =
    (s.latched .store || s.store.configsLatch (s.store.faceImage.sound configTest)) := by
  cases h : s.store.faceImage.sound configTest with
  | none => simp [State.loadConfigs, h, StorageBlock.configsLatch, State.latch_latched]
  | some x =>
    simp only [State.loadConfigs, h]
    exact State.latchIf_latched _ _ _ .store

theorem State.loadPlan_latched : s.loadPlan.latched .store =
    (s.latched .store || (s.store.planImage.sound planTest).isNone) := by
  cases h : s.store.planImage.sound planTest with
  | none => simp [State.loadPlan, h, State.latch_latched]
  | some es => simp [State.loadPlan, h, State.latched]

theorem State.loadLocks_latched : s.loadLocks.latched .store =
    (s.latched .store || (s.store.lockImage.sound lockTest).isNone) := by
  cases h : s.store.lockImage.sound lockTest with
  | none => simp [State.loadLocks, h, State.latch_latched]
  | some ls => simp [State.loadLocks, h, State.latched]

/-! ### The loads together, R186 -/

theorem State.loadAll_store : s.loadAll.store = { s.store with
    identityOk := s.store.identity.checkOk, trimsInUse := s.store.calibration.checkOk
    site := .loaded s.store.siteFound
    siteImage := { s.store.siteImage with state := if s.store.siteFound.isSome then .valid else .invalid }
    faceImage := s.store.faceImage.judged configTest, planImage := s.store.planImage.judged planTest
    lockImage := s.store.lockImage.judged lockTest } := by
  rw [State.loadAll, State.loadLocks_store, State.loadPlan_store, State.loadConfigs_store, State.loadSite_store,
    State.loadCalibration_store, State.loadIdentity_store]
  rfl

theorem State.loadAll_masks : s.loadAll.fault.masks = s.store.siteFound.elim s.fault.masks SiteRecord.masks := by
  rw [State.loadAll, State.loadLocks_masks, State.loadPlan_masks, State.loadConfigs_masks, State.loadSite_masks,
    State.loadCalibration_store, State.loadIdentity_store, State.loadCalibration_masks, State.loadIdentity_masks]
  rfl

theorem State.loadAll_elem : s.loadAll.elem = { s.elem with
    cfgE := (s.store.faceImage.sound configTest).elim .default fun c => s.loadAll.store.supported .e c.e
    cfgW := (s.store.faceImage.sound configTest).elim .default fun c => s.loadAll.store.supported .w c.w } := by
  rw [State.loadAll_store, State.loadAll, State.loadLocks_elem, State.loadPlan_elem, State.loadConfigs_elem,
    State.loadSite_store, State.loadCalibration_store, State.loadIdentity_store, State.loadSite_elem,
    State.loadCalibration_elem, State.loadIdentity_elem]
  rfl

theorem State.loadAll_plan : s.loadAll.plan = { s.plan with
    active := (s.store.planImage.sound planTest).elim .empty .ofEntries } := by
  rw [State.loadAll, State.loadLocks_plan, State.loadPlan_plan, State.loadConfigs_store, State.loadSite_store,
    State.loadCalibration_store, State.loadIdentity_store]
  simp

theorem State.loadAll_poss : s.loadAll.poss = { s.poss with
    locks := (s.store.lockImage.sound lockTest).elim [] fun ls => ls.map StoredLock.load } := by
  rw [State.loadAll, State.loadLocks_poss, State.loadPlan_store, State.loadConfigs_store, State.loadSite_store,
    State.loadCalibration_store, State.loadIdentity_store]
  simp

/-- The STORE latch is set by each record or image that fails its check, R177, R187. -/
theorem State.loadAll_latched : s.loadAll.latched .store =
    (s.latched .store || !s.store.identity.checkOk || !s.store.calibration.checkOk || siteLatches s.store.siteFound ||
      s.loadAll.store.configsLatch (s.store.faceImage.sound configTest) || (s.store.planImage.sound planTest).isNone ||
      (s.store.lockImage.sound lockTest).isNone) := by
  rw [State.loadAll_store, State.loadAll, State.loadLocks_latched, State.loadPlan_latched, State.loadConfigs_latched,
    State.loadSite_latched, State.loadPlan_store, State.loadConfigs_store, State.loadSite_store,
    State.loadCalibration_latched, State.loadCalibration_store, State.loadIdentity_latched, State.loadIdentity_store]
  rfl

end

/-! ### What start-up finds of each image, R187 -/

section
variable {s : State}

theorem State.loadAll_records : s.loadAll.store.identityOk = s.store.identity.checkOk ∧
    s.loadAll.store.trimsInUse = s.store.calibration.checkOk ∧
    (s.store.identity.checkOk = false ∨ s.store.calibration.checkOk = false → s.loadAll.latched .store = true) := by
  rw [s.loadAll_latched, s.loadAll_store]
  refine ⟨rfl, rfl, ?_⟩
  rintro (h | h) <;> simp [h]

theorem State.loadAll_site_valid {x : SiteRecord} (h : s.store.siteFound = some x) :
    s.loadAll.store.siteImage.state = .valid ∧ s.loadAll.fault.masks = x.masks ∧
    s.loadAll.store.site = ⟨true, x.voted (laneVote x.lane1 x.lane2 x.lane3), (laneVote x.lane1 x.lane2 x.lane3).laneType,
      (laneVote x.lane1 x.lane2 x.lane3).outcome⟩ ∧
    ((laneVote x.lane1 x.lane2 x.lane3).outcome ≠ .allEqual → s.loadAll.latched .store = true) := by
  rw [s.loadAll_latched, s.loadAll_masks, s.loadAll_store, h]
  refine ⟨rfl, rfl, rfl, fun hv => ?_⟩
  simp [siteLatches, hv]

theorem State.loadAll_site_invalid (h : s.store.siteFound = none) :
    s.loadAll.store.siteImage.state = .invalid ∧ s.loadAll.fault.masks = s.fault.masks ∧
    s.loadAll.latched .store = true ∧ s.loadAll.store.site = ⟨false, .notValid, .none, .notHeld⟩ := by
  rw [s.loadAll_latched, s.loadAll_masks, s.loadAll_store, h]
  exact ⟨rfl, rfl, by simp [siteLatches], rfl⟩

theorem State.loadAll_configs_valid {c : StoredConfigs} (h : s.store.faceImage.sound configTest = some c) :
    s.loadAll.store.faceImage.state = .valid ∧ s.loadAll.elem.cfgE = s.loadAll.store.supported .e c.e ∧
    s.loadAll.elem.cfgW = s.loadAll.store.supported .w c.w ∧
    (s.loadAll.elem.cfgE ≠ c.e ∨ s.loadAll.elem.cfgW ≠ c.w → s.loadAll.latched .store = true) := by
  have he : s.loadAll.elem.cfgE = s.loadAll.store.supported .e c.e := by rw [s.loadAll_elem, h]; rfl
  have hw : s.loadAll.elem.cfgW = s.loadAll.store.supported .w c.w := by rw [s.loadAll_elem, h]; rfl
  refine ⟨by rw [s.loadAll_store]; exact Image.judged_valid h, he, hw, fun hcleared => ?_⟩
  have hlatch : s.loadAll.store.configsLatch (some c) = true := by
    rw [he, hw] at hcleared
    simpa [StorageBlock.configsLatch] using hcleared
  simp [s.loadAll_latched, h, hlatch]

theorem State.loadAll_configs_invalid (h : s.store.faceImage.sound configTest = none) :
    s.loadAll.store.faceImage.state = .invalid ∧ s.loadAll.elem.cfgE = .default ∧ s.loadAll.elem.cfgW = .default ∧
    s.loadAll.latched .store = true := by
  refine ⟨by rw [s.loadAll_store]; exact Image.judged_invalid h, by rw [s.loadAll_elem, h]; rfl,
    by rw [s.loadAll_elem, h]; rfl, ?_⟩
  simp [s.loadAll_latched, h, StorageBlock.configsLatch]

theorem State.loadAll_plan_valid {es : List PlanEntry} (h : s.store.planImage.sound planTest = some es) :
    s.loadAll.store.planImage.state = .valid ∧ s.loadAll.plan.active = ⟨es, bankCheck es⟩ := by
  rw [s.loadAll_plan, s.loadAll_store, h]
  exact ⟨Image.judged_valid h, rfl⟩

theorem State.loadAll_plan_invalid (h : s.store.planImage.sound planTest = none) :
    s.loadAll.store.planImage.state = .invalid ∧ s.loadAll.plan.active = ⟨[], 0xFFFF#16⟩ ∧
    s.loadAll.latched .store = true := by
  rw [s.loadAll_latched, s.loadAll_plan, s.loadAll_store, h]
  exact ⟨Image.judged_invalid h, rfl, by simp⟩

theorem State.loadAll_locks_valid {ls : List StoredLock} (h : s.store.lockImage.sound lockTest = some ls) :
    s.loadAll.store.lockImage.state = .valid ∧
    s.loadAll.poss.locks = ls.map fun l => ⟨l.id, l.faces, true, false⟩ := by
  rw [s.loadAll_poss, s.loadAll_store, h]
  exact ⟨Image.judged_valid h, rfl⟩

theorem State.loadAll_locks_invalid (h : s.store.lockImage.sound lockTest = none) :
    s.loadAll.store.lockImage.state = .invalid ∧ s.loadAll.poss.locks = [] ∧ s.loadAll.latched .store = true := by
  rw [s.loadAll_latched, s.loadAll_poss, s.loadAll_store, h]
  exact ⟨Image.judged_invalid h, rfl, by simp⟩

end

/-! ### The relights that follow, R189 -/

/-- The relight of a face writes no mask, and no class latch but LAMP. -/
theorem State.relight_fault (s : State) (f : Face) :
    (s.relight f).fault.masks = s.fault.masks ∧ (s.relight f).latched .store = s.latched .store := by
  unfold State.relight
  dsimp only
  split
  · simp [State.latched]
  · simp [State.latched]
  · simp [State.latched]
  · refine ⟨by cases f <;> rfl, ?_⟩
    rw [State.latched_congr (State.lampFault_fault _ f), State.reportLamp,
      State.latch_latched_other _ .lamp .store (by decide)]
    simp [State.latched]

/-- The end of the settle, R186, R189. -/
theorem exec_startUpSettleEnd {s : State} (h : s.phase = .settling) : exec .startUpSettleEnd s =
    .next (((s.loadAll.setPhase (.relighting false false)).relight .e).relight .w) := by
  show execStartUpSettleEnd s = _
  rw [execStartUpSettleEnd, if_pos h]

/-- Two DARK faces that await nothing, each under an OFF lamp: both relights start, R14, R189. -/
theorem State.relights_off {s : State} (hface : ∀ f, (s.face f).shown = .dark ∧ (s.face f).relightAwaited = false ∧
    (s.face f).testedWait = false) (hlamp : ∀ f, (s.lamp f).state = .off) :
    (s.relight .e).relight .w = { s with
      faces :=
        { e := { s.faces.e with state := .changing, env := ⟨0, 2⟩, change := some ⟨.dark, .closed, .one⟩ }
          w := { s.faces.w with state := .changing, env := ⟨0, 2⟩, change := some ⟨.dark, .closed, .one⟩ } }
      elem := { s.elem with
        e := { s.elem.e with lamp := { s.elem.e.lamp with state := .ramping, timer := some s.elem.cfgE.rampTime } }
        w := { s.elem.w with lamp := { s.elem.w.lamp with state := .ramping, timer := some s.elem.cfgW.rampTime } } } } := by
  obtain ⟨hde, hre, hte⟩ := hface .e
  obtain ⟨hdw, hrw, htw⟩ := hface .w
  have hwest : ((s.relight .e).face .w).shown = .dark := (congrArg _ (State.relight_face_other s .e)).trans hdw
  have hlampWest : ((s.relight .e).lamp .w).state = .off :=
    (congrArg (fun c => c.lamp.state) (State.KeepsTarget.relight (f := .e) s).otherChannels).trans (hlamp .w)
  rw [State.relight_off hwest hlampWest, State.relight_off hde (hlamp .e)]
  simp only [State.face] at hre hte hrw htw
  simp only [hre, hte, hrw, htw]
  rfl

/-- The relights of both faces leave what was loaded. -/
theorem State.relights_keep {s t : State} {ph : Phase} (ht : t = ((s.setPhase ph).relight .e).relight .w) :
    t.store = s.store ∧ t.plan = s.plan ∧ t.poss = s.poss ∧ t.elem.cfgE = s.elem.cfgE ∧ t.elem.cfgW = s.elem.cfgW ∧
      t.fault.masks = s.fault.masks ∧ t.latched .store = s.latched .store := by
  have heast := State.KeepsTarget.relight (f := .e) (s.setPhase ph)
  have hwest := State.KeepsTarget.relight (f := .w) ((s.setPhase ph).relight .e)
  obtain ⟨hmaskE, hlatchE⟩ := State.relight_fault (s.setPhase ph) .e
  obtain ⟨hmaskW, hlatchW⟩ := State.relight_fault ((s.setPhase ph).relight .e) .w
  subst ht
  exact ⟨by simp, by simp, by simp, (hwest.config .e).trans (heast.config .e), (hwest.config .w).trans (heast.config .w),
    hmaskW.trans hmaskE, hlatchW.trans hlatchE⟩

/-- Settles O4: from the state a reset leaves, both relights start under OFF lamps; from any settling state the relights write no
record that was loaded, so each image's outcome is its load's. -/
theorem startUpLoadsTheRecordsAndRelights : Obligations.StartUpLoadsTheRecordsAndRelights := by
  unfold Obligations.StartUpLoadsTheRecordsAndRelights
  refine ⟨fun s hp hok => ?_, fun s x c es ls hp => ?_⟩
  · obtain ⟨hfaces, helem, -⟩ := (State.startUpOk_early (s := s) (by rw [hp]; rfl)).mp hok
    have hface (f : Face) : (s.loadAll.setPhase (.relighting false false)).face f = .reset := by
      rw [State.face_of_faces (s := s) (by simp)]
      cases f <;> simp [State.face, hfaces]
    have hlamp (f : Face) : (s.loadAll.setPhase (.relighting false false)).lamp f = .reset := by
      have hload : s.loadAll.channels f = s.channels f := State.loadAll_channels s f
      cases f <;> simp_all [State.lamp, State.channels, ElementBlock.reset, FaceChannels.reset]
    rw [exec_startUpSettleEnd hp, State.relights_off (fun f => by rw [hface f]; exact ⟨rfl, rfl, rfl⟩)
      (fun f => by rw [hlamp f]; rfl)]
    simp [State.loadAll_elem s]
  · refine ⟨_, exec_startUpSettleEnd hp, ?_⟩
    generalize ht : ((s.loadAll.setPhase (.relighting false false)).relight .e).relight .w = t
    obtain ⟨hstore, hplan, hposs, hcfgE, hcfgW, hmasks, hlatch⟩ := State.relights_keep ht.symm
    rw [hstore, hplan, hposs, hcfgE, hcfgW, hmasks, hlatch]
    obtain ⟨hidentity, htrims, hrecords⟩ := s.loadAll_records
    exact ⟨hidentity, htrims, hrecords, State.loadAll_site_valid, State.loadAll_site_invalid,
      State.loadAll_configs_valid, State.loadAll_configs_invalid, State.loadAll_plan_valid, State.loadAll_plan_invalid,
      State.loadAll_locks_valid, State.loadAll_locks_invalid⟩

end Sys2Proof.Machine
end

section
/-! STORE, ERASE_STORE and the storage writer (O25): R146, R181-R184. -/

namespace Sys2Proof.Machine

/-! ### STORE and ERASE_STORE executed, R182-R184 -/

/-- A command that changes the storage block alone. -/
theorem exec_stored {i : Instr} {s : State} {c : Cmd} {x : CommandPayload} {r : Reply} {b : StorageBlock}
    (hi : commandOf i = some (c, x)) (h : s.executes c x = true) (hc : c ≠ .reset)
    (he : effectOf i (s.handed c) (c.argsOf x.body) = ((s.handed c).setStore b, r)) :
    exec i s = .next (({ s.handed c with store := b } : State).sendReply c x r) :=
  exec_effect hi h hc he (s.handed_phase c)

section
variable {s : State} {b : StorageBlock} (args : List Word) (hb : s.store = b)
include hb

theorem store_busy (hw : b.writer ≠ .idle) : store s args = (s, .busy) := by simp [store, hb, hw]

theorem eraseStore_busy (hw : b.writer ≠ .idle) : eraseStore s args = (s, .busy) := by simp [eraseStore, hb, hw]

/-- With a valid site record the site image comes first. -/
theorem store_site {e : ElementBlock} {p : PlanBlock} (he : s.elem = e) (hp : s.plan = p) (hw : b.writer = .idle)
    (hv : b.site.valid = true) : store s args = (s.setStore { b with
      writer := .storing ⟨some b.site.fields, ⟨e.cfgE, e.cfgW⟩, p.active.entries⟩ .site
      siteImage := ⟨.writing, none, false, false⟩ }, .done []) := by
  simp [store, State.storeBegin, State.storeCopy, Image.begin, hb, he, hp, hw, hv]

/-- Without one the face-configuration image comes first. -/
theorem store_faces {e : ElementBlock} {p : PlanBlock} (he : s.elem = e) (hp : s.plan = p) (hw : b.writer = .idle)
    (hv : b.site.valid = false) : store s args = (s.setStore { b with
      writer := .storing ⟨none, ⟨e.cfgE, e.cfgW⟩, p.active.entries⟩ .faceConfig
      faceImage := ⟨.writing, none, false, false⟩ }, .done []) := by
  simp [store, State.storeBegin, State.storeFaces, State.storeCopy, Image.begin, hb, he, hp, hw, hv]

theorem eraseStore_begins (hw : b.writer = .idle) : eraseStore s args = (s.setStore { b with
    writer := .erasing .site, siteImage := ⟨.erased, none, false, false⟩ }, .done []) := by
  simp [eraseStore, Image.erased, hb, hw]

end

/-! ### The writer finishes, R146, R182 -/

theorem State.writerIdle_clean {s : State} (h : s.poss.dirty = false) :
    s.writerIdle = s.setStore { s.store with writer := .idle } := by
  simp [State.writerIdle, State.lockWriteBegin, h]

/-- The dirty flag starts a lock-table write of the locks as they stand. -/
theorem State.writerIdle_dirty {s : State} (h : s.poss.dirty = true) : s.writerIdle = { s with
    store := { s.store with
      lockImage := ⟨.writing, none, false, false⟩
      writer := .lockWriting (s.poss.locks.map fun l => ⟨l.id, l.faces⟩) }
    poss := { s.poss with
      dirty := false, locks := s.poss.locks.map fun l => ⟨l.id, l.faces, l.durable, true⟩ } } := by
  simp only [State.writerIdle, State.lockWriteBegin, State.setStore_poss, State.setStore_store, h, beq_self_eq_true,
    Bool.and_self, if_true]
  rfl

/-! ### The completions, R146, R183, R184 -/

section
variable {s : State} {c : StoreCopy}

theorem exec_storeImageDone_site {r : SiteRecord} (hw : s.store.writer = .storing c .site) (hc : c.site = some r) :
    exec .storeImageDone s = .next { s with store := { s.store with
      writer := .storing c .faceConfig, siteImage := ⟨.valid, some r, true, true⟩
      faceImage := ⟨.writing, none, false, false⟩ } } := by
  show execStoreImageDone s = _
  simp only [execStoreImageDone, hw, State.siteStored, hc]
  rfl

theorem exec_storeImageDone_faces (hw : s.store.writer = .storing c .faceConfig) :
    exec .storeImageDone s = .next { s with store := { s.store with
      writer := .storing c .plan, faceImage := ⟨.valid, some c.cfg, true, true⟩
      planImage := ⟨.writing, none, false, false⟩ } } := by
  show execStoreImageDone s = _
  simp only [execStoreImageDone, hw]
  rfl

theorem exec_storeImageDone_plan (hw : s.store.writer = .storing c .plan) : exec .storeImageDone s =
    .next (s.setStore { s.store with planImage := ⟨.valid, some c.active, true, true⟩ }).writerIdle := by
  show execStoreImageDone s = _
  simp only [execStoreImageDone, hw]
  rfl

theorem exec_eraseImageDone_site (hw : s.store.writer = .erasing .site) :
    exec .eraseImageDone s = .next { s with store := { s.store with
      writer := .erasing .plan, planImage := ⟨.erased, none, false, false⟩ } } := by
  show execEraseImageDone s = _
  simp only [execEraseImageDone, hw]
  rfl

theorem exec_eraseImageDone_plan (hw : s.store.writer = .erasing .plan) :
    exec .eraseImageDone s = .next s.writerIdle := by
  show execEraseImageDone s = _
  simp only [execEraseImageDone, hw]

theorem exec_lockWriteDone {ls : List StoredLock} (hw : s.store.writer = .lockWriting ls) :
    exec .lockWriteDone s = .next (({ s with
      store := { s.store with lockImage := ⟨.valid, some ls, true, true⟩ }
      poss := { s.poss with
        locks := s.poss.locks.map fun l => ⟨l.id, l.faces, l.durable || l.inCopy, false⟩ } } : State).writerIdle) := by
  show execLockWriteDone s = _
  simp only [execLockWriteDone, hw]
  rfl

end

/-- Settles O25: the two commands by the writer's state, each completion by the image whose turn it was, the end of a turn by the
dirty flag. -/
theorem theWriterTakesTheImagesInTurn : Obligations.TheWriterTakesTheImagesInTurn := by
  unfold Obligations.TheWriterTakesTheImagesInTurn
  refine ⟨fun s x => ?commands, fun s c r ls hd => ?clean, fun s c ls hd => ?dirty⟩
  case commands =>
    have hs := s.handed_store .store
    have he := s.handed_store .eraseStore
    have helem := s.handed_elem .store
    have hplan := s.handed_plan .store
    exact ⟨fun h hw => exec_answers rfl h (by decide) (store_busy (Cmd.store.argsOf x.body) hs hw),
      fun h hw => exec_answers rfl h (by decide) (eraseStore_busy (Cmd.eraseStore.argsOf x.body) he hw),
      fun h hw hv => exec_stored rfl h (by decide) (store_site (Cmd.store.argsOf x.body) hs helem hplan hw hv),
      fun h hw hv => exec_stored rfl h (by decide) (store_faces (Cmd.store.argsOf x.body) hs helem hplan hw hv),
      fun h hw => exec_stored rfl h (by decide) (eraseStore_begins (Cmd.eraseStore.argsOf x.body) he hw)⟩
  case clean =>
    refine ⟨exec_storeImageDone_site, exec_storeImageDone_faces, fun hw => ?_, exec_eraseImageDone_site, fun hw => ?_,
      fun hw => ?_⟩
    · rw [exec_storeImageDone_plan hw, State.writerIdle_clean (by exact hd)]
      rfl
    · rw [exec_eraseImageDone_plan hw, State.writerIdle_clean (by exact hd)]
      rfl
    · rw [exec_lockWriteDone hw, State.writerIdle_clean (by exact hd)]
      rfl
  case dirty =>
    refine ⟨fun hw => ?_, fun hw => ?_, fun hw => ?_⟩
    · rw [exec_storeImageDone_plan hw, State.writerIdle_dirty (by exact hd)]
      rfl
    · rw [exec_eraseImageDone_plan hw, State.writerIdle_dirty (by exact hd)]
    · rw [exec_lockWriteDone hw, State.writerIdle_dirty (by exact hd)]
      simp only [List.map_map]
      rfl

end Sys2Proof.Machine
end

section
/-! WRITE_SITE (O19): R51, R53-R56, R71, R101, R179, R193. -/

namespace Sys2Proof.Machine

/-! ### The role after a WRITE_SITE, R51 -/

section
variable {s : State} {e : Bool} (arriving : Bool)

/-- An end flag that stands as the role has it leaves the role. -/
theorem State.writeRole_stands (h : e = (s.line.role == .endConfigured)) : s.writeRole e arriving = s := by
  subst h
  unfold State.writeRole
  cases s.line.role <;> rfl

/-- A new end flag takes the node to END (configured), R55. -/
theorem State.writeRole_configures (he : e = true) (hr : s.line.role ≠ .endConfigured) : s.writeRole e arriving =
    { s with line := { s.line with role := .endConfigured, rxB := ⟨.idle, []⟩ } } := by
  subst he
  have hw : s.writeRole true arriving = s.endConfigure := by
    cases h : s.line.role <;> simp_all [State.writeRole]
  rw [hw]
  rfl

/-- A withdrawn end flag over a port B that is UP takes the node to THROUGH, R54, R55. -/
theorem State.writeRole_through (he : e = false) (hr : s.line.role = .endConfigured) (hl : s.line.linkB = .up) :
    s.writeRole e arriving = { s with
      line := { s.line with role := .through, rxB := if arriving then ⟨.discarding, []⟩ else s.line.rxB } } := by
  subst he
  have hw : s.writeRole false arriving = s.through arriving := by simp [State.writeRole, hr, hl]
  rw [hw]
  cases arriving <;> rfl

/-- A withdrawn end flag over a port B that is DOWN wraps the node, R53. -/
theorem State.writeRole_wraps (he : e = false) (hr : s.line.role = .endConfigured) (hl : s.line.linkB = .down)
    (hq : s.line.outboundQueue.any QueuedFrame.carriesReset = false) : s.writeRole e arriving = { s with
      line := { s.line with role := .endWrapped, rxB := ⟨.idle, []⟩, outboundQueue := [] }
      fault := { s.fault with latches := s.fault.latches ||| 2048 } } := by
  subst he
  have hw : s.writeRole false arriving = s.wrap := by simp [State.writeRole, hr, hl]
  rw [hw, State.wrap_plain hq]
  rfl

end

/-! ### The record taken, R71, R101, R166, R179 -/

theorem State.movePlace_eq (s : State) (old new : SiteRecord) : s.movePlace old new = s.setSweep
    (if old.gantry = new.gantry ∧ old.lane = new.lane ∧ old.width = new.width then s.sweep
      else { s.sweep with downE := none, downW := none, lower := ⟨none, none⟩, upper := ⟨none, none⟩ }) := by
  by_cases h : old.gantry = new.gantry ∧ old.lane = new.lane ∧ old.width = new.width
  · rw [if_pos h, State.movePlace, if_pos (by simpa [and_assoc] using h)]
    rfl
  · rw [if_neg h, State.movePlace, if_neg (by simpa [and_assoc] using h)]

/-- An accepted record: the blocks it writes, and then the role. -/
theorem State.takeSite_eq {s : State} {y : SiteRecord} (arriving : Bool) {b : StorageBlock} {n : NodeRecord}
    {w : SweepBlock} (hb : s.store = b) (hn : s.node = n) (hw : s.sweep = w) :
    s.takeSite y arriving = ({ s with
      store := { b with site := ⟨true, y, y.givenType, .allEqual⟩ }
      node := { n with positionAgrees := n.state != .unnumbered && n.address.toNat == y.expected }
      sweep :=
        if b.site.fields.gantry = y.gantry ∧ b.site.fields.lane = y.lane ∧ b.site.fields.width = y.width then w
        else { w with downE := none, downW := none, lower := ⟨none, none⟩, upper := ⟨none, none⟩ }
      fault := { s.fault with masks := y.masks } } : State).writeRole y.endFlag arriving := by
  subst hb hn hw
  rw [State.takeSite, State.movePlace_eq]
  rfl

/-! ### WRITE_SITE judged and executed, R179 -/

section
variable {s : State} {args : List Word} {w : Word} {b : StorageBlock} (arriving : Bool) (ha : argWord args 0 = w)
  (hb : s.store = b)
include ha hb

theorem writeSite_mismatch (he : b.echoOk w = false) : writeSite arriving s args = (s, .refused .mismatch []) := by
  simp [writeSite, ha, hb, he]

/-- Words that give no record, or one with a field out of its range. -/
theorem writeSite_argument (he : b.echoOk w = true) (h : (siteOfWords args).any SiteRecord.inRange = false) :
    writeSite arriving s args = (s, .refused .argument []) := by
  cases hy : siteOfWords args with
  | none => simp [writeSite, ha, hb, he, hy]
  | some y =>
    have hr : y.inRange = false := by simpa [hy] using h
    simp [writeSite, ha, hb, he, hy, hr]

theorem writeSite_taken {y : SiteRecord} (he : b.echoOk w = true) (hy : siteOfWords args = some y)
    (hr : y.inRange = true) : writeSite arriving s args = (s.takeSite y arriving, .done []) := by
  simp [writeSite, ha, hb, he, hy, hr]

end

@[simp] theorem State.received_linkB (s : State) (p : Port) : (s.received p).line.linkB = s.line.linkB := by
  cases p <;> rfl

/-- Settles O19: the two refusals in their order, then the record taken and the role by the end flag, the role before and the link
of port B. -/
theorem writeSiteReplacesTheRecord : Obligations.WriteSiteReplacesTheRecord := by
  unfold Obligations.WriteSiteReplacesTheRecord
  intro s u x arriving y h
  have harg : argWord (Cmd.writeSite.argsOf x.body) 0 = x.arg := argWord_argsOf x (by decide)
  have hstore := s.handed_store .writeSite
  refine ⟨fun he => exec_answers rfl h (by decide) (writeSite_mismatch arriving harg hstore he),
    fun he hbad => exec_answers rfl h (by decide) (writeSite_argument arriving harg hstore he hbad),
    fun he hy hr hu => ?_⟩
  have htaken : writeSite arriving (s.handed .writeSite) (Cmd.writeSite.argsOf x.body) =
      (u.writeRole y.endFlag arriving, .done []) := by
    rw [writeSite_taken arriving harg hstore he hy hr,
      State.takeSite_eq arriving hstore (s.handed_node .writeSite) (s.handed_sweep .writeSite), ← hu]
  have hexec {t : State} (ht : u.writeRole y.endFlag arriving = t) (hp : t.phase = u.phase) :
      exec (.writeSite x arriving) s = .next (t.sendReply .writeSite x (.done [])) :=
    exec_effect rfl h (by decide) (htaken.trans (by rw [ht])) (by rw [hp, hu]; exact s.handed_phase _)
  have hline : u.line = (s.received .a).line := by rw [hu]; exact s.handed_line _
  have hrole : u.line.role = s.line.role := by rw [hline, State.received_role]
  have hlink : u.line.linkB = s.line.linkB := by rw [hline, State.received_linkB]
  have hqueue : u.line.outboundQueue = s.line.outboundQueue := by rw [hline, State.received_outboundQueue]
  rw [← hrole, ← hlink, ← hqueue]
  exact ⟨fun hf => hexec (State.writeRole_stands arriving hf) rfl,
    fun hf hs => hexec (State.writeRole_configures arriving hf hs) rfl,
    fun hf hs hl => hexec (State.writeRole_through arriving hf hs hl) rfl,
    fun hf hs hl hq => hexec (State.writeRole_wraps arriving hf hs hl hq) rfl⟩

end Sys2Proof.Machine
end

section
/-! The lamp reports of start-up (O6): R14, R15, R19, R22, R27, R35, R58, R165, R189. What a report does to its own face is work on
that face alone; the report then is noted, or ends start-up. -/

namespace Sys2Proof.Machine

/-! ### The report is noted, or ends start-up, R58, R189 -/

/-- The phase in which a first report of face `f` comes: the other lamp has reported where `other` holds. -/
def awaitsLamp (f : Face) (other : Bool) : Phase := if f = .e then .relighting false other else .relighting other false

/-- With the other lamp outstanding the report is noted. -/
theorem State.lampReported_noted {s : State} {f : Face} (h : s.phase = awaitsLamp f false) :
    s.lampReported f = s.setPhase (if f = .e then .relighting true false else .relighting false true) := by
  cases f <;> simp_all [State.lampReported, awaitsLamp]

/-- The report that leaves no lamp outstanding ends start-up. -/
theorem State.lampReported_last {s : State} {f : Face} (h : s.phase = awaitsLamp f true) :
    s.lampReported f = s.startUpEnd := by
  cases f <;> simp_all [State.lampReported, awaitsLamp]

section
variable {s : State}

/-- Start-up ends in END (configured). -/
theorem State.startUpEnd_configures (h : (s.store.site.valid && s.store.site.fields.endFlag) = true) :
    s.startUpEnd = (s.setPhase .running).endConfigure := by
  simp only [State.startUpEnd, State.setPhase_store, h, if_true]

/-- Start-up ends in END (wrapped). -/
theorem State.startUpEnd_wraps (h : (s.store.site.valid && s.store.site.fields.endFlag) = false)
    (hl : s.line.linkB = .down) (hq : s.line.outboundQueue.any QueuedFrame.carriesReset = false) :
    s.startUpEnd = ((s.setPhase .running).setLine
      { s.line.rxTo .b .idle with role := .endWrapped, outboundQueue := [] }).latch .wrap := by
  have hw : s.startUpEnd = (s.setPhase .running).wrap := by
    simp [State.startUpEnd, h, hl]
  rw [hw, State.wrap_plain (by exact hq)]
  rfl

/-- Start-up ends in THROUGH. -/
theorem State.startUpEnd_through (h : (s.store.site.valid && s.store.site.fields.endFlag) = false)
    (hl : s.line.linkB ≠ .down) : s.startUpEnd = (s.setPhase .running).through false := by
  simp [State.startUpEnd, h, hl]

/-- What the end of start-up sets, R51, R53, R58. -/
theorem State.startUpEnd_role (hq : s.line.outboundQueue.any QueuedFrame.carriesReset = false) :
    s.startUpEnd.phase = .running ∧
    s.startUpEnd.line.role =
      (if s.store.site.valid && s.store.site.fields.endFlag then .endConfigured
        else if s.line.linkB = .down then .endWrapped else .through) ∧
    (s.startUpEnd.line.role = .endWrapped →
      s.startUpEnd.line.outboundQueue = [] ∧ s.startUpEnd.latched .wrap = true) ∧
    (s.startUpEnd.line.role ≠ .endWrapped → s.startUpEnd.line.outboundQueue = s.line.outboundQueue) := by
  cases he : s.store.site.valid && s.store.site.fields.endFlag with
  | true =>
    rw [State.startUpEnd_configures he]
    exact ⟨rfl, rfl, fun h => (nomatch h), fun _ => rfl⟩
  | false =>
    by_cases hl : s.line.linkB = .down
    · rw [State.startUpEnd_wraps he hl hq]
      exact ⟨rfl, by simp [hl], fun _ => ⟨rfl, State.latch_latched _ _⟩, fun h => absurd rfl h⟩
    · rw [State.startUpEnd_through he hl]
      exact ⟨rfl, by simp [hl, State.through], fun h => (nomatch h), fun _ => rfl⟩

/-- The end of start-up writes the phase, the line and the class latches alone, and clears no latch. -/
theorem State.startUpEnd_rest (hq : s.line.outboundQueue.any QueuedFrame.carriesReset = false) :
    s.startUpEnd = { s with
      phase := s.startUpEnd.phase, line := s.startUpEnd.line
      fault := { s.fault with latches := s.startUpEnd.fault.latches } } ∧
    ∀ c, s.latched c = true → s.startUpEnd.latched c = true := by
  cases he : s.store.site.valid && s.store.site.fields.endFlag with
  | true =>
    rw [State.startUpEnd_configures he]
    exact ⟨rfl, fun _ h => h⟩
  | false =>
    by_cases hl : s.line.linkB = .down
    · rw [State.startUpEnd_wraps he hl hq]
      refine ⟨rfl, fun c hc => ?_⟩
      by_cases hw : c = .wrap
      · subst hw
        exact State.latch_latched _ _
      · rw [State.latch_latched_other _ _ _ (Ne.symm hw)]
        exact hc
    · rw [State.startUpEnd_through he hl]
      exact ⟨rfl, fun _ h => h⟩

end

/-- The same of a lamp report, noted or the last. -/
theorem State.lampReported_rest {s : State} {f : Face} {other : Bool} (hp : s.phase = awaitsLamp f other)
    (hq : s.line.outboundQueue.any QueuedFrame.carriesReset = false) :
    s.lampReported f = { s with
      phase := (s.lampReported f).phase, line := (s.lampReported f).line
      fault := { s.fault with latches := (s.lampReported f).fault.latches } } ∧
    ∀ c, s.latched c = true → (s.lampReported f).latched c = true := by
  cases other with
  | false =>
    rw [State.lampReported_noted hp]
    exact ⟨rfl, fun _ h => h⟩
  | true =>
    rw [State.lampReported_last hp]
    exact State.startUpEnd_rest hq

/-- What a lamp report leaves beside the line and the latches. -/
theorem State.lampReported_frame {s : State} {f : Face} {other : Bool} (hp : s.phase = awaitsLamp f other)
    (hq : s.line.outboundQueue.any QueuedFrame.carriesReset = false) :
    s.FacesOnly { s.lampReported f with phase := s.phase, line := s.line } ∧
    (∀ g, (s.lampReported f).face g = s.face g ∧ (s.lampReported f).channels g = s.channels g ∧
      (s.lampReported f).details g = s.details g) := by
  obtain ⟨hrest, -⟩ := State.lampReported_rest hp hq
  rw [hrest]
  exact ⟨.setFault s _, fun g => ⟨rfl, rfl, by cases g <;> rfl⟩⟩

/-! ### Work on one face -/

/-- The tests of R75 and R77 find nothing to do at an UNNUMBERED node. -/
theorem State.nodeTests_of_unnumbered {s : State} (h : s.node.state = .unnumbered) : s.nodeTests = s := by
  simp [State.nodeTests, h]

/-- `u` comes from `s` by work of the face controller and the element block on face `f` that gives it no target. -/
structure State.WorksOn (f : Face) (s u : State) : Prop where
  blocks : s.FacesOnly u
  faces  : s.KeepsTarget f u

namespace State.WorksOn

variable {s t u : State} {f : Face}

theorem trans (h : s.WorksOn f t) (h' : t.WorksOn f u) : s.WorksOn f u :=
  ⟨h.blocks.trans h'.blocks, h.faces.trans h'.faces⟩

theorem setLamp (c : LampChannel) : s.WorksOn f (s.setLamp f c) := ⟨.setLamp s f c, .setLamp c⟩

theorem lampFault (s : State) : s.WorksOn f (s.lampFault f) := ⟨.lampFault s f, .lampFault s⟩

theorem reportLamp (s : State) (x : ChannelFault) : s.WorksOn f (s.reportLamp f x) := ⟨.reportLamp s f x, .reportLamp s x⟩

theorem endingClose_keepsTarget (s : State) : s.KeepsTarget f (s.endingClose f) := by
  unfold State.endingClose
  split
  · exact .askClose s
  · exact .refl s

theorem litStep (s : State) : s.WorksOn f (s.litStep f) := by
  refine ⟨.litStep s f, ?_⟩
  unfold State.litStep
  split
  · exact (State.KeepsTarget.setFace (FaceRecord.settleOn_keepsTarget _ _)).trans (endingClose_keepsTarget _)
  · exact .refl s

theorem darkTest_keepsTarget (s : State) : s.KeepsTarget f (s.darkTest f) := by
  unfold State.darkTest
  split
  · refine ((State.KeepsTarget.lampOff s).trans (State.KeepsTarget.setFace ?_)).trans (endingClose_keepsTarget _)
    rw [State.lampOff_face]
    obtain ⟨htarget, hmerge, hpending⟩ := FaceRecord.settleOn_keepsTarget (s.face f) .dark
    split <;> exact ⟨htarget, hmerge, hpending⟩
  · exact .refl s

theorem channelTests (s : State) : s.WorksOn f (s.channelTests f) :=
  ⟨.channelTests s f, ((State.KeepsTarget.returnTest s).trans (darkTest_keepsTarget _)).trans (.relightTest _)⟩

/-- At an UNNUMBERED node a report ends with the tests of its face. -/
theorem afterReport {s : State} (h : s.node.state = .unnumbered) : s.WorksOn f (s.afterReport f) := by
  rw [State.afterReport, State.nodeTests_of_unnumbered (by rw [(State.FacesOnly.channelTests s f).node, h])]
  exact channelTests s

end State.WorksOn

/-- A report that follows work on its own face, R58, R189. -/
theorem State.WorksOn.lampOutcome {s u : State} {f : Face} {other : Bool} (h : s.WorksOn f u)
    (hp : s.phase = awaitsLamp f other) (hq : s.line.outboundQueue.any QueuedFrame.carriesReset = false) :
    s.lampOutcome f other (u.lampReported f) := by
  have hpu : u.phase = awaitsLamp f other := h.blocks.phase.trans hp
  have hqu : u.line.outboundQueue.any QueuedFrame.carriesReset = false := by rwa [h.blocks.line]
  obtain ⟨hblocks, hface⟩ := State.lampReported_frame hpu hqu
  obtain ⟨hother, hchannels, -⟩ := hface (otherFace f)
  refine ⟨hblocks.node.trans h.blocks.node, hblocks.sweep.trans h.blocks.sweep, hblocks.plan.trans h.blocks.plan,
    hblocks.poss.trans h.blocks.poss, hblocks.sup.trans h.blocks.sup, hblocks.store.trans h.blocks.store,
    hother.trans h.faces.otherFace, hchannels.trans h.faces.otherChannels, ?_⟩
  cases other with
  | false =>
    rw [State.lampReported_noted hpu]
    exact ⟨rfl, h.blocks.line⟩
  | true =>
    rw [State.lampReported_last hpu, ← h.blocks.store, ← h.blocks.line]
    exact State.startUpEnd_role hqu

/-! ### A lamp fault, R19, R27, R165 -/

/-- A lamp fault on its face before the report counts for start-up. -/
def State.lampDarkens (s : State) (f : Face) (c : LampChannel) (x : ChannelFault) : State :=
  ((s.setLamp f (c.block x)).reportLamp f x).lampFault f

theorem State.lampDarkens_eq (s : State) (f : Face) (c : LampChannel) (x : ChannelFault) : s.lampDarkens f c x =
    (((s.setLamp f (c.block x)).reportLamp f x).releaseDriven f).setFace f (s.face f).darken := by
  rw [State.lampDarkens, State.lampFault, State.setFace_releaseDriven, State.reportLamp_face, State.setLamp_face]

theorem State.lampFails_eq (s : State) (f : Face) (c : LampChannel) (x : ChannelFault) :
    s.lampFails f c x = (s.lampDarkens f c x).lampReported f := by
  rw [State.lampFails, ← State.lampDarkens, State.lampDarkens_eq, State.afterReport_dark rfl rfl]

theorem State.WorksOn.lampDarkens (s : State) (f : Face) (c : LampChannel) (x : ChannelFault) :
    s.WorksOn f (s.lampDarkens f c x) :=
  ((State.WorksOn.setLamp _).trans (.reportLamp _ x)).trans (.lampFault _)

theorem State.lampDarkens_failed (s : State) (f : Face) (c : LampChannel) (x : ChannelFault) :
    s.lampFailed f x (s.lampDarkens f c x) := by
  rw [State.lampDarkens_eq]
  have hlatch (d : LampChannel) (r : FaceRecord) :
      ((((s.setLamp f d).reportLamp f x).releaseDriven f).setFace f r).latched .lamp = true :=
    (State.latched_congr (by simp) _).trans (State.reportLamp_latched (s.setLamp f d) f x)
  simp [State.lampFailed, hlatch, State.reportLamp_lamp, State.reportLamp_detail, FaultDetail.add_count, LampChannel.block,
    FaceRecord.darken_eq]

/-- A lamp fault in start-up: its face, and then the report. -/
theorem State.lampFails_startUp {s : State} {f : Face} {other : Bool} (c : LampChannel) (x : ChannelFault)
    (hp : s.phase = awaitsLamp f other) (hq : s.line.outboundQueue.any QueuedFrame.carriesReset = false) :
    s.lampOutcome f other (s.lampFails f c x) ∧ s.lampFailed f x (s.lampFails f c x) := by
  have hwork := State.WorksOn.lampDarkens s f c x
  obtain ⟨hstate, hfault, hlatch, hcount, hdriven, hrecord⟩ := s.lampDarkens_failed f c x
  have hpu : (s.lampDarkens f c x).phase = awaitsLamp f other := hwork.blocks.phase.trans hp
  have hqu : (s.lampDarkens f c x).line.outboundQueue.any QueuedFrame.carriesReset = false := by rwa [hwork.blocks.line]
  obtain ⟨-, hkeeps⟩ := State.lampReported_frame hpu hqu
  obtain ⟨hface, hchannels, hdetails⟩ := hkeeps f
  have hlamp : ((s.lampDarkens f c x).lampReported f).lamp f = (s.lampDarkens f c x).lamp f :=
    congrArg FaceChannels.lamp hchannels
  rw [State.lampFails_eq]
  refine ⟨hwork.lampOutcome hp hq, ?_⟩
  unfold State.lampFailed
  rw [hlamp, hface, hdetails, State.anyDriven_congr hchannels]
  exact ⟨hstate, hfault, (State.lampReported_rest hpu hqu).2 _ hlatch, hcount, hdriven, hrecord⟩

/-! ### LIT, R14, R15, R35 -/

/-- LIT on a relighting face of an UNNUMBERED node leaves it STEADY CLOSED. -/
theorem State.lit_closes {s : State} {f : Face} (c : LampChannel) (hn : s.node.state = .unnumbered)
    (hr : (s.face f).relighting = true) (hp : (s.face f).pending = none) :
    ((s.setLamp f c).litStep f).afterReport f = (s.setLamp f c).setFace f { s.face f with
      shown := .closed, state := .steady, env := ⟨2, 2⟩, change := none } := by
  rw [State.litStep_relighting (by simpa using hr) (by simpa using hp),
    State.afterReport_at_rest (by simp) (by simp [FaceRecord.steadyDark]),
    State.nodeTests_of_unnumbered (by simpa using hn), State.setLamp_face]

/-- Settles O6: each report works on its own face and is then noted, or ends start-up; the face is read before the end of start-up,
which leaves it. -/
theorem lastLampReportEndsStartUp : Obligations.LastLampReportEndsStartUp := by
  unfold Obligations.LastLampReportEndsStartUp
  intro s f raw other hok hl hp
  obtain ⟨hn, -, hwaits⟩ : s.node.state = .unnumbered ∧ s.line.role = .through ∧ s.line.resetWaits = false := by
    rw [← State.unserved_iff]
    cases f <;> exact (State.startUpOk_relighting hp).symm.trans hok
  have hq : s.line.outboundQueue.any QueuedFrame.carriesReset = false := (Bool.or_eq_false_iff.mp hwaits).1
  refine ⟨?notLit, fun hw => ?lit, fun hm => ?overcurrent⟩
  case notLit =>
    obtain ⟨c, he⟩ := exec_lampFault (raw := raw) (.inl ⟨rfl, rfl, hl⟩)
    exact ⟨_, he, State.lampFails_startUp c .notLit hp hq⟩
  case overcurrent =>
    obtain ⟨c, he⟩ := exec_lampFault (.inr (.inr ⟨rfl, rfl, .inl hl, hm⟩))
    exact ⟨_, he, State.lampFails_startUp c .overcurrent hp hq⟩
  case lit =>
    obtain ⟨hlow, hhigh⟩ : (s.config f).lampCurrent - max 1 ((s.config f).lampCurrent / 8) ≤ s.measureLamp f raw ∧
        s.measureLamp f raw ≤ (s.config f).lampCurrent + max 1 ((s.config f).lampCurrent / 8) := by
      simpa [inLampWindow] using hw
    have hlit := State.WorksOn.setLamp (s := s) (f := f) { s.lamp f with
      state := .lit, measured := s.measureLamp f raw, timer := none }
    have hwork := hlit.trans (.litStep _)
    have hreport := hwork.trans (.afterReport (by rw [hwork.blocks.node, hn]))
    refine ⟨_, exec_lit hl hlow hhigh, hreport.lampOutcome hp hq, fun hr hnone => ?_⟩
    obtain ⟨-, hkeeps⟩ := State.lampReported_frame (hreport.blocks.phase.trans hp) (by rwa [hreport.blocks.line])
    rw [State.lit_closes _ hn hr hnone] at hkeeps ⊢
    obtain ⟨hface, hchannels, -⟩ := hkeeps f
    obtain ⟨-, -, heast⟩ := hkeeps .e
    obtain ⟨-, -, hwest⟩ := hkeeps .w
    refine ⟨(congrArg FaceChannels.lamp hchannels).trans ?_, heast.trans ?_, hwest.trans ?_, hface.trans ?_⟩
    · exact (State.setFace_lamp _ f f _).trans (State.setLamp_lamp s f _)
    · exact (State.setFace_details _ f .e _).trans (State.setLamp_details s f .e _)
    · exact (State.setFace_details _ f .w _).trans (State.setLamp_details s f .w _)
    · exact State.setFace_face _ f _

end Sys2Proof.Machine
end

section
/-! Written words read back (O54): R45, R66, R81, R82, R191, R192, R193. The fields of a word are written from the highest down; a
field reads back as it was written, and as it was beside a field written below it. -/

namespace Sys2Proof.Machine

/-! ### Fields read back -/

/-- The field written last reads back. -/
@[simp] theorem bits_or_fld_same {w : Word} {lo len v : Nat} (hw : ClearBelow w (lo + len)) (h : lo + len ≤ 16)
    (hv : v < 2 ^ len) : bits (w ||| fld v lo len) lo len = v := by
  have hsum : (w ||| fld v lo len).toNat = w.toNat + v * 2 ^ lo := by rw [or_fld_toNat v hw h, Nat.mod_eq_of_lt hv]
  obtain ⟨q, hq⟩ := hw
  have hshift : w.toNat + v * 2 ^ lo = 2 ^ lo * (2 ^ len * q + v) := by rw [hq, Nat.pow_add]; ring
  rw [bits, hsum, hshift, Nat.mul_div_cancel_left _ (Nat.two_pow_pos lo), Nat.mul_add_mod, Nat.mod_eq_of_lt hv]

/-- A field reads as before beside a field written below it. -/
@[simp] theorem bits_or_fld_above {w : Word} {lo len lo' len' : Nat} (v : Nat) (h : lo + len ≤ lo')
    (h' : lo' ≤ 16) : bits (w ||| fld v lo len) lo' len' = bits w lo' len' := by
  have hlow : (fld v lo len).toNat < 2 ^ (lo + len) := by
    rw [fld_toNat v (h.trans h'), Nat.pow_add, Nat.mul_comm]
    exact Nat.mul_lt_mul_of_pos_left (Nat.mod_lt _ (Nat.two_pow_pos len)) (Nat.two_pow_pos lo)
  have hclear : (fld v lo len).toNat / 2 ^ lo' = 0 :=
    Nat.div_eq_of_lt (hlow.trans_le (Nat.pow_le_pow_right (by decide) h))
  simp only [bits, BitVec.toNat_or, Nat.or_div_two_pow, hclear, Nat.or_zero]

/-- A field alone in its word reads back. -/
@[simp] theorem bits_fld_same {lo len v : Nat} (h : lo + len ≤ 16) (hv : v < 2 ^ len) : bits (fld v lo len) lo len = v := by
  rw [bits, fld_toNat v h, Nat.mul_div_cancel _ (Nat.two_pow_pos lo), Nat.mod_mod, Nat.mod_eq_of_lt hv]

/-- A bit is the field of one bit at its place. -/
theorem bits_one (w : Word) (i : Nat) : bits w i 1 = (bit w i).toNat := by
  simp [bits, bit, BitVec.getLsbD, Nat.toNat_testBit]

/-! ### Lane entries, R82, R192 -/

/-- An aspect is the aspect of its code, R194. -/
@[simp] theorem Aspect.ofCode_code (a : Aspect) : Aspect.ofCode a.code = some a := by cases a <;> rfl

/-- A half with ordered ranks is taken as written. -/
theorem readHalf_code (h : Half) (horder : h.floor ≤ h.ceiling) (htop : h.ceiling ≤ 2) :
    readHalf h.shown.code h.floor h.ceiling = some h := by
  simp [readHalf, horder, htop]

/-- An entry with ordered ranks reads back from its word: each rank fits its two bits and the valid bit is set. -/
theorem readEntry_writeEntry (x : LaneEntry) (he : x.e.floor ≤ x.e.ceiling) (het : x.e.ceiling ≤ 2)
    (hw : x.w.floor ≤ x.w.ceiling) (hwt : x.w.ceiling ≤ 2) : readEntry (writeEntry x) = some x := by
  have hef : x.e.floor < 4 := by omega
  have hec : x.e.ceiling < 4 := by omega
  have hwf : x.w.floor < 4 := by omega
  have hwc : x.w.ceiling < 4 := by omega
  have hvalid : bit (writeEntry x) 14 = true := by
    rw [← Bool.toNat_eq_one, ← bits_one]
    simp [writeEntry]
  have heast : readHalf (bits (writeEntry x) 11 3) (bits (writeEntry x) 9 2) (bits (writeEntry x) 7 2) = some x.e := by
    simpa [writeEntry, hef, hec] using readHalf_code x.e he het
  have hwest : readHalf (bits (writeEntry x) 4 3) (bits (writeEntry x) 2 2) (bits (writeEntry x) 0 2) = some x.w := by
    simpa [writeEntry, hwf, hwc] using readHalf_code x.w hw hwt
  simp [readEntry, hvalid, heast, hwest]

/-! ### Sweep bodies, R81, R192 -/

theorem hiByte_twoBytes {hi : Nat} (lo : Nat) (h : hi ≤ 255) : hiByte (twoBytes hi lo) = hi := by
  have hhi : hi < 256 := by omega
  simp [hiByte, twoBytes, hhi]

theorem loByte_twoBytes (hi : Nat) {lo : Nat} (h : lo ≤ 255) : loByte (twoBytes hi lo) = lo := by
  have hlo : lo < 256 := by omega
  simp [loByte, twoBytes, hlo]

/-- A body with whole vectors and byte fields reads back from its words: each vector stands at its eight words. -/
theorem SweepBody.ofWords_toWords (b : SweepBody) (hplan : b.plan ≤ 255) (hend : b.endAddress ≤ 255)
    (hcur : b.curGantry ≤ 255) (hprev : b.prevGantry ≤ 255) (hc : b.cur.length = 8) (hp : b.prev.length = 8)
    (he : b.east.length = 8) (hfaulted : b.faulted ≤ 255) (hpending : b.pending ≤ 255) (hage : b.waitAge ≤ 255)
    (haddr : b.waitAddr ≤ 255) : SweepBody.ofWords b.toWords = some b := by
  have hlen : b.toWords.length = sweepBodyWords := by simp [toWords, sweepBodyWords, hc, hp, he]
  have hvectors : (b.toWords.drop 3).take 8 = b.cur ∧ (b.toWords.drop 11).take 8 = b.prev ∧
      (b.toWords.drop 19).take 8 = b.east := by
    simp [toWords, List.drop_append, List.take_append, hc, hp, he]
  have hhead : b.toWords.getD 0 0 = b.seq ∧ b.toWords.getD 1 0 = twoBytes b.plan b.endAddress ∧
      b.toWords.getD 2 0 = twoBytes b.curGantry b.prevGantry := ⟨rfl, rfl, rfl⟩
  have htail : b.toWords.getD 27 0 = twoBytes b.faulted b.pending ∧
      b.toWords.getD 28 0 = twoBytes b.waitAge b.waitAddr := by
    simp [toWords, List.getD_eq_getElem?_getD, hc, hp, he]
  obtain ⟨hcurV, hprevV, heastV⟩ := hvectors
  obtain ⟨h0, h1, h2⟩ := hhead
  obtain ⟨h27, h28⟩ := htail
  rw [ofWords, if_pos hlen, h0, h1, h2, h27, h28, hcurV, hprevV, heastV]
  simp only [hiByte_twoBytes, loByte_twoBytes, hplan, hend, hcur, hprev, hfaulted, hpending, hage, haddr]

/-! ### Command codes, R66, R193 -/

/-- A command is the command of its code. -/
theorem Cmd.ofCode_code (c : Cmd) : Cmd.ofCode (BitVec.ofNat 8 c.row.code) = some c := by cases c <;> rfl

/-! ### Frames, R45, R191 -/

theorem Frame.fits_iff (f : Frame) : f.fits = true ↔ 4 ≤ f.length ∧ f.length ≤ 127 := by
  simp only [fits, Bool.and_eq_true, decide_eq_true_eq]
  rfl

@[simp] theorem Frame.wire_length (f : Frame) : f.wire.length = f.length := by simp [wire, words, length]

/-- Word 0 holds LENGTH, for a frame of at most 127 words. -/
theorem Frame.word0_length (f : Frame) (h : f.length ≤ 127) : f.word0.toNat % 128 = f.length := by
  have hfits : f.length < 128 := by omega
  rw [← bits_length]
  simp [word0, hfits]

/-- Word 0 holds the PASS bit, set on the return pass. -/
theorem Frame.word0_pass (f : Frame) : f.word0.getLsbD 11 = (f.pass == .ret) := by
  have hcode : f.pass.code < 2 := by cases f.pass <;> decide
  have hbit : (f.word0.getLsbD 11).toNat = f.pass.code := by
    rw [← bits_pass]
    simp [word0, hcode]
  cases hp : f.pass <;> rw [hp] at hbit
  · exact Bool.toNat_eq_zero.mp hbit
  · exact Bool.toNat_eq_one.mp hbit

/-- A frame of 4-127 words passes the three checks on the port of its pass: word 0 holds its LENGTH and its PASS, and the last
word is the CRC of the others. -/
theorem frameError_wire {f : Frame} {p : Port} (hfits : f.fits = true) (hpass : f.pass = passOf p) :
    frameError p f.wire = none := by
  obtain ⟨hmin, hmax⟩ := f.fits_iff.mp hfits
  have hhead : f.wire.headD 0 = f.word0 := rfl
  have hcrc : f.wire.getLastD 0 = crc f.wire.dropLast := by simp [Frame.wire]
  have hbit : f.word0.getLsbD 11 = (p == .b) := by
    rw [f.word0_pass, hpass]
    cases p <;> rfl
  rw [frameError_of_length p (by rwa [f.wire_length]) (by rw [hhead, f.wire_length, f.word0_length hmax]), hhead,
    if_neg (not_not_intro hcrc), if_neg (not_not_intro hbit)]

/-- Settles O54: each of the four encodings reads back. -/
theorem encodingsReadBack : Obligations.EncodingsReadBack := by
  unfold Obligations.EncodingsReadBack
  intro x b c p f
  exact ⟨readEntry_writeEntry x, b.ofWords_toWords, c.ofCode_code, frameError_wire⟩

/-! ### The front of the queue -/

/-- With nothing waiting a step idles (log 4). -/
theorem step_nil {s : State} (h : s.pending = []) : step s = .next s := by simp [step, h]

/-- Settles O1: a step takes the front command, and idles where there is none. -/
theorem stepRunsTheFrontCommand : Obligations.StepRunsTheFrontCommand := by
  unfold Obligations.StepRunsTheFrontCommand
  exact ⟨fun _ _ _ => step_cons rfl, fun _ => step_nil rfl⟩

end Sys2Proof.Machine
end
